-- ==== Sys2Proof/Word.lean ====
section
/-! DEFINITION. The word types of the Dalvoro 6240: what the manual treats as bits, and nothing else. -/

namespace Sys2Proof

/-- One byte of a cell or of a message (chapter 12: bit 7 is the most significant). -/
abbrev Byte := BitVec 8

/-- A station clock value: a 32-bit count of microseconds that wraps (R47). Cell stamps are the same width. -/
abbrev Clock := BitVec 32

/-- The 6-bit run count, modulo 64 (R30). -/
abbrev Run := BitVec 6

/-- A 32-bit service key: network 16 bits, service number 16 bits (R7). -/
abbrev Key := BitVec 32

end Sys2Proof
end

