-- ==== Sys2Proof/Config.lean ====
section
/-! DEFINITION. What the part fixes (capacities, codes) and the free values: constants with no body, for the
values the manual leaves open. -/

namespace Sys2Proof.Config

/-! Capacities (00_scope.md, Capacities). -/

def houseLane : Nat := 16
def houseEntry : Nat := 63
def maxServices : Nat := 512
def maxCarriages : Nat := 1024
def maxBindings : Nat := 2048
/-- Components that may share one binding (R14, R15). -/
def maxSharers : Nat := 4
/-- Carriages in one ranked list (R108). -/
def maxRanked : Nat := 8
def slotCount : Nat := 128
/-- Cell buffers in the output store (R148). -/
def buffers : Nat := 8192
def controlPlaces : Nat := 64
def inputPlaces : Nat := 16
def logPlaces : Nat := 32
def payloadBytes : Nat := 152
def cellBytes : Nat := 160
/-- The greatest declared length of a directory message: sixteen cells (R49). -/
def maxDirectoryBytes : Nat := 2432
/-- Saturation of the counters that are 32 bits wide (R44, R48, R66, R126, R161, R165). -/
def counter32 : Nat := 4294967295
/-- Saturation of a binding's counters (R14). -/
def counter24 : Nat := 16777215

/-! Flows (section 2.2). -/

def voidFlow : Nat := 4095
def statusFlow : Nat := 4094
def orderFlow : Nat := 4093
def managementFlow : Nat := 4080
def directoryFlow : Nat := 4064
/-- The first flow that is no programme flow (00_scope.md, Flow). -/
def firstReservedFlow : Nat := 4032

/-! Free values. The manual gives none of these; no proof can see what they are. -/

/-- FREE VALUE (log 1). The key by which the model orders steps that come due together: first argument, the
count of free values used so far; second, the place of the step in the list of due steps. Any order results
for some values of it, as "either may be first" (R182 and the rules it lists). -/
opaque coincidenceKey : Nat → Nat → Nat

/-- FREE VALUE (log 7). The run (bits 42..37), the marks S K E T D (bits 36..32) and the stamp (bits 31..0) of a
cell sent on a return path (R33 gives its flow and its payload, and nothing else). The argument is the count
of free values used so far. -/
opaque returnHeader : Nat → BitVec 43

/-- What PROMPT SURVEY reports of its entry (R172). -/
inductive PromptOutcome where
  | joined
  | already
  | notEligible
deriving DecidableEq, Repr

/-- FREE VALUE (log 8). The code of a PROMPT SURVEY outcome in the result: R172 lists the three outcomes and
chapter 12 codes none of them. -/
opaque promptCode : PromptOutcome → Byte

end Sys2Proof.Config
end

