-- ==== Sys2Proof/Syntax.lean ====
section
/-! DEFINITION. The commands the part takes: one constructor per row of spec/opcode_table.json. -/

namespace Sys2Proof

/-- One step of the part, each whole and indivisible (95_what_each_step_holds.md). The rows of the controller's
commands carry no argument bytes: they take the command at the head of the command input queue (R167), whose
arguments CELL_ARRIVAL put there. -/
inductive Instr where
  /-- POWER_ON (R181). `pins` is the level of the unit-address pins as the reset ends. -/
  | powerOn (pins : BitVec 3)
  /-- RESET_PIN (R181): the pin is asserted. -/
  | resetPin
  /-- CELL_ARRIVAL (R27): the 160 bytes of one cell arrive on a lane. -/
  | cellArrival (lane : Nat) (cell : List Byte)
  /-- ORDER_CELL_SEND (R33): a cell boundary of a lane's return path. -/
  | orderCellSend (lane : Nat)
  /-- LOCK_TIMEOUT (R37). -/
  | lockTimeout (lane : Nat)
  /-- SILENCE_EXPIRY (R38). -/
  | silenceExpiry (lane : Nat)
  /-- STALL_EXPIRY (R40). -/
  | stallExpiry (carriage : Nat)
  /-- WINDOW_END (R41). -/
  | windowEnd (lane : Nat)
  /-- VISIT_LOCK_TIMEOUT (R72). -/
  | visitLockTimeout (lane : Nat)
  /-- SETTLE_EXPIRY (R73). -/
  | settleExpiry (lane : Nat)
  /-- DWELL_END (R81). -/
  | dwellEnd (lane : Nat)
  /-- CHANGEOVER_TIMEOUT (R134). -/
  | changeoverTimeout (slot : Nat)
  /-- SPLICING_TIMEOUT (R136). -/
  | splicingTimeout (slot : Nat)
  /-- DIRECTORY_PERIOD_EXPIRY (R161). -/
  | directoryPeriodExpiry
  /-- CELL_OPPORTUNITY (R158). -/
  | cellOpportunity
  /-- NOTICE_PLACED (R186). -/
  | noticePlaced
  /-- UNKNOWN_COMMAND (R169). -/
  | unknownCommand
  /-- RESTART (R181). `pins` is the level of the unit-address pins as the reset ends. -/
  | restart (pins : BitVec 3)
  /-- SET_POLICY (R170). -/
  | setPolicy
  /-- SET_SURVEY (R83). -/
  | setSurvey
  /-- SET_OUTPUT (R171). -/
  | setOutput
  /-- SET_PLAN_ENTRY (R3). -/
  | setPlanEntry
  /-- CLEAR_PLAN_ENTRY (R4). -/
  | clearPlanEntry
  /-- PARK_LANE (R5). -/
  | parkLane
  /-- ROVE_LANE (R67). -/
  | roveLane
  /-- RELEASE_LANE (R26). -/
  | releaseLane
  /-- SET_LANE (R26). -/
  | setLane
  /-- SET_SLOT (R143). -/
  | setSlot
  /-- CLEAR_SLOT (R144). -/
  | clearSlot
  /-- EXCHANGE_SLOTS (R145). -/
  | exchangeSlots
  /-- PIN_SERVICE (R117). -/
  | pinService
  /-- SET_WATCH (R64). -/
  | setWatch
  /-- PROMPT_SURVEY (R70). -/
  | promptSurvey
  /-- READ_LANE (R174). -/
  | readLane
  /-- READ_PLAN_ENTRY (R174). -/
  | readPlanEntry
  /-- READ_SERVICE (R175). -/
  | readService
  /-- READ_CARRIAGE (R175). -/
  | readCarriage
  /-- READ_SLOT (R176). -/
  | readSlot
  /-- FLUSH_CARRIAGE (R179). -/
  | flushCarriage
  /-- FORGET_CARRIAGE (R180). -/
  | forgetCarriage
  /-- READ_NOTICES (R187). -/
  | readNotices
  /-- READ_DISCOVERY_LOG (R190). -/
  | readDiscoveryLog
  /-- LIST_SERVICES (R177). -/
  | listServices
  /-- LIST_CARRIAGES (R178). -/
  | listCarriages
  /-- RESET_PIN_RELEASE (R181): the pin is released. `pins` as in POWER_ON. -/
  | resetPinRelease (pins : BitVec 3)
deriving DecidableEq, Repr

end Sys2Proof
end

