-- ==== Sys2Proof/Decode.lean ====
section
/-! DEFINITION. The decoder of table words. -/

namespace Sys2Proof

/-- The command a word spells by the bits of spec/opcode_table.json. No row of this hardware's table gives bits
(98_reader.md counts no row with "fixed" and none with "fields"), so no word spells a command (log 33). How command
cells are read (12.4) is in Machine/Operands.lean. -/
def decodeTableWord (_nbits _w : Nat) : Option Instr := none

end Sys2Proof
end

