-- ==== Sys2Proof/Machine/State.lean ====
section
/-! DEFINITION. The state of the part, block by block, as plain data, and the state after a full reset. -/

namespace Sys2Proof.Machine

open Sys2Proof

/-- A running timer: the station clock at its start and its length in microseconds. A stopped timer is `none`. -/
structure Timer where
  start : Clock
  span  : Nat
deriving DecidableEq, Repr

/-! ## Plan register (R1, R68) -/

inductive SurveyOutcome where
  | notVisited
  | noLock
  | noDirectory
  | surveyed
deriving DecidableEq, Repr

/-- A plan entry (R1). -/
structure PlanEntry where
  tuningWord       : Option (BitVec 64)
  bias             : Int
  surveyEnable     : Bool
  multiplexId      : Option (BitVec 16)
  directoryVersion : Option Nat
  parkedLane       : Option Nat
  visitingLane     : Option Nat
  surveyOutcome    : SurveyOutcome
  surveyTime       : Option Clock
  surveyMargin     : Option Nat
  serviceCount     : Nat
deriving DecidableEq, Repr

/-- The reset values of R1. -/
def PlanEntry.fresh : PlanEntry :=
  { tuningWord := none, bias := 0, surveyEnable := false, multiplexId := none, directoryVersion := none,
    parkedLane := none, visitingLane := none, surveyOutcome := .notVisited, surveyTime := none,
    surveyMargin := none, serviceCount := 0 }

/-- Entry 63 at full reset (R2). -/
def PlanEntry.house : PlanEntry := { PlanEntry.fresh with parkedLane := some Config.houseLane }

/-! ## Lane receivers, with each lane's directory assembler and rover record (R25, R44, R48, R66) -/

inductive LaneMode where
  | idle
  | parked
  | roving
deriving DecidableEq, Repr

inductive ParkedState where
  | await
  | locked
  | unlocked
  | silent
deriving DecidableEq, Repr

/-- The flag causes of a lane: a set (R25). -/
structure LaneCauses where
  unlocked  : Bool
  silent    : Bool
  degraded  : Bool
  recovered : Bool
  restart   : Bool
deriving DecidableEq, Repr

def LaneCauses.empty : LaneCauses :=
  { unlocked := false, silent := false, degraded := false, recovered := false, restart := false }

/-- The lane counters (R44). -/
structure LaneCounters where
  received    : Nat
  headerError : Nat
  void        : Nat
  unexpected  : Nat
  unbound     : Nat
  idle        : Nat
  duplicate   : Nat
  status      : Nat
  stale       : Nat
  uncorrected : Nat
  resends     : Nat
deriving DecidableEq, Repr

def LaneCounters.zero : LaneCounters :=
  { received := 0, headerError := 0, void := 0, unexpected := 0, unbound := 0, idle := 0, duplicate := 0,
    status := 0, stale := 0, uncorrected := 0, resends := 0 }

inductive OrderKind where
  | tune
  | halt
deriving DecidableEq, Repr

/-- An order that waits for the next cell boundary of its lane's return path (R33). -/
structure Order where
  kind : OrderKind
  tag  : Nat
  word : BitVec 64
deriving DecidableEq, Repr

/-- The causes of a rejected directory (R53). -/
inductive RejectCause where
  | badCheck
  | badSection
  | badCount
  | badLength
  | badComponents
  | badFlow
  | badName
  | duplicateKey
  | duplicateFlow
  | badTiming
deriving DecidableEq, Repr

/-- A directory assembler (R48). `held` is the payload bytes of the cells held (R49, R50). -/
structure Assembler where
  capturing      : Bool
  cellsHeld      : Nat
  bytesHeld      : Nat
  declaredLength : Option Nat
  nextRun        : Option Run
  held           : List Byte
  firstPending   : Bool
  lastRejection  : Option RejectCause
  accepted       : Nat
  repeats        : Nat
  broken         : Nat
  rejected       : Nat
  stray          : Nat
  unlocked       : Nat
deriving DecidableEq, Repr

def Assembler.fresh : Assembler :=
  { capturing := false, cellsHeld := 0, bytesHeld := 0, declaredLength := none, nextRun := none, held := [],
    firstPending := false, lastRejection := none, accepted := 0, repeats := 0, broken := 0, rejected := 0,
    stray := 0, unlocked := 0 }

inductive VisitState where
  | tuning
  | settling
  | dwelling
  | paused
deriving DecidableEq, Repr

/-- The rover record of a roving lane (R66). -/
structure Rover where
  visitState        : VisitState
  claimedEntry      : Option Nat
  visitTag          : Option Nat
  visitTimer        : Option Timer
  directoryTaken    : Bool
  dwellServiceCount : Nat
  visits            : Nat
  surveyed          : Nat
  noLock            : Nat
  noDirectory       : Nat
  abandoned         : Nat
  late              : Nat
deriving DecidableEq, Repr

/-- A rover record at its creation (R66). The visit state is set by the first claim, which is part of the same
act (R67, R69). -/
def Rover.fresh : Rover :=
  { visitState := .paused, claimedEntry := none, visitTag := none, visitTimer := none, directoryTaken := false,
    dwellServiceCount := 0, visits := 0, surveyed := 0, noLock := 0, noDirectory := 0, abandoned := 0, late := 0 }

/-- A lane receiver's record (R25), with its directory assembler (R48), the rover record while the lane is
roving (R66), and what the return path carried last (log 21). -/
structure Lane where
  mode              : LaneMode
  entry             : Option Nat
  parkedState       : Option ParkedState
  tagCounter        : Nat
  currentTag        : Option Nat
  acknowledged      : Bool
  statusInterval    : Nat
  latestMargin      : Option Nat
  latestLevel       : Option Int
  lastStatusTime    : Option Clock
  windowMargin      : Option Nat
  windowStatusCount : Nat
  uncorrectedSeen   : Bool
  headerErrorSeen   : Bool
  faultScore        : Nat
  degraded          : Bool
  laneFlag          : Bool
  flagCauses        : LaneCauses
  counters          : LaneCounters
  lockTimer         : Option Timer
  silenceTimer      : Option Timer
  windowTimer       : Option Timer
  pendingOrder      : Option Order
  returnOut         : Option (List Byte)
  asm               : Assembler
  rover             : Option Rover
deriving DecidableEq, Repr

/-- Lanes 0..15 after a full reset (R25, R48). No order waits: that one made before the reset is not sent after it is
the model's choice (log 35). -/
def Lane.fresh : Lane :=
  { mode := .idle, entry := none, parkedState := none, tagCounter := 1, currentTag := none, acknowledged := false,
    statusInterval := 100, latestMargin := none, latestLevel := none, lastStatusTime := none,
    windowMargin := none, windowStatusCount := 0, uncorrectedSeen := false, headerErrorSeen := false,
    faultScore := 0, degraded := false, laneFlag := false, flagCauses := LaneCauses.empty,
    counters := LaneCounters.zero, lockTimer := none, silenceTimer := none, windowTimer := none,
    pendingOrder := none, returnOut := none, asm := Assembler.fresh, rover := none }

/-- Lane 16 after a full reset (R46, R48): parked on entry 63 and LOCKED, its window timer started for the
default window length of one second. Section 2.9 gives lane 16 no tag counter, latest margin, latest level or last
status time; R25's column for lanes 0..15 is taken for them, which is the model's choice (log 36). -/
def Lane.house : Lane :=
  { Lane.fresh with
    mode := .parked, entry := some Config.houseEntry, parkedState := some .locked,
    windowTimer := some { start := 0, span := 1000000 },
    asm := { Assembler.fresh with firstPending := true } }

/-! ## Catalogue (R7, R11, R14, R64, R84, R106) -/

/-- The rank causes of a service: a set (R106). -/
structure RankCauses where
  prospect : Bool
  lastCopy : Bool
deriving DecidableEq, Repr

def RankCauses.empty : RankCauses := { prospect := false, lastCopy := false }

/-- A service record (R7, R106). -/
structure Service where
  key             : Key
  name            : List Byte
  rankedList      : List Nat
  selected        : Option Nat
  candidate       : Option Nat
  confirmCount    : Nat
  pinned          : Option Nat
  bestProspect    : Option Nat
  selectableCount : Nat
  rankFlag        : Bool
  slotRefs        : Nat
  prospectLead    : Bool
  rankCauses      : RankCauses
deriving DecidableEq, Repr

/-- A new service record (R8, R106). -/
def Service.fresh (key : Key) (name : List Byte) : Service :=
  { key := key, name := name, rankedList := [], selected := none, candidate := none, confirmCount := 0,
    pinned := none, bestProspect := none, selectableCount := 0, rankFlag := false, slotRefs := 0,
    prospectLead := false, rankCauses := RankCauses.empty }

inductive Kind where
  | video
  | audio
  | text
  | data
deriving DecidableEq, Repr

/-- The name of a binding: its lane and flow (R14). -/
structure BindingName where
  lane : Nat
  flow : Nat
deriving DecidableEq, Repr

/-- A component of a carriage, with its binding reference (R11). -/
structure Component where
  kind    : Kind
  flow    : Nat
  binding : Option BindingName
deriving DecidableEq, Repr

inductive CarriageState where
  | shelved
  | survey
  | incomplete
  | probation
  | usable
  | faulted
deriving DecidableEq, Repr

/-- The inputs and results of a scored window (R101). -/
structure LastWindow where
  n : Nat
  g : Nat
  x : Nat
  m : Nat
  j : Nat
  p : Option Nat
  q : Option Nat
  w : Nat
deriving DecidableEq, Repr

/-- A carriage (R11). `service` is the key of its service record (log 26). `wholeWindow` is the mark of R84,
absent as R84 says. `boundTime` is the time the carriage last bound (R40), and `heard` says that a cell was accepted on
its primary component's binding since then, so that the binding's *last cell time* is the later of R40's two times
(log 39). -/
structure Carriage where
  entry        : Nat
  service      : Key
  components   : List Component
  timing       : Option Nat
  state        : CarriageState
  lane         : Option Nat
  laneDown     : Bool
  stalled      : Bool
  merit        : Option Nat
  faultScore   : Nat
  peakFault    : Nat
  probation    : Nat
  missing      : Nat
  lastWindow   : Option LastWindow
  surveyFigure : Option Nat
  surveyTime   : Option Clock
  wholeWindow  : Option Bool
  boundTime    : Clock
  heard        : Bool
deriving DecidableEq, Repr

/-- The last stamp and its arrival time (R32). -/
structure Pairing where
  stamp   : BitVec 32
  arrival : Clock
deriving DecidableEq, Repr

/-- A binding (R14). -/
structure Binding where
  name          : BindingName
  refCount      : Nat
  expectedRun   : Option Run
  n             : Nat
  g             : Nat
  x             : Nat
  duplicates    : Nat
  pairing       : Option Pairing
  peakJ         : Nat
  deviationSeen : Bool
  lastCellTime  : Clock
deriving DecidableEq, Repr

/-! ## Lineup Table (R126, R127, R149) -/

inductive SlotState where
  | vacant
  | dark
  | armed
  | splicing
  | steady
deriving DecidableEq, Repr

inductive Capacity where
  | automatic
  | cells (n : Nat)
deriving DecidableEq, Repr

inductive Margin where
  | standard
  | cells (n : Nat)
deriving DecidableEq, Repr

/-- The change causes of a slot: a set (R126). -/
structure SlotCauses where
  changeover : Bool
  forced     : Bool
  dark       : Bool
deriving DecidableEq, Repr

def SlotCauses.empty : SlotCauses := { changeover := false, forced := false, dark := false }

/-- A carriage and one of its component indices (R127). -/
structure Feed where
  carriage  : Nat
  component : Nat
deriving DecidableEq, Repr

/-- An output flow record (R127). -/
structure OutFlow where
  run     : Run
  feed    : Option Feed
  restart : Bool
deriving DecidableEq, Repr

def OutFlow.fresh : OutFlow := { run := 0, feed := none, restart := false }

/-- The fields of a cell header and the payload, as the composer and the store hold a cell (R138, R149). -/
structure Cell where
  flow    : Nat
  run     : Run
  s       : Bool
  k       : Bool
  e       : Bool
  t       : Bool
  d       : Bool
  stamp   : BitVec 32
  payload : List Byte
deriving DecidableEq, Repr

/-- A slot (R126) with its six output flows (R127) and its queue (R149). -/
structure Slot where
  state          : SlotState
  primary        : Option Key
  fallback       : Option Key
  channel        : Option Nat
  baseFlow       : Option Nat
  capacity       : Option Capacity
  margin         : Option Margin
  onAir          : Option Nat
  target         : Option Nat
  onFallback     : Bool
  switched       : List Nat
  forcedPending  : Bool
  reviewPending  : Bool
  armedTime      : Option Clock
  lastChangeover : Option Clock
  cleanSplices   : Nat
  forcedSplices  : Nat
  overflows      : Nat
  changeFlag     : Bool
  changeCauses   : SlotCauses
  timer          : Option Timer
  flows          : List OutFlow
  queue          : List Cell
deriving DecidableEq, Repr

/-- A slot after a full reset (R126, R127). -/
def Slot.vacant : Slot :=
  { state := .vacant, primary := none, fallback := none, channel := none, baseFlow := none, capacity := none,
    margin := none, onAir := none, target := none, onFallback := false, switched := [], forcedPending := false,
    reviewPending := false, armedTime := none, lastChangeover := none, cleanSplices := 0, forcedSplices := 0,
    overflows := 0, changeFlag := false, changeCauses := SlotCauses.empty, timer := none,
    flows := List.replicate 6 OutFlow.fresh, queue := [] }

/-! ## Settings (00_scope.md, Settings and their defaults) -/

structure Policy where
  windowLength      : Nat
  smoothingShift    : Nat
  failThreshold     : Nat
  faultLimit        : Nat
  faultClear        : Nat
  probationWindows  : Nat
  switchMargin      : Nat
  confirmCount      : Nat
  absenceLimit      : Nat
  stallTime         : Nat
  changeoverTimeout : Nat
deriving DecidableEq, Repr

def Policy.standard : Policy :=
  { windowLength := 4, smoothingShift := 2, failThreshold := 300, faultLimit := 64, faultClear := 32,
    probationWindows := 2, switchMargin := 40, confirmCount := 3, absenceLimit := 3, stallTime := 600,
    changeoverTimeout := 2000 }

structure SurveySettings where
  lockTimeout : Nat
  settleTime  : Nat
  dwellTime   : Nat
deriving DecidableEq, Repr

def SurveySettings.standard : SurveySettings := { lockTimeout := 1500, settleTime := 200, dwellTime := 3000 }

/-- A set of notice classes (R183). -/
structure NoticeSet where
  lane      : Bool
  onAir     : Bool
  rank      : Bool
  discovery : Bool
deriving DecidableEq, Repr

def NoticeSet.empty : NoticeSet := { lane := false, onAir := false, rank := false, discovery := false }

/-- The settings of SET OUTPUT (R171). `mask` holds the masked classes. -/
structure OutputSettings where
  portCellRate    : Nat
  lineupId        : BitVec 16
  directoryPeriod : Nat
  logAll          : Bool
  mask            : NoticeSet
deriving DecidableEq, Repr

def OutputSettings.standard : OutputSettings :=
  { portCellRate := 250000, lineupId := 0, directoryPeriod := 500, logAll := false, mask := NoticeSet.empty }

/-! ## Output store and lineup port (R148, R157, R159 to R164) -/

/-- Reply statuses (R168). -/
inductive Status where
  | done
  | clamped
  | badIndex
  | noRoom
  | inUse
  | notFound
  | conflict
  | unknown
deriving DecidableEq, Repr

/-- A reply or notice that waits in the control queue: every field but the station clock and the CRC-16, which
are completed at emission (R156). -/
structure ControlCell where
  address : Byte
  tag     : BitVec 16
  code    : Byte
  status  : Status
  result  : List Byte
deriving DecidableEq, Repr

/-- A cell that waits in the directory queue: whether it is the first of its section (R160), and its payload. -/
structure DirectoryCell where
  first   : Bool
  payload : List Byte
deriving DecidableEq, Repr

/-- One service entry of the lineup directory (R162). -/
structure LineupEntry where
  key        : Key
  channel    : Nat
  name       : List Byte
  components : List (Kind × Nat)
  timing     : Option Nat
deriving DecidableEq, Repr

/-- The content of a lineup directory (R163): its multiplex id and the service entries of every section. -/
structure LineupContent where
  multiplexId : BitVec 16
  sections    : List (List LineupEntry)
deriving DecidableEq, Repr

/-- The output store and the lineup port (R148, R157, R159, R160, R161, R163). `portOut` is the cell last emitted
(log 21). Opportunity `oppIndex` of the rate `oppRate` comes floor(oppIndex × 1,000,000 / oppRate) µs after
`oppOrigin` (R157); `rateSet` says that SET OUTPUT has set a rate that takes effect at the next opportunity. -/
structure Store where
  freeBuffers     : Nat
  automaticShare  : Option Nat
  controlQueue    : List ControlCell
  directoryQueue  : List DirectoryCell
  spacingCount    : Nat
  pressuredPtr    : Nat
  servicePtr      : Nat
  managementRun   : Run
  managementBegun : Bool
  directoryRun    : Run
  directoryBegun  : Bool
  lineupVersion   : Nat
  lastContent     : Option LineupContent
  directorySkips  : Nat
  directoryTimer  : Option Timer
  oppOrigin       : Clock
  oppIndex        : Nat
  oppRate         : Nat
  rateSet         : Bool
  portOut         : Option (List Byte)
deriving DecidableEq, Repr

def Store.fresh : Store :=
  { freeBuffers := Config.buffers, automaticShare := none, controlQueue := [], directoryQueue := [],
    spacingCount := 15, pressuredPtr := 127, servicePtr := 127, managementRun := 0, managementBegun := false,
    directoryRun := 0, directoryBegun := false, lineupVersion := 0, lastContent := none, directorySkips := 0,
    directoryTimer := some { start := 0, span := 500000 }, oppOrigin := 0, oppIndex := 0, oppRate := 250000,
    rateSet := false, portOut := none }

/-! ## Management unit (R165, R185, R188, R189) -/

/-- A command cell in the command input queue (R166, 12.4): its tag, its command code and its arguments. -/
structure Command where
  tag  : BitVec 16
  code : Byte
  args : List Byte
deriving DecidableEq, Repr

inductive RecordKind where
  | newService
  | recomposed
  | vanished
  | entryChanged
  | tableFull
deriving DecidableEq, Repr

/-- A record of the discovery log (R189). -/
structure DiscoveryRecord where
  kind     : RecordKind
  entry    : Nat
  key      : Key
  carriage : Option Nat
  time     : Clock
deriving DecidableEq, Repr

structure Management where
  unitAddress    : Nat
  inputQueue     : List Command
  restartWaiting : Bool
  badCheck       : Nat
  dropped        : Nat
  owed           : Bool
  log            : List DiscoveryRecord
  overflow       : Bool
deriving DecidableEq, Repr

def Management.fresh : Management :=
  { unitAddress := 0, inputQueue := [], restartWaiting := false, badCheck := 0, dropped := 0, owed := false,
    log := [], overflow := false }

/-! ## The whole part -/

/-- What an act hands to the ranking engine for one service (R110): its key and, when the act held a scored
window of one of its carriages, that carriage. -/
structure Handed where
  key    : Key
  scored : Option Nat
deriving DecidableEq, Repr

/-- The state of the part. The Service and Carriage Tables list the records in use with their table index, in
rising order of index; the Binding Table lists the bindings in rising order of lane and flow. The model's own
fields are `handed` (log 25), `freeCount` (log 7) and `pending` (log 1). -/
structure State where
  clock         : Clock
  pins          : BitVec 3
  resetHeld     : Bool
  entries       : List PlanEntry
  surveyPointer : Nat
  promptSet     : List Nat
  lanes         : List Lane
  services      : List (Nat × Service)
  carriages     : List (Nat × Carriage)
  bindings      : List Binding
  watch         : List (Option Key)
  watchSeen     : List Bool
  policy        : Policy
  survey        : SurveySettings
  output        : OutputSettings
  slots         : List Slot
  store         : Store
  mgmt          : Management
  handed        : List Handed
  freeCount     : Nat
  pending       : List Instr
deriving DecidableEq, Repr

/-- The part right after a full reset: every block at the values its chapter gives (R181), with an empty queue of
steps. The unit-address pins read 0 (log 5). -/
def State.reset : State :=
  { clock := 0
    pins := 0
    resetHeld := false
    entries := List.replicate 63 PlanEntry.fresh ++ [PlanEntry.house]
    surveyPointer := 0
    promptSet := []
    lanes := List.replicate 16 Lane.fresh ++ [Lane.house]
    services := []
    carriages := []
    bindings := []
    watch := List.replicate 32 none
    watchSeen := List.replicate 32 false
    policy := Policy.standard
    survey := SurveySettings.standard
    output := OutputSettings.standard
    slots := List.replicate 128 Slot.vacant
    store := Store.fresh
    mgmt := Management.fresh
    handed := []
    freeCount := 0
    pending := [] }

/-- Why the part stops. Each is raised by a step that names something the part does not have, which nothing
outside the part can make happen; stopping there is safe (log 4). -/
inductive Fault where
  /-- A step that names a lane above 16 (00_scope.md: seventeen lane links). Safe. -/
  | noSuchLane
  /-- STALL_EXPIRY naming a carriage index above 1023 (R11). Safe. -/
  | noSuchCarriage
  /-- CHANGEOVER_TIMEOUT or SPLICING_TIMEOUT naming a slot above 127 (R126). Safe. -/
  | noSuchSlot
  /-- CELL_ARRIVAL with other than 160 bytes (12.1). Safe. -/
  | notACell
deriving DecidableEq, Repr

/-- Why a step is refused. -/
inductive Refusal where
  /-- A row of the table with no meaning yet. No arm of exec answers it. Safe. -/
  | notModelled (mnemonic : String)
deriving DecidableEq, Repr

end Sys2Proof.Machine
end

