-- ==== Sys2Proof/Machine/Ops.lean ====
section
/-! DEFINITION. The shared operations over the part's tables, records, counters and timers. -/

namespace Sys2Proof.Machine

open Sys2Proof

/-! ## Arithmetic (00_scope.md, Arithmetic) -/

/-- A counter that saturates at `limit`. -/
def saturate (limit n : Nat) : Nat := min n limit

/-- A setting taken at the nearer bound of its range. -/
def clampNat (lo hi v : Nat) : Nat := max lo (min v hi)

def clampInt (lo hi v : Int) : Int := max lo (min v hi)

/-- Milliseconds in microseconds. -/
def micros (ms : Nat) : Nat := ms * 1000

/-! ## Tables: the records in use with their index, in rising order -/

/-- The record at index `i`, if one is in use there. -/
def tableGet {α : Type} : List (Nat × α) → Nat → Option α
  | [], _ => none
  | (j, a) :: rest, i => if j = i then some a else tableGet rest i

/-- Write the record at index `i`, keeping the order. -/
def tableSet {α : Type} : List (Nat × α) → Nat → α → List (Nat × α)
  | [], i, a => [(i, a)]
  | (j, b) :: rest, i, a =>
    if j = i then (i, a) :: rest
    else if i < j then (i, a) :: (j, b) :: rest
    else (j, b) :: tableSet rest i a

/-- Free the record at index `i`. -/
def tableErase {α : Type} (t : List (Nat × α)) (i : Nat) : List (Nat × α) := t.filter fun x => x.1 ≠ i

/-- Change the record at index `i`, if one is in use there. -/
def tableModify {α : Type} (t : List (Nat × α)) (i : Nat) (f : α → α) : List (Nat × α) :=
  t.map fun x => if x.1 = i then (x.1, f x.2) else x

/-- The lowest index below `size` at which no record is in use (R8, R12). -/
def lowestFree {α : Type} (t : List (Nat × α)) (size : Nat) : Option Nat :=
  (List.range size).find? fun i => (tableGet t i).isNone

/-! ## Plan entries, lanes and slots -/

def State.entry (s : State) (e : Nat) : PlanEntry := s.entries.getD e PlanEntry.fresh

def State.modEntry (s : State) (e : Nat) (f : PlanEntry → PlanEntry) : State :=
  { s with entries := s.entries.modify e f }

def State.lane (s : State) (l : Nat) : Lane := s.lanes.getD l Lane.fresh

def State.modLane (s : State) (l : Nat) (f : Lane → Lane) : State := { s with lanes := s.lanes.modify l f }

def State.modCounters (s : State) (l : Nat) (f : LaneCounters → LaneCounters) : State :=
  s.modLane l fun n => { n with counters := f n.counters }

def State.modAsm (s : State) (l : Nat) (f : Assembler → Assembler) : State :=
  s.modLane l fun n => { n with asm := f n.asm }

def State.modRover (s : State) (l : Nat) (f : Rover → Rover) : State :=
  s.modLane l fun n => { n with rover := n.rover.map f }

def State.slot (s : State) (k : Nat) : Slot := s.slots.getD k Slot.vacant

def State.modSlot (s : State) (k : Nat) (f : Slot → Slot) : State := { s with slots := s.slots.modify k f }

/-- The slots in slot order, lowest first. -/
def slotOrder : List Nat := List.range Config.slotCount

/-- Lane receivers by number: a feed lane is 0..15. -/
def isFeed (l : Nat) : Bool := decide (l < Config.houseLane)

/-! ## Services, carriages and bindings -/

def State.carriage (s : State) (c : Nat) : Option Carriage := tableGet s.carriages c

def State.modCarriage (s : State) (c : Nat) (f : Carriage → Carriage) : State :=
  { s with carriages := tableModify s.carriages c f }

/-- The indices of the carriages that satisfy `p`, lowest first. -/
def State.carriagesWhere (s : State) (p : Carriage → Bool) : List Nat :=
  (s.carriages.filter fun x => p x.2).map Prod.fst

/-- The service record of a key. No two records hold one key (R7). -/
def State.service (s : State) (key : Key) : Option Service :=
  (s.services.find? fun x => x.2.key = key).map Prod.snd

def State.modService (s : State) (key : Key) (f : Service → Service) : State :=
  { s with services := s.services.map fun x => if x.2.key = key then (x.1, f x.2) else x }

/-- The table index of a key's service record. -/
def State.serviceIndex (s : State) (key : Key) : Option Nat :=
  (s.services.find? fun x => x.2.key = key).map Prod.fst

def State.binding (s : State) (lane flow : Nat) : Option Binding :=
  s.bindings.find? fun b => b.name = { lane := lane, flow := flow }

def State.modBinding (s : State) (name : BindingName) (f : Binding → Binding) : State :=
  { s with bindings := s.bindings.map fun b => if b.name = name then f b else b }

/-- A key's service is named by a slot (R7), stands in the watch list (R64). -/
def State.slotRefsOf (s : State) (key : Key) : Nat := ((s.service key).map (·.slotRefs)).getD 0

def State.watched (s : State) (key : Key) : Bool := s.watch.contains (some key)

/-- A carriage holds bindings, that is, it is *delivering* (R18, R130). -/
def CarriageState.holdsBindings : CarriageState → Bool
  | .probation | .usable | .faulted | .survey => true
  | .shelved | .incomplete => false

/-- The states in which a carriage is scored and may be stalled (R18, R40). -/
def CarriageState.isScored : CarriageState → Bool
  | .probation | .usable | .faulted => true
  | .shelved | .incomplete | .survey => false

/-- A carriage is selectable (R13). -/
def Carriage.selectable (c : Carriage) : Bool :=
  c.state = .usable && !c.laneDown && !c.stalled

/-- Hand a service to the ranking engine (R23, R110). -/
def State.hand (s : State) (key : Key) : State := { s with handed := s.handed ++ [{ key := key, scored := none }] }

/-- Hand a scored window of carriage `c` (R103). -/
def State.handScored (s : State) (key : Key) (c : Nat) : State :=
  { s with handed := s.handed ++ [{ key := key, scored := some c }] }

/-! ## Timers (R47: every difference of two clock values is taken modulo 2^32) -/

def elapsed (now start : Clock) : Nat := (now - start).toNat

/-- A running timer has run its length. -/
def Timer.due (t : Timer) (now : Clock) : Bool := decide (t.span ≤ elapsed now t.start)

def timerDue (t : Option Timer) (now : Clock) : Bool :=
  match t with
  | none => false
  | some t => t.due now

/-- A timer started now for a number of milliseconds. -/
def State.startTimer (s : State) (ms : Nat) : Option Timer := some { start := s.clock, span := micros ms }

/-! ## Bytes (chapter 12: most significant byte first) -/

def byteAt (bs : List Byte) (i : Nat) : Nat := (bs.getD i 0).toNat

/-- The bytes `i .. i + n - 1`. -/
def slice (bs : List Byte) (i n : Nat) : List Byte := (bs.drop i).take n

/-- The number a run of bytes writes. -/
def numberOf (bs : List Byte) : Nat := bs.foldl (fun a b => a * 256 + b.toNat) 0

def numberAt (bs : List Byte) (i n : Nat) : Nat := numberOf (slice bs i n)

/-- The `width` bytes that write a number. -/
def bytesOf : Nat → Nat → List Byte
  | 0, _ => []
  | width + 1, n => BitVec.ofNat 8 (n / 256 ^ width) :: bytesOf width n

/-- A payload filled up with zero bytes to 152 (R197). -/
def padPayload (bs : List Byte) : List Byte := (bs ++ List.replicate (Config.payloadBytes - bs.length) 0).take Config.payloadBytes

/-- Bit `i` of a byte, bit 7 the most significant. -/
def bitAt (b i : Nat) : Bool := b.testBit i

def bitValue (b : Bool) (i : Nat) : Nat := if b then 2 ^ i else 0

end Sys2Proof.Machine
end

