-- ==== Sys2Proof/Machine/Flags.lean ====
section
/-! DEFINITION. Flags and causes: the notice classes derived from them, the due set and the owed notice
(R183 to R185), and how reads clear what they show (R173). -/

namespace Sys2Proof.Machine

open Sys2Proof

/-- The pending set: each class derived from the flags or the log behind it (R183). -/
def State.pendingSet (s : State) : NoticeSet :=
  { lane := s.lanes.any (·.laneFlag)
    onAir := s.slots.any (·.changeFlag)
    rank := s.services.any (·.2.rankFlag)
    discovery := !s.mgmt.log.isEmpty }

/-- The classes of a set that a mask leaves. -/
def NoticeSet.unmasked (a mask : NoticeSet) : NoticeSet :=
  { lane := a.lane && !mask.lane, onAir := a.onAir && !mask.onAir, rank := a.rank && !mask.rank,
    discovery := a.discovery && !mask.discovery }

/-- The due set: the classes that are pending and unmasked (R184). -/
def State.dueSet (s : State) : NoticeSet := s.pendingSet.unmasked s.output.mask

def NoticeSet.isEmpty (a : NoticeSet) : Bool := !a.lane && !a.onAir && !a.rank && !a.discovery

/-- Some class of `a` is not in `b`. -/
def NoticeSet.hasNew (a b : NoticeSet) : Bool :=
  (a.lane && !b.lane) || (a.onAir && !b.onAir) || (a.rank && !b.rank) || (a.discovery && !b.discovery)

/-- The number of the highest pending class, 0 when none is pending (R183, 12.4). -/
def NoticeSet.highest (a : NoticeSet) : Nat :=
  if a.lane then 1 else if a.onAir then 2 else if a.rank then 3 else if a.discovery then 4 else 0

/-- The pending set as a byte: bit 0 for class 1 up to bit 3 for class 4 (12.4). -/
def NoticeSet.bits (a : NoticeSet) : Nat :=
  bitValue a.lane 0 + bitValue a.onAir 1 + bitValue a.rank 2 + bitValue a.discovery 3

/-- The owed notice after an act that took the due set from `before` to `after` (R185): withdrawn when the due
set has become empty, owed when a class has joined it, else as it was. The whole act is one event (log 13). -/
def owedAfter (before after : NoticeSet) (owed : Bool) : Bool :=
  if after.isEmpty then false else if after.hasNew before then true else owed

/-- Bring the owed notice up to date at the end of an act that began in state `s0` (R185). -/
def settleNotice (s0 s : State) : State :=
  { s with mgmt := { s.mgmt with owed := owedAfter s0.dueSet s.dueSet s.mgmt.owed } }

/-- READ LANE clears the flag and the causes its snapshot shows (R45). -/
def Lane.reported (n : Lane) : Lane :=
  if n.laneFlag then { n with laneFlag := false, flagCauses := LaneCauses.empty } else n

/-- READ SERVICE clears the flag and the causes its snapshot shows (R122). -/
def Service.reported (v : Service) : Service :=
  if v.rankFlag then { v with rankFlag := false, rankCauses := RankCauses.empty } else v

/-- READ SLOT clears the flag and the causes its snapshot shows (R147). -/
def Slot.reported (k : Slot) : Slot :=
  if k.changeFlag then { k with changeFlag := false, changeCauses := SlotCauses.empty } else k

/-- An event that adds a cause to a lane sets its flag (R45). -/
def Lane.cause (n : Lane) (f : LaneCauses → LaneCauses) : Lane :=
  { n with flagCauses := f n.flagCauses, laneFlag := true }

/-- An event that adds a cause to a slot sets its flag (R147). -/
def Slot.cause (k : Slot) (f : SlotCauses → SlotCauses) : Slot :=
  { k with changeCauses := f k.changeCauses, changeFlag := true }

/-- A rank condition that adds a cause to a service sets its flag (R120 to R122). -/
def Service.cause (v : Service) (f : RankCauses → RankCauses) : Service :=
  { v with rankCauses := f v.rankCauses, rankFlag := true }

end Sys2Proof.Machine
end

