-- ==== Sys2Proof/Machine/Operands.lean ====
section
/-! DEFINITION. The wire formats of chapter 12: checks, cell headers, status and order cells, directory messages,
command cells and their arguments, replies and the lineup directory. -/

namespace Sys2Proof.Machine

open Sys2Proof

/-! ## Checks (R197) -/

/-- One bit through a CRC register, without reflection. -/
def crcBit {w : Nat} (poly reg : BitVec w) (bit : Bool) : BitVec w :=
  if reg.msb != bit then (reg <<< 1) ^^^ poly else reg <<< 1

/-- The bits of a byte, most significant first. -/
def byteBits (b : Byte) : List Bool :=
  [b.getLsbD 7, b.getLsbD 6, b.getLsbD 5, b.getLsbD 4, b.getLsbD 3, b.getLsbD 2, b.getLsbD 1, b.getLsbD 0]

def crc {w : Nat} (poly init : BitVec w) (bs : List Byte) : BitVec w :=
  bs.foldl (fun r b => (byteBits b).foldl (crcBit poly) r) init

/-- The header check: x^8+x^2+x+1, initial value 0xFF (R197). -/
def headerCheck (bs : List Byte) : BitVec 8 := crc 0x07#8 0xFF#8 bs

/-- The message CRC-16: x^16+x^12+x^5+1, initial value 0xFFFF (R197). -/
def messageCrc (bs : List Byte) : BitVec 16 := crc 0x1021#16 0xFFFF#16 bs

/-! ## The cell header (12.1) -/

/-- Header bytes 0..6 of a cell; the spare bit is 0 (R197). -/
def headerBytes (c : Cell) : List Byte :=
  [ BitVec.ofNat 8 (c.flow / 16),
    BitVec.ofNat 8 (c.flow % 16 * 16 + c.run.toNat / 4),
    BitVec.ofNat 8 (c.run.toNat % 4 * 64 + bitValue c.s 5 + bitValue c.k 4 + bitValue c.e 3 + bitValue c.t 2
      + bitValue c.d 1) ]
  ++ bytesOf 4 c.stamp.toNat

/-- A cell as its 160 bytes, the check computed afresh (R197). -/
def cellToBytes (c : Cell) : List Byte :=
  headerBytes c ++ [headerCheck (headerBytes c)] ++ padPayload c.payload

/-- The fields of a received cell. The spare bit and the check are not among them (R27). -/
def readCell (bs : List Byte) : Cell :=
  { flow := byteAt bs 0 * 16 + byteAt bs 1 / 16
    run := BitVec.ofNat 6 (byteAt bs 1 % 16 * 4 + byteAt bs 2 / 64)
    s := bitAt (byteAt bs 2) 5
    k := bitAt (byteAt bs 2) 4
    e := bitAt (byteAt bs 2) 3
    t := bitAt (byteAt bs 2) 2
    d := bitAt (byteAt bs 2) 1
    stamp := BitVec.ofNat 32 (numberAt bs 3 4)
    payload := slice bs 8 Config.payloadBytes }

/-- The header check of a received cell passes (R27, R197). -/
def headerPasses (bs : List Byte) : Bool := headerCheck (slice bs 0 7) = bs.getD 7 0

/-- A void cell as the lineup port builds it: run, marks and stamp 0 (R160), payload all unused and so 0 (log 23). -/
def voidCell : Cell :=
  { flow := Config.voidFlow, run := 0, s := false, k := false, e := false, t := false, d := false, stamp := 0,
    payload := [] }

/-! ## Status and order cells (12.2) -/

structure StatusReport where
  lock        : Nat
  tag         : Nat
  margin      : Nat
  level       : Int
  uncorrected : Nat
deriving DecidableEq, Repr

/-- The fields of a status cell's payload; a lock code other than 1 or 2 is taken as 0 (R196). -/
def readStatus (payload : List Byte) : StatusReport :=
  { lock := if byteAt payload 0 = 1 ∨ byteAt payload 0 = 2 then byteAt payload 0 else 0
    tag := byteAt payload 1
    margin := byteAt payload 2
    level := (payload.getD 3 0).toInt
    uncorrected := numberAt payload 4 2 }

/-- The payload of an order cell (12.2); the tuning word of a HALT is 0 (R33). -/
def orderPayload (o : Order) : List Byte :=
  match o.kind with
  | .tune => bytesOf 1 1 ++ bytesOf 1 o.tag ++ bytesOf 8 o.word.toNat
  | .halt => bytesOf 1 2 ++ bytesOf 1 o.tag ++ bytesOf 8 0

/-- A cell of a return path: flow and payload as given, run, marks and stamp free (log 7). -/
def returnCell (flow : Nat) (payload : List Byte) (free : BitVec 43) : Cell :=
  { flow := flow
    run := BitVec.ofNat 6 (free.toNat / 2 ^ 37)
    s := free.getLsbD 36
    k := free.getLsbD 35
    e := free.getLsbD 34
    t := free.getLsbD 33
    d := free.getLsbD 32
    stamp := BitVec.ofNat 32 free.toNat
    payload := payload }

/-! ## Directory messages, as read (12.3, R53, R196) -/

/-- A service entry as its bytes give it, before any check. -/
structure RawService where
  key    : Key
  name   : List Byte
  count  : Nat
  timing : Nat
  words  : List Nat
deriving DecidableEq, Repr

/-- The two-byte component words of an entry. -/
def componentWords : Nat → List Byte → List Nat
  | 0, _ => []
  | c + 1, bs => numberAt bs 0 2 :: componentWords c (bs.drop 2)

/-- `count` service entries, and the bytes that follow them; `none` where the bytes run out. -/
def readServices : Nat → List Byte → Option (List RawService × List Byte)
  | 0, bs => some ([], bs)
  | count + 1, bs =>
    let n := byteAt bs 6
    let c := byteAt bs (7 + n)
    if bs.length < 9 + n ∨ bs.length < 9 + n + 2 * c then none
    else
      match readServices count (bs.drop (9 + n + 2 * c)) with
      | none => none
      | some (rest, left) =>
        some ({ key := BitVec.ofNat 32 (numberAt bs 0 4), name := slice bs 7 n, count := c,
                timing := byteAt bs (8 + n), words := componentWords c (bs.drop (9 + n)) } :: rest, left)

/-- A service as an accepted directory lists it: its components as kind and flow, in order. -/
structure Listed where
  key        : Key
  name       : List Byte
  components : List (Kind × Nat)
  timing     : Option Nat
deriving DecidableEq, Repr

structure DirectoryMessage where
  multiplexId : BitVec 16
  version     : Nat
  services    : List Listed
deriving DecidableEq, Repr

/-- A kind code other than video, audio, text or data is taken as data (R53, R196). -/
def readKind (code : Nat) : Kind :=
  if code = 1 then .video else if code = 2 then .audio else if code = 3 then .text else .data

def wordFlow (w : Nat) : Nat := w % 4096

def RawService.listed (r : RawService) : Listed :=
  { key := r.key, name := r.name, components := r.words.map fun w => (readKind (w / 4096), wordFlow w),
    timing := if r.timing = 0xFF then none else some r.timing }

/-- A byte of the printable set (12.3). -/
def printable (b : Byte) : Bool := decide (0x20 ≤ b.toNat ∧ b.toNat ≤ 0x7E)

/-- The checks of R53 in their order, on the bytes of a complete message; a declared length below 10 is rejected
LENGTH without checks 1 to 3 (R53, R196). -/
def validate (msg : List Byte) : Except RejectCause DirectoryMessage :=
  let len := msg.length
  if len < 10 then .error .badLength
  else if messageCrc (msg.take (len - 2)) ≠ BitVec.ofNat 16 (numberAt msg (len - 2) 2) then .error .badCheck
  else if byteAt msg 3 ≠ 0 ∨ byteAt msg 4 ≠ 0 then .error .badSection
  else if 48 < byteAt msg 5 then .error .badCount
  else
    match readServices (byteAt msg 5) (slice msg 8 (len - 10)) with
    | none => .error .badLength
    | some (raw, left) =>
      if left ≠ [] then .error .badLength
      else if raw.any fun r => r.count = 0 || decide (6 < r.count) then .error .badComponents
      else if raw.any fun r => r.words.any fun w => decide (Config.firstReservedFlow ≤ wordFlow w) then .error .badFlow
      else if raw.any fun r => decide (24 < r.name.length) || r.name.any fun b => !printable b then .error .badName
      else if ¬ (raw.map (·.key)).Nodup then .error .duplicateKey
      else if raw.any fun r => decide (¬ (r.words.map wordFlow).Nodup) then .error .duplicateFlow
      else if raw.any fun r => r.timing ≠ 0xFF && decide (r.count ≤ r.timing) then .error .badTiming
      else .ok { multiplexId := BitVec.ofNat 16 (numberAt msg 0 2), version := byteAt msg 2 % 32,
                 services := raw.map RawService.listed }

/-- The *length* field of a directory header in a start cell's payload (12.3). -/
def declaredLengthOf (payload : List Byte) : Nat := numberAt payload 6 2

/-! ## Command cells (12.4) -/

def commandAddress (payload : List Byte) : Nat := byteAt payload 0

/-- Check 3 of R166: an argument length of 140 or less and a matching CRC-16. -/
def commandSound (payload : List Byte) : Bool :=
  let a := byteAt payload 4
  decide (a ≤ 140) && decide (messageCrc (payload.take (5 + a)) = BitVec.ofNat 16 (numberAt payload (5 + a) 2))

def readCommand (payload : List Byte) : Command :=
  { tag := BitVec.ofNat 16 (numberAt payload 1 2), code := payload.getD 3 0,
    args := slice payload 5 (byteAt payload 4) }

/-! ### Command codes and argument lengths -/

def codeRestart : Nat := 0x01
def codeSetPolicy : Nat := 0x02
def codeSetSurvey : Nat := 0x03
def codeSetOutput : Nat := 0x04
def codeSetPlanEntry : Nat := 0x05
def codeClearPlanEntry : Nat := 0x06
def codeParkLane : Nat := 0x07
def codeRoveLane : Nat := 0x08
def codeReleaseLane : Nat := 0x09
def codeSetLane : Nat := 0x0A
def codeSetSlot : Nat := 0x0B
def codeClearSlot : Nat := 0x0C
def codeExchangeSlots : Nat := 0x0D
def codePinService : Nat := 0x0E
def codeSetWatch : Nat := 0x0F
def codePromptSurvey : Nat := 0x10
def codeReadLane : Nat := 0x11
def codeReadPlanEntry : Nat := 0x12
def codeReadService : Nat := 0x13
def codeReadCarriage : Nat := 0x14
def codeReadSlot : Nat := 0x15
def codeFlushCarriage : Nat := 0x16
def codeForgetCarriage : Nat := 0x17
def codeReadNotices : Nat := 0x18
def codeReadDiscoveryLog : Nat := 0x19
def codeListServices : Nat := 0x1A
def codeListCarriages : Nat := 0x1B
def codeNotice : Nat := 0x80

/-- The commands of 12.4 with the argument length each requires and the row that takes it. `pins` is the level
of the unit-address pins, which RESTART samples. -/
def commandTable (pins : BitVec 3) : List (Nat × Nat × Instr) :=
  [ (codeRestart, 0, .restart pins),
    (codeSetPolicy, 15, .setPolicy),
    (codeSetSurvey, 6, .setSurvey),
    (codeSetOutput, 10, .setOutput),
    (codeSetPlanEntry, 12, .setPlanEntry),
    (codeClearPlanEntry, 1, .clearPlanEntry),
    (codeParkLane, 2, .parkLane),
    (codeRoveLane, 1, .roveLane),
    (codeReleaseLane, 1, .releaseLane),
    (codeSetLane, 3, .setLane),
    (codeSetSlot, 18, .setSlot),
    (codeClearSlot, 1, .clearSlot),
    (codeExchangeSlots, 2, .exchangeSlots),
    (codePinService, 6, .pinService),
    (codeSetWatch, 6, .setWatch),
    (codePromptSurvey, 1, .promptSurvey),
    (codeReadLane, 1, .readLane),
    (codeReadPlanEntry, 1, .readPlanEntry),
    (codeReadService, 4, .readService),
    (codeReadCarriage, 2, .readCarriage),
    (codeReadSlot, 1, .readSlot),
    (codeFlushCarriage, 2, .flushCarriage),
    (codeForgetCarriage, 2, .forgetCarriage),
    (codeReadNotices, 0, .readNotices),
    (codeReadDiscoveryLog, 0, .readDiscoveryLog),
    (codeListServices, 2, .listServices),
    (codeListCarriages, 3, .listCarriages) ]

/-- The row that takes a command: the one its code names when the argument length is the one that command
requires, and UNKNOWN_COMMAND otherwise (R169). -/
def rowOf (pins : BitVec 3) (c : Command) : Instr :=
  match (commandTable pins).find? fun r => r.1 = c.code.toNat with
  | some (_, len, i) => if c.args.length = len then i else .unknownCommand
  | none => .unknownCommand

/-- The command is one the part knows, with the argument length it requires (R169). -/
def isCommand (code len : Nat) (c : Command) : Bool := c.code.toNat = code && c.args.length = len

def isKnown (c : Command) : Bool := (commandTable 0).any fun r => isCommand r.1 r.2.1 c

/-! ### Argument fields (12.4, R196) -/

/-- A choice field: 0 is no, any other value yes. -/
def choiceAt (args : List Byte) (i : Nat) : Bool := byteAt args i ≠ 0

def keyAt (args : List Byte) (i : Nat) : Key := BitVec.ofNat 32 (numberAt args i 4)

/-- A two-byte number in two's complement. -/
def signedAt (args : List Byte) (i : Nat) : Int := (BitVec.ofNat 16 (numberAt args i 2)).toInt

/-- The notice mask byte: bits 0..3 for classes 1..4. -/
def maskOf (b : Nat) : NoticeSet :=
  { lane := bitAt b 0, onAir := bitAt b 1, rank := bitAt b 2, discovery := bitAt b 3 }

/-- A value taken at the nearer bound of its range, and whether it lay outside (R169). -/
def taken (lo hi v : Nat) : Nat × Bool := (clampNat lo hi v, decide (clampNat lo hi v ≠ v))

/-- The status of a taken command: CLAMPED when at least one setting lay outside its range (R169). -/
def takenStatus (outside : Bool) : Status := if outside then .clamped else .done

/-! ## Replies and notices (12.4, R168, R186) -/

def Status.code : Status → Nat
  | .done => 0
  | .clamped => 1
  | .badIndex => 2
  | .noRoom => 3
  | .inUse => 4
  | .notFound => 5
  | .conflict => 6
  | .unknown => 7

/-- The bytes of a reply or notice before its CRC-16, with the station clock of its emission (R156). -/
def controlBody (c : ControlCell) (now : Clock) : List Byte :=
  [c.address] ++ bytesOf 2 c.tag.toNat ++ [c.code] ++ bytesOf 1 c.status.code ++ bytesOf 4 now.toNat
    ++ bytesOf 1 c.result.length ++ c.result

/-- A message followed by its CRC-16. -/
def withCrc (body : List Byte) : List Byte := body ++ bytesOf 2 (messageCrc body).toNat

/-! ## The lineup directory, as written (12.3, R162, R197) -/

def Kind.code : Kind → Nat
  | .video => 1
  | .audio => 2
  | .text => 3
  | .data => 4

def lineupEntryBytes (e : LineupEntry) : List Byte :=
  bytesOf 4 e.key.toNat ++ bytesOf 2 e.channel ++ bytesOf 1 e.name.length ++ e.name
    ++ bytesOf 1 e.components.length ++ bytesOf 1 (e.timing.getD 0xFF)
    ++ (e.components.map fun c => bytesOf 2 (c.1.code * 4096 + c.2)).flatten

/-- One section as a message (R162): header, entries, CRC-16. -/
def sectionMessage (id : BitVec 16) (version index last : Nat) (entries : List LineupEntry) : List Byte :=
  let body := (entries.map lineupEntryBytes).flatten
  withCrc (bytesOf 2 id.toNat ++ bytesOf 1 version ++ bytesOf 1 index ++ bytesOf 1 last
    ++ bytesOf 1 entries.length ++ bytesOf 2 (8 + body.length + 2) ++ body)

/-- A message cut into payloads of 152 bytes, the last filled up with zeros. `fuel` bounds the number of cells. -/
def payloadsOf : Nat → List Byte → List (List Byte)
  | 0, _ => []
  | fuel + 1, bs =>
    if bs = [] then [] else padPayload bs :: payloadsOf fuel (bs.drop Config.payloadBytes)

/-- The cells of one section, the first marked as such (R160). -/
def sectionCells (msg : List Byte) : List DirectoryCell :=
  match payloadsOf msg.length msg with
  | [] => []
  | p :: rest => { first := true, payload := p } :: rest.map fun q => { first := false, payload := q }

end Sys2Proof.Machine
end

