-- ==== Sys2Proof/Machine/Store.lean ====
section
/-! DEFINITION. The output store and the lineup port: capacities, storing and dropping, the arbiter, emission, and
the lineup directory (chapter 8). -/

namespace Sys2Proof.Machine

open Sys2Proof

/-! ## Capacities (R150, R151, R154) -/

def Slot.isVacant (k : Slot) : Bool := k.state = .vacant

/-- The explicit capacity of a non-vacant slot, 0 for any other. -/
def Slot.explicitCells (k : Slot) : Nat :=
  match k.state, k.capacity with
  | .vacant, _ => 0
  | _, some (.cells n) => n
  | _, _ => 0

def Slot.isAutomatic (k : Slot) : Bool := k.state ≠ .vacant && k.capacity = some .automatic

/-- E of R150: the sum of the explicit capacities of the non-vacant slots. -/
def explicitTotal (slots : List Slot) : Nat := (slots.map Slot.explicitCells).sum

/-- A of R150: the number of non-vacant slots with automatic capacity. -/
def automaticCount (slots : List Slot) : Nat := slots.countP Slot.isAutomatic

/-- The automatic share, absent when no non-vacant slot is automatic (R150). -/
def shareOf (slots : List Slot) : Option Nat :=
  if automaticCount slots = 0 then none
  else some ((Config.buffers - explicitTotal slots) / automaticCount slots)

/-- The share worked out afresh as an act ends (R150). -/
def recomputeShare (s : State) : State := { s with store := { s.store with automaticShare := shareOf s.slots } }

/-- Check 6 of SET SLOT passes for slots as the command would leave them (R151). -/
def sharesAllow (slots : List Slot) : Bool :=
  automaticCount slots = 0 || decide (explicitTotal slots + 16 * automaticCount slots ≤ Config.buffers)

/-- The effective capacity of a slot (R150); absent for a vacant slot. -/
def State.effectiveCapacity (s : State) (k : Slot) : Option Nat :=
  match k.state, k.capacity with
  | .vacant, _ => none
  | _, some (.cells n) => some n
  | _, some .automatic => s.store.automaticShare
  | _, none => none

/-- The effective pressure margin of a slot (R154). -/
def State.effectiveMargin (s : State) (k : Slot) : Option Nat :=
  match s.effectiveCapacity k, k.margin with
  | some _, some (.cells n) => some n
  | some cap, some .standard => some (cap / 8)
  | _, _ => none

/-- A slot is pressured (R154). -/
def State.pressured (s : State) (k : Slot) : Bool :=
  !k.queue.isEmpty &&
    decide ((s.effectiveCapacity k).getD 0 ≤ k.queue.length + (s.effectiveMargin k).getD 0)

/-! ## Storing and dropping (R152) -/

/-- Offer a cell to a slot: stored when the occupancy is below the effective capacity and a buffer is free,
otherwise dropped and counted in *overflows* (R152). -/
def offerCell (s : State) (k : Nat) (c : Cell) : State :=
  if (s.slot k).queue.length < (s.effectiveCapacity (s.slot k)).getD 0 ∧ 0 < s.store.freeBuffers then
    { s.modSlot k fun x => { x with queue := x.queue ++ [c] } with
      store := { s.store with freeBuffers := s.store.freeBuffers - 1 } }
  else s.modSlot k fun x => { x with overflows := saturate Config.counter32 (x.overflows + 1) }

/-- Discard a slot's queue, freeing its buffers (R155). -/
def discardQueue (s : State) (k : Nat) : State :=
  { s.modSlot k fun x => { x with queue := [] } with
    store := { s.store with freeBuffers := s.store.freeBuffers + (s.slot k).queue.length } }

/-! ## The arbiter (R158, R159) -/

/-- What the arbiter chooses at an opportunity. -/
inductive Choice where
  | control
  | pressuredSlot (k : Nat)
  | otherSlot (k : Nat)
  | void
deriving DecidableEq, Repr

/-- The slots in slot order from the one after a pointer, wrapping from 127 to 0 and ending with the pointer's
own slot (R158). -/
def searchOrder (ptr : Nat) : List Nat := slotOrder.map fun i => (ptr + 1 + i) % Config.slotCount

/-- A control cell waits (R158). -/
def Store.controlWaits (t : Store) : Bool := !t.controlQueue.isEmpty || !t.directoryQueue.isEmpty

/-- The choice of R158, in its order of preference. -/
def arbiterChoice (s : State) : Choice :=
  if s.store.controlWaits && (s.slots.all (·.queue.isEmpty) || s.store.spacingCount = 15) then .control
  else
    match (searchOrder s.store.pressuredPtr).find? fun k => s.pressured (s.slot k) with
    | some k => .pressuredSlot k
    | none =>
      match (searchOrder s.store.servicePtr).find? fun k => !(s.slot k).queue.isEmpty with
      | some k => .otherSlot k
      | none => .void

/-- The control spacing count after a cell that is no control cell (R159). -/
def spacingUp (n : Nat) : Nat := min (n + 1) 15

/-- Emit a reply or notice: flow 4080, S set, D on the first such cell after a full reset, the station clock and
the CRC-16 completed (R156, R160). -/
def emitControl (s : State) (c : ControlCell) (rest : List ControlCell) : State :=
  { s with store := { s.store with
      controlQueue := rest
      spacingCount := 0
      managementRun := s.store.managementRun + 1
      managementBegun := true
      portOut := some (cellToBytes
        { flow := Config.managementFlow, run := s.store.managementRun, s := true, k := false, e := false, t := false,
          d := !s.store.managementBegun, stamp := 0, payload := withCrc (controlBody c s.clock) }) } }

/-- Emit a lineup directory cell: flow 4064, S on the first cell of each section, D on the first such cell after
a full reset (R160). -/
def emitDirectory (s : State) (c : DirectoryCell) (rest : List DirectoryCell) : State :=
  { s with store := { s.store with
      directoryQueue := rest
      spacingCount := 0
      directoryRun := s.store.directoryRun + 1
      directoryBegun := true
      portOut := some (cellToBytes
        { flow := Config.directoryFlow, run := s.store.directoryRun, s := c.first, k := false, e := false,
          t := false, d := !s.store.directoryBegun, stamp := 0, payload := c.payload }) } }

/-- The control cell of R158: the head of the control queue, or else of the directory queue. -/
def serveControl (s : State) : State :=
  match s.store.controlQueue, s.store.directoryQueue with
  | c :: rest, _ => emitControl s c rest
  | [], c :: rest => emitDirectory s c rest
  | [], [] => s

/-- Emit the head cell of a slot's queue, as stored; its buffer is freed (R158, R160). -/
def serveSlot (s : State) (k : Nat) : State :=
  match (s.slot k).queue with
  | [] => s
  | c :: rest =>
    { s.modSlot k fun x => { x with queue := rest } with
      store := { s.store with
        freeBuffers := s.store.freeBuffers + 1
        spacingCount := spacingUp s.store.spacingCount
        servicePtr := k
        portOut := some (cellToBytes c) } }

/-- A pressured slot that is served moves both pointers (R159). -/
def servePressured (s : State) (k : Nat) : State :=
  { serveSlot s k with store := { (serveSlot s k).store with pressuredPtr := k } }

/-- Emit a void cell (R160). -/
def serveVoid (s : State) : State :=
  { s with store := { s.store with
      spacingCount := spacingUp s.store.spacingCount
      portOut := some (cellToBytes voidCell) } }

def serve (s : State) : Choice → State
  | .control => serveControl s
  | .pressuredSlot k => servePressured s k
  | .otherSlot k => serveSlot s k
  | .void => serveVoid s

/-! ## Cell opportunities (R157) -/

/-- Opportunity `oppIndex` has come: floor(index × 1,000,000 / rate) µs have passed since opportunity 0. -/
def opportunityDue (s : State) : Bool :=
  decide (s.store.oppIndex * 1000000 / s.store.oppRate ≤ elapsed s.clock s.store.oppOrigin)

/-- The schedule after an opportunity. A newly set rate takes effect at it, which makes it opportunity 0 of that
rate (log 18). The count goes back by one second's opportunities at each whole second, which changes no time:
opportunity `rate` comes exactly 1,000,000 µs after opportunity 0. -/
def advanceSchedule (s : State) : State :=
  if s.store.rateSet then
    { s with store := { s.store with
        oppOrigin := s.clock, oppIndex := 1, oppRate := s.output.portCellRate, rateSet := false } }
  else if s.store.oppRate ≤ s.store.oppIndex then
    { s with store := { s.store with
        oppOrigin := s.store.oppOrigin + 1000000, oppIndex := s.store.oppIndex - s.store.oppRate + 1 } }
  else { s with store := { s.store with oppIndex := s.store.oppIndex + 1 } }

/-! ## The lineup directory (R161 to R163) -/

/-- The components a slot is listed with: those of its on-air carriage, each on the output flow of its index
(R162). -/
def numberComponents (base : Nat) : Nat → List Component → List (Kind × Nat)
  | _, [] => []
  | i, c :: rest => (c.kind, base + i) :: numberComponents base (i + 1) rest

/-- The service entry of a non-vacant slot (R162). -/
def lineupEntry (s : State) (k : Slot) : LineupEntry :=
  let key := k.primary.getD 0
  match k.onAir.bind s.carriage with
  | some c =>
    { key := key, channel := k.channel.getD 0, name := ((s.service c.service).map (·.name)).getD [],
      components := numberComponents (k.baseFlow.getD 0) 0 c.components, timing := c.timing }
  | none =>
    { key := key, channel := k.channel.getD 0, name := ((s.service key).map (·.name)).getD [],
      components := [], timing := none }

/-- The entries of the non-vacant slots, in slot order. -/
def lineupEntries (s : State) : List LineupEntry :=
  (s.slots.filter fun k => !k.isVacant).map (lineupEntry s)

/-- Sections of 48 entries; a lineup with no slot is one section that lists no service (R162). -/
def cutSections : Nat → List LineupEntry → List (List LineupEntry)
  | 0, _ => []
  | fuel + 1, es => if es = [] then [] else es.take 48 :: cutSections fuel (es.drop 48)

def sectionsOf (es : List LineupEntry) : List (List LineupEntry) :=
  if es = [] then [[]] else cutSections es.length es

/-- The content a composition finds (R163). -/
def lineupContent (s : State) : LineupContent :=
  { multiplexId := s.output.lineupId, sections := sectionsOf (lineupEntries s) }

/-- The version of a composition: unchanged when nothing was composed before or the content is the same, and
otherwise advanced modulo 32 (R163). -/
def lineupVersionFor (t : Store) (content : LineupContent) : Nat :=
  match t.lastContent with
  | none => t.lineupVersion
  | some last => if content = last then t.lineupVersion else (t.lineupVersion + 1) % 32

/-- The cells of the sections, from section `index` on. -/
def sectionsCells (id : BitVec 16) (version last : Nat) : Nat → List (List LineupEntry) → List DirectoryCell
  | _, [] => []
  | index, es :: rest =>
    sectionCells (sectionMessage id version index last es) ++ sectionsCells id version last (index + 1) rest

/-- Compose the lineup directory into the directory queue (R162, R163). -/
def composeDirectory (s : State) : State :=
  let content := lineupContent s
  let version := lineupVersionFor s.store content
  { s with store := { s.store with
      lineupVersion := version
      lastContent := some content
      directoryQueue := sectionsCells content.multiplexId version (content.sections.length - 1) 0 content.sections } }

/-- The work of a directory period expiry (R161): compose when the directory queue is empty, and otherwise skip
the period. -/
def directoryPeriod (s : State) : State :=
  if s.store.directoryQueue.isEmpty then composeDirectory s
  else { s with store := { s.store with directorySkips := saturate Config.counter32 (s.store.directorySkips + 1) } }

end Sys2Proof.Machine
end

