-- ==== Sys2Proof/Machine/Slots.lean ====
section
/-! DEFINITION. The slot composer: feeds, the wanted carriage, arming, splices, forwarding and renumbering, and
carriages that leave (chapter 7, R194). -/

namespace Sys2Proof.Machine

open Sys2Proof

/-! ## Carriages as the composer sees them -/

def State.componentCount (s : State) (c : Nat) : Nat := ((s.carriage c).map (·.components.length)).getD 0

/-- A carriage is *delivering* when its state holds bindings (R130). -/
def State.delivering (s : State) (c : Nat) : Bool := ((s.carriage c).map (·.state.holdsBindings)).getD false

/-- Component `j` of carriage `c` uses the binding of a lane and flow. -/
def State.usesBinding (s : State) (c j : Nat) (name : BindingName) : Bool :=
  ((s.carriage c).bind fun x => x.components[j]?.bind (·.binding)) = some name

/-! ## Feeds (R127, R194) -/

/-- Component `i` of a carriage as a feed, when the carriage is present and has that component. -/
def State.feedFrom (s : State) (c : Option Nat) (i : Nat) : Option Feed :=
  match c with
  | none => none
  | some c => if i < s.componentCount c then some { carriage := c, component := i } else none

/-- The feed of output flow `i` by the slot's state and its *switched* set (R127). -/
def State.feedOf (s : State) (k : Slot) (i : Nat) : Option Feed :=
  match k.state with
  | .vacant | .dark => none
  | .armed | .steady => s.feedFrom k.onAir i
  | .splicing => if k.switched.contains i then s.feedFrom k.target i else s.feedFrom k.onAir i

/-- Output flow `i` of the slot is fed by a component of carriage `c`. -/
def Slot.fedBy (x : Slot) (c i : Nat) : Bool :=
  decide ((x.flows.getD i OutFlow.fresh).feed.map (·.carriage) = some c)

/-- A flow takes a feed. Its *restart pending* mark is set when the feed changes to a component (R127), and when the act
itself marks the flow (R194). -/
def OutFlow.take (f : OutFlow) (feed : Option Feed) (mark : Bool) : OutFlow :=
  { f with feed := feed, restart := f.restart || (feed.isSome && decide (feed ≠ f.feed)) || mark }

/-- Bring the six feeds of a slot up to date with its state (R127), in an act that marks the flows `marks`. -/
def refeedMarking (s : State) (k : Nat) (marks : Nat → Bool) : State :=
  s.modSlot k fun x =>
    { x with flows := (List.range 6).map fun i => (x.flows.getD i OutFlow.fresh).take (s.feedOf x i) (marks i) }

/-- Bring the six feeds of a slot up to date with its state (R127). -/
def refeed (s : State) (k : Nat) : State := refeedMarking s k fun _ => false

/-- The flows of a slot that a rebinding of carriage `c` marks, from a list of `had` components to one of `has` (R194):
those the carriage feeds, and, in a slot it feeds, those whose index the new list adds, from whichever carriage R127 goes
on feeding them. -/
def Slot.rebindingMarks (x : Slot) (c had has i : Nat) : Bool :=
  x.fedBy c i || ((List.range 6).any (x.fedBy c) && decide (had ≤ i) && decide (i < has))

/-- A rebinding of carriage `c`, which had `had` components, changes the feeds of every slot the carriage feeds
(R194). -/
def refeedAll (s : State) (c had : Nat) : State :=
  slotOrder.foldl (fun s k => refeedMarking s k ((s.slot k).rebindingMarks c had (s.componentCount c))) s

/-! ## Moves of a slot (R129 to R132, R136) -/

/-- The changeover timer started for the changeover timeout in force (R132, R133). -/
def State.changeoverTimer (s : State) : Option Timer := s.startTimer s.policy.changeoverTimeout

/-- Enter DARK (R131). -/
def enterDark (s : State) (k : Nat) : State :=
  refeed (s.modSlot k fun x =>
    { x with state := .dark, onAir := none, target := none, switched := [], forcedPending := false,
             reviewPending := false, timer := none }.cause fun c => { c with dark := true }) k

/-- Arm a slot on a target, from STEADY or DARK or in place of another target (R132). -/
def armSlot (s : State) (k w : Nat) : State :=
  refeed (s.modSlot k fun x =>
    { x with state := .armed, target := some w, armedTime := some s.clock, forcedPending := false,
             timer := s.changeoverTimer }) k

/-- Cancel a changeover: back to STEADY on the old carriage (R130). -/
def cancelChangeover (s : State) (k : Nat) : State :=
  refeed (s.modSlot k fun x =>
    { x with state := .steady, target := none, timer := none, forcedPending := false }) k

def State.selectedOf (s : State) (key : Key) : Option Nat := (s.service key).bind (·.selected)

/-- The wanted carriage of a slot and its *on-fallback* setting (R129). -/
def State.wanted (s : State) (k : Slot) : Option Nat × Bool :=
  match k.primary.bind s.selectedOf with
  | some c => (some c, false)
  | none =>
    match k.fallback.bind s.selectedOf with
    | some c => (some c, true)
    | none => (none, false)

/-- The move of R130 for a wanted carriage. -/
def moveTo (s : State) (k : Nat) (w : Option Nat) : State :=
  match (s.slot k).state, w with
  | .vacant, _ => s
  | .dark, none => s
  | .dark, some w => armSlot s k w
  | .steady, none => enterDark s k
  | .steady, some w => if (s.slot k).onAir = some w then s else armSlot s k w
  | .armed, some w =>
    if (s.slot k).target = some w then s
    else if (s.slot k).onAir = some w then cancelChangeover s k
    else armSlot s k w
  | .armed, none =>
    if ((s.slot k).onAir.map s.delivering).getD false then cancelChangeover s k else enterDark s k
  | .splicing, _ => s.modSlot k fun x => { x with reviewPending := true }

/-- Form the wanted carriage of a slot, write *on-fallback*, and move the slot (R129, R130). -/
def reviewSlot (s : State) (k : Nat) : State :=
  let w := s.wanted (s.slot k)
  moveTo (s.modSlot k fun x => { x with onFallback := w.2 }) k w.1

/-- The end of SPLICING: STEADY on the target (R136, steps 1 to 3). -/
def completeSplice (s : State) (k : Nat) : State :=
  refeed (s.modSlot k fun x =>
    { x with state := .steady, onAir := x.target, target := none, switched := [], timer := none,
             lastChangeover := some s.clock }.cause fun c => { c with changeover := true }) k

/-- The end of SPLICING with any pending review applied (R136). -/
def endSplice (s : State) (k : Nat) : State :=
  if (s.slot k).reviewPending then
    reviewSlot ((completeSplice s k).modSlot k fun x => { x with reviewPending := false }) k
  else completeSplice s k

/-! ## Splices and switches (R133 to R135) -/

/-- A clean splice (R133). -/
def cleanSplice (s : State) (k : Nat) : State :=
  refeed (s.modSlot k fun x =>
    { x with state := .splicing, switched := [0], cleanSplices := saturate Config.counter32 (x.cleanSplices + 1),
             timer := s.changeoverTimer }) k

/-- A forced splice (R134): *forced splices* rises in place of *clean splices*, and FORCED is added. The mark
*forced pending* is not written by R133 or R134 and is kept (log 15). -/
def forcedSplice (s : State) (k : Nat) : State :=
  refeed (s.modSlot k fun x =>
    { x with state := .splicing, switched := [0], forcedSplices := saturate Config.counter32 (x.forcedSplices + 1),
             timer := s.changeoverTimer }.cause fun c => { c with forced := true }) k

/-- Step 1 of R137: the cell splices an ARMED slot when its binding is the target's primary component's, and it
carries the K mark or *forced pending* is set. -/
def spliceStep (s : State) (k : Nat) (name : BindingName) (c : Cell) : State :=
  let x := s.slot k
  if x.state = .armed && (x.target.map fun t => s.usesBinding t 0 name).getD false then
    if x.forcedPending then forcedSplice s k
    else if c.k then cleanSplice s k
    else s
  else s

/-- The components of the target whose binding is this one and that are not yet switched (R135). -/
def State.unswitchedUsing (s : State) (x : Slot) (name : BindingName) : List Nat :=
  match x.target with
  | none => []
  | some t => (List.range (s.componentCount t)).filter fun j => !x.switched.contains j && s.usesBinding t j name

/-- Step 2 of R137: in SPLICING a cell with the S mark switches the target's components on its binding (R135). -/
def switchStep (s : State) (k : Nat) (name : BindingName) (c : Cell) : State :=
  let js := s.unswitchedUsing (s.slot k) name
  if (s.slot k).state = .splicing && c.s && !js.isEmpty then
    refeed (s.modSlot k fun x => { x with switched := x.switched ++ js }) k
  else s

/-! ## Forwarding and renumbering (R137 to R139) -/

/-- The cell of output flow `i` with its header rewritten (R138). -/
def renumber (x : Slot) (i : Nat) (c : Cell) : Cell :=
  let f := x.flows.getD i OutFlow.fresh
  { c with flow := x.baseFlow.getD 0 + i, run := f.run, d := f.restart || c.d }

/-- Offer a cell on output flow `i` of slot `k`: the run is given and the mark cleared before the store judges the
cell (R138, R139). -/
def offerOnFlow (s : State) (k i : Nat) (c : Cell) : State :=
  offerCell (s.modSlot k fun x =>
    { x with flows := x.flows.modify i fun f => { f with run := f.run + 1, restart := false } }) k
    (renumber (s.slot k) i c)

/-- The output flow is fed by a component that uses the binding. -/
def State.flowFedBy (s : State) (k i : Nat) (name : BindingName) : Bool :=
  match ((s.slot k).flows.getD i OutFlow.fresh).feed with
  | none => false
  | some f => s.usesBinding f.carriage f.component name

/-- Step 3 of R137: one offer on each output flow fed by the binding, in flow order. -/
def offerStep (s : State) (k : Nat) (name : BindingName) (c : Cell) : State :=
  (List.range 6).foldl (fun s i => if s.flowFedBy k i name then offerOnFlow s k i c else s) s

/-- Every component of the target is in *switched*. -/
def State.allSwitched (s : State) (x : Slot) : Bool :=
  match x.target with
  | none => false
  | some t => (List.range (s.componentCount t)).all fun j => x.switched.contains j

/-- Step 4 of R137. -/
def endStep (s : State) (k : Nat) : State :=
  if (s.slot k).state = .splicing && s.allSwitched (s.slot k) then endSplice s k else s

/-- The binding feeds an output flow of the slot, or is a binding of its target carriage (R137). -/
def State.slotTakes (s : State) (k : Nat) (name : BindingName) : Bool :=
  (List.range 6).any (fun i => s.flowFedBy k i name)
    || (match (s.slot k).target with
        | none => false
        | some t => (List.range (s.componentCount t)).any fun j => s.usesBinding t j name)

/-- One slot takes a bound cell (R137). -/
def slotTakesCell (s : State) (k : Nat) (name : BindingName) (c : Cell) : State :=
  if s.slotTakes k name then
    endStep (offerStep (switchStep (spliceStep s k name c) k name c) k name c) k
  else s

/-- A bound cell is handed to the slot composer: every slot it concerns, in slot order (R137). -/
def forwardCell (s : State) (name : BindingName) (c : Cell) : State :=
  slotOrder.foldl (fun s k => slotTakesCell s k name c) s

/-! ## Carriages that leave (R140) -/

/-- A slot is handed the removal of carriage `c` (R140). -/
def slotLosesCarriage (s : State) (c k : Nat) : State :=
  let x := s.slot k
  match x.state with
  | .vacant | .dark => s
  | .steady => if x.onAir = some c then enterDark s k else s
  | .armed =>
    if x.target = some c then
      if (x.onAir.map s.delivering).getD false && x.onAir ≠ some c then
        refeed (s.modSlot k fun y => { y with state := .steady, target := none, timer := none }) k
      else enterDark s k
    else if x.onAir = some c then refeed (s.modSlot k fun y => { y with onAir := none }) k
    else s
  | .splicing =>
    if x.target = some c then enterDark s k
    else if x.onAir = some c then refeed (s.modSlot k fun y => { y with onAir := none }) k
    else s

def slotsLoseCarriage (s : State) (c : Nat) : State :=
  slotOrder.foldl (fun s k => slotLosesCarriage s c k) s

/-- A carriage is the target of a slot in ARMED or SPLICING (R141). -/
def State.isTarget (s : State) (c : Nat) : Bool :=
  s.slots.any fun x => (x.state = .armed || x.state = .splicing) && x.target = some c

end Sys2Proof.Machine
end

