-- ==== Sys2Proof/Machine/Catalogue.lean ====
section
/-! DEFINITION. The catalogue: service records, carriages, bindings and discovery records (chapter 1, section 3.4). -/

namespace Sys2Proof.Machine

open Sys2Proof

/-! ## Service records (R8, R9) -/

/-- A service record is held (R9). -/
def State.held (s : State) (key : Key) : Bool :=
  (s.carriages.any fun x => x.2.service = key)
    || (match s.service key with
        | none => false
        | some v => decide (0 < v.slotRefs) || v.pinned.isSome)
    || s.watched key

/-- Free a service record that has ceased to be held (R9). -/
def freeIfUnheld (s : State) (key : Key) : State :=
  if s.held key then s else { s with services := s.services.filter fun x => x.2.key ≠ key }

/-- Create a service record at the lowest free table index (R8); `none` when the table is full. -/
def createService (s : State) (key : Key) (name : List Byte) : Option State :=
  (lowestFree s.services Config.maxServices).map fun i =>
    { s with services := tableSet s.services i (Service.fresh key name) }

/-! ## Bindings (R14 to R16) -/

/-- A binding at its creation (R14). -/
def Binding.fresh (name : BindingName) (now : Clock) : Binding :=
  { name := name, refCount := 1, expectedRun := none, n := 0, g := 0, x := 0, duplicates := 0, pairing := none,
    peakJ := 0, deviationSeen := false, lastCellTime := now }

def BindingName.before (a b : BindingName) : Bool :=
  decide (a.lane < b.lane) || (decide (a.lane = b.lane) && decide (a.flow < b.flow))

/-- Put a new binding into the table, in rising order of lane and flow. -/
def insertBinding : List Binding → Binding → List Binding
  | [], b => [b]
  | a :: rest, b => if b.name.before a.name then b :: a :: rest else a :: insertBinding rest b

/-- A component joins the binding of a lane and flow, creating it when there is none (R14, R15). -/
def joinBinding (s : State) (name : BindingName) : State :=
  match s.binding name.lane name.flow with
  | some _ => s.modBinding name fun b => { b with refCount := b.refCount + 1 }
  | none => { s with bindings := insertBinding s.bindings (Binding.fresh name s.clock) }

/-- A component leaves its binding, which is removed when no component uses it any more (R16). -/
def leaveBinding (s : State) (name : BindingName) : State :=
  match s.binding name.lane name.flow with
  | none => s
  | some b =>
    if b.refCount ≤ 1 then { s with bindings := s.bindings.filter fun x => x.name ≠ name }
    else s.modBinding name fun x => { x with refCount := x.refCount - 1 }

/-- A bind attempt succeeds (R15): every component can share or is new, and the new ones fit the free records. -/
def canBind (s : State) (l : Nat) (cs : List Component) : Bool :=
  (cs.all fun c =>
    match s.binding l c.flow with
    | some b => decide (b.refCount < Config.maxSharers)
    | none => true)
  && decide (cs.countP (fun c => (s.binding l c.flow).isNone) + s.bindings.length ≤ Config.maxBindings)

/-- The *lane-down* flag a carriage takes from a lane (R13, R39): set on a parked lane that is not LOCKED. -/
def State.laneDownOf (s : State) (l : Nat) : Bool :=
  (s.lane l).mode = .parked && (s.lane l).parkedState ≠ some .locked

/-- The state a successful bind gives on a lane: SURVEY on a roving lane, PROBATION on a parked one (R12, R19,
R21, R77). -/
def State.boundState (s : State) (l : Nat) : CarriageState :=
  if (s.lane l).mode = .roving then .survey else .probation

/-- The *whole window* mark of a carriage bound on a lane (R84): `mark` on a parked lane, absent on a roving one. -/
def State.markOn (s : State) (l : Nat) (mark : Bool) : Option Bool :=
  if (s.lane l).mode = .roving then none else some mark

/-- A carriage bound: every component names its binding (R15), the state and the fields of R19, R21, R77. -/
def Carriage.bound (x : Carriage) (l : Nat) (st : CarriageState) (down : Bool) (mark : Option Bool) (now : Clock) :
    Carriage :=
  { x with
    components := x.components.map fun c => { c with binding := some { lane := l, flow := c.flow } }
    state := st, lane := some l, laneDown := down, stalled := false, probation := 0, wholeWindow := mark,
    boundTime := now, heard := false }

/-- A carriage whose attempt failed: INCOMPLETE on the lane, holding nothing (R15, R19, R21, R77). -/
def Carriage.unbound (x : Carriage) (l : Nat) (down : Bool) : Carriage :=
  { x with
    components := x.components.map fun c => { c with binding := none }
    state := .incomplete, lane := some l, laneDown := down, stalled := false, probation := 0, wholeWindow := none }

/-- A bind attempt leaves carriage `c` as `y`. The attempt is handed on for the carriage's service, a rebinding that
leaves the state as it was included (R21, R23, R108, log 29). -/
def putBound (s : State) (c : Nat) (y : Carriage) : State := (s.modCarriage c fun _ => y).hand y.service

/-- A bind attempt for carriage `c` on lane `l` (R15), with the state it leaves, handed on (R21, R23). -/
def attemptBind (s : State) (c l : Nat) (mark : Bool) : State :=
  match s.carriage c with
  | none => s
  | some x =>
    if canBind s l x.components then
      putBound (x.components.foldl (fun s d => joinBinding s { lane := l, flow := d.flow }) s) c
        (x.bound l (s.boundState l) (s.laneDownOf l) (s.markOn l mark) s.clock)
    else putBound s c (x.unbound l (s.laneDownOf l))

/-- The retry of an INCOMPLETE carriage at a window end (R17): a failure changes nothing. -/
def retryBind (s : State) (c l : Nat) : State :=
  match s.carriage c with
  | none => s
  | some x => if canBind s l x.components then attemptBind s c l true else s

/-- A carriage releases its bindings (R16). -/
def releaseBindings (s : State) (c : Nat) : State :=
  match s.carriage c with
  | none => s
  | some x =>
    ((x.components.filterMap (·.binding)).foldl leaveBinding s).modCarriage c fun y =>
      { y with components := y.components.map fun d => { d with binding := none }, wholeWindow := none }

/-! ## Shelving, rebinding, removal (R20 to R22) -/

/-- Shelve a carriage (R20). -/
def shelve (s : State) (c : Nat) : State :=
  match s.carriage c with
  | none => s
  | some x =>
    ((releaseBindings s c).modCarriage c fun y =>
      { y with state := .shelved, lane := none, laneDown := false, stalled := false, probation := 0 }).hand x.service

/-- Rebind a carriage with the list and timing component a directory gives (R21): release, replace, bind on the
lane that received the directory; the slots it feeds follow (R194). -/
def rebind (s : State) (c l : Nat) (comps : List (Kind × Nat)) (timing : Option Nat) : State :=
  let s1 := (releaseBindings s c).modCarriage c fun y =>
    { y with components := comps.map fun d => { kind := d.1, flow := d.2, binding := none }, timing := timing }
  refeedAll (attemptBind s1 c l false) c (s.componentCount c)

/-- A service record without any reference to carriage `c` (R22, step 2). -/
def Service.forget (v : Service) (c : Nat) : Service :=
  { v with
    rankedList := v.rankedList.filter (· ≠ c)
    selected := if v.selected = some c then none else v.selected
    candidate := if v.candidate = some c then none else v.candidate
    confirmCount := if v.candidate = some c then 0 else v.confirmCount
    pinned := if v.pinned = some c then none else v.pinned
    bestProspect := if v.bestProspect = some c then none else v.bestProspect }

/-- Remove a carriage (R22), in the order of its five steps. The service, if its record remains, is evaluated as
the act ends (R23). -/
def removeCarriage (s : State) (c : Nat) : State :=
  match s.carriage c with
  | none => s
  | some x =>
    let s2 := (releaseBindings s c).modService x.service fun v => v.forget c
    let s3 := slotsLoseCarriage s2 c
    (freeIfUnheld { s3 with carriages := tableErase s3.carriages c } x.service).hand x.service

/-! ## Discovery records (R62, R63, R188) -/

/-- Write a record at the tail of the log, or drop it and set the overflow flag when the log is full (R188). -/
def writeRecord (s : State) (kind : RecordKind) (entry : Nat) (key : Key) (carriage : Option Nat) : State :=
  if s.mgmt.log.length < Config.logPlaces then
    { s with mgmt := { s.mgmt with
        log := s.mgmt.log ++ [{ kind := kind, entry := entry, key := key, carriage := carriage, time := s.clock }] } }
  else { s with mgmt := { s.mgmt with overflow := true } }

/-- The write condition of NEW-SERVICE, RECOMPOSED and VANISHED for a key (R63). -/
def State.keyRecorded (s : State) (key : Key) : Bool :=
  s.output.logAll || s.watched key || decide (0 < s.slotRefsOf key)

/-- Offer a record whose condition is that of its key (R63). -/
def offerRecord (s : State) (kind : RecordKind) (entry : Nat) (key : Key) (carriage : Nat) : State :=
  if s.keyRecorded key then writeRecord s kind entry key (some carriage) else s

/-- Offer a TABLE-FULL record, which is always written (R63). -/
def offerTableFull (s : State) (entry : Nat) (key : Key) : State := writeRecord s .tableFull entry key none

/-- Remove a carriage with its VANISHED record offered, the condition tested before the removal (R60, R63). -/
def vanish (s : State) (c : Nat) : State :=
  match s.carriage c with
  | none => s
  | some x => removeCarriage (offerRecord s .vanished x.entry x.service c) c

end Sys2Proof.Machine
end

