-- ==== Sys2Proof/Machine/Ranking.lean ====
section
/-! DEFINITION. The ranking engine: rank order, selection, best prospect, rank flag, and delivery to slots as an
act ends (chapter 6). -/

namespace Sys2Proof.Machine

open Sys2Proof

/-! ## Rank values and the rank order (R102, R107) -/

def State.biasOf (s : State) (x : Carriage) : Int := (s.entry x.entry).bias

/-- The rank value: merit plus the bias of the entry; absent while the merit is absent (R102). -/
def State.rankValue (s : State) (x : Carriage) : Option Int := x.merit.map fun f => (f : Int) + s.biasOf x

/-- The prospect value of a shelved carriage: survey figure plus bias (R118). -/
def State.prospectValue (s : State) (x : Carriage) : Option Int := x.surveyFigure.map fun f => (f : Int) + s.biasOf x

/-- Key 2 of R107: with a value before without, the higher value before the lower. -/
def valueBefore (a b : Option Int) : Bool :=
  match a, b with
  | some x, some y => decide (y < x)
  | some _, none => true
  | none, _ => false

/-- The four keys of R107: whether the first carriage is placed before the second. -/
def State.ranksBefore (s : State) (a b : Nat × Carriage) : Bool :=
  if a.2.selectable ≠ b.2.selectable then a.2.selectable
  else if s.rankValue a.2 ≠ s.rankValue b.2 then valueBefore (s.rankValue a.2) (s.rankValue b.2)
  else if a.2.entry ≠ b.2.entry then decide (a.2.entry < b.2.entry)
  else decide (a.1 < b.1)

def insertRanked (s : State) (a : Nat × Carriage) : List (Nat × Carriage) → List (Nat × Carriage)
  | [] => [a]
  | b :: rest => if s.ranksBefore a b then a :: b :: rest else b :: insertRanked s a rest

/-- The carriages of a service. -/
def State.carriagesOf (s : State) (key : Key) : List (Nat × Carriage) := s.carriages.filter fun x => x.2.service = key

/-- The rank order of a service: every carriage of it that holds bindings (R107). -/
def State.rankOrder (s : State) (key : Key) : List (Nat × Carriage) :=
  ((s.carriagesOf key).filter fun x => x.2.state.holdsBindings).foldr (insertRanked s) []

/-- A carriage is on a degraded lane (R109). -/
def State.onDegraded (s : State) (x : Carriage) : Bool :=
  match x.lane with
  | none => false
  | some l => (s.lane l).degraded

/-! ## Selection (R112 to R115) -/

/-- What an evaluation writes of the selection. -/
structure Selection where
  selected     : Option Nat
  candidate    : Option Nat
  confirmCount : Nat
deriving DecidableEq, Repr

/-- A selection without candidate. -/
def Selection.settled (c : Option Nat) : Selection := { selected := c, candidate := none, confirmCount := 0 }

/-- The first selectable carriage that is not on a degraded lane: the choice of step 2 and the challenger of
step 3 (R113, R114). -/
def State.firstHealthy (s : State) (order : List (Nat × Carriage)) : Option (Nat × Carriage) :=
  order.find? fun x => x.2.selectable && !s.onDegraded x.2

def firstSelectable (order : List (Nat × Carriage)) : Option (Nat × Carriage) := order.find? fun x => x.2.selectable

/-- Step 2: replace a selection that cannot stand (R113). -/
def State.replacement (s : State) (order : List (Nat × Carriage)) : Option Nat :=
  match s.firstHealthy order with
  | some x => some x.1
  | none => (firstSelectable order).map Prod.fst

/-- The challenger leads the selected carriage (R114). -/
def State.leads (s : State) (t sel : Nat × Carriage) : Bool :=
  t.1 ≠ sel.1 &&
    (match s.rankValue t.2, s.rankValue sel.2 with
     | some rt, some rs => decide (rs + s.policy.switchMargin ≤ rt)
     | _, _ => false)

/-- A challenger that leads: confirmation by its own scored windows (R114, R115). -/
def State.confirm (s : State) (v : Service) (t : Nat) (scored : Option Nat) : Selection :=
  if scored = some t then
    let count := if v.candidate = some t then saturate 15 (v.confirmCount + 1) else 1
    if s.policy.confirmCount ≤ count then Selection.settled (some t)
    else { selected := v.selected, candidate := some t, confirmCount := count }
  else if v.candidate = some t then
    { selected := v.selected, candidate := v.candidate, confirmCount := v.confirmCount }
  else Selection.settled v.selected

/-- Steps 3 and 4 for a selected carriage that is selectable (R114). -/
def State.challenge (s : State) (v : Service) (sel : Nat × Carriage) (order : List (Nat × Carriage))
    (scored : Option Nat) : Selection :=
  match s.firstHealthy order with
  | some t => if s.leads t sel then s.confirm v t.1 scored else Selection.settled v.selected
  | none => Selection.settled v.selected

/-- The carriage at an index, when it is in use and selectable. -/
def State.selectableAt (s : State) (c : Option Nat) : Option (Nat × Carriage) :=
  match c with
  | none => none
  | some c =>
    match s.carriage c with
    | none => none
    | some x => if x.selectable then some (c, x) else none

/-- The selection of an evaluation: the pin, the replacement, the challenger (R112 to R115). -/
def State.select (s : State) (v : Service) (scored : Option Nat) : Selection :=
  match s.selectableAt v.pinned with
  | some p => Selection.settled (some p.1)
  | none =>
    match s.selectableAt v.selected with
    | none => Selection.settled (s.replacement (s.rankOrder v.key))
    | some sel => s.challenge v sel (s.rankOrder v.key) scored

/-! ## Best prospect and rank flag (R118 to R121) -/

/-- One shelved carriage is a better prospect than another: the higher value, or the lower entry (R119). -/
def State.betterProspect (s : State) (a b : Nat × Carriage) : Bool :=
  if s.prospectValue a.2 ≠ s.prospectValue b.2 then valueBefore (s.prospectValue a.2) (s.prospectValue b.2)
  else decide (a.2.entry < b.2.entry)

def State.bestOf (s : State) : List (Nat × Carriage) → Option (Nat × Carriage)
  | [] => none
  | a :: rest =>
    match s.bestOf rest with
    | none => some a
    | some b => if s.betterProspect b a then some b else some a

/-- The best prospect: among the SHELVED carriages with a survey figure (R119). -/
def State.bestProspectOf (s : State) (key : Key) : Option (Nat × Carriage) :=
  s.bestOf ((s.carriagesOf key).filter fun x => x.2.state = .shelved && x.2.surveyFigure.isSome)

/-- The prospect condition after the selection (R120). -/
def State.prospectCondition (s : State) (selected : Option Nat) (best : Option (Nat × Carriage)) : Bool :=
  match best with
  | none => false
  | some b =>
    match selected with
    | none => decide (s.policy.failThreshold ≤ b.2.surveyFigure.getD 0)
    | some c =>
      match (s.carriage c).bind s.rankValue, s.prospectValue b.2 with
      | some r, some p => decide (r + s.policy.switchMargin ≤ p)
      | _, _ => false

/-- The record as an evaluation leaves it: the five steps of R111. -/
def State.evaluated (s : State) (v : Service) (scored : Option Nat) : Service :=
  let order := s.rankOrder v.key
  let count := order.countP fun x => x.2.selectable
  let sel := s.select v scored
  let best := s.bestProspectOf v.key
  let lead := s.prospectCondition sel.selected best
  let v1 : Service :=
    { v with
      rankedList := (order.take Config.maxRanked).map Prod.fst
      selectableCount := count
      selected := sel.selected
      candidate := sel.candidate
      confirmCount := sel.confirmCount
      bestProspect := best.map Prod.fst
      prospectLead := lead }
  let v2 := if lead && !v.prospectLead then v1.cause fun c => { c with prospect := true } else v1
  if 0 < v.slotRefs ∧ 2 ≤ v.selectableCount ∧ count = 1 then v2.cause fun c => { c with lastCopy := true } else v2

/-- Evaluate one service (R111). -/
def evaluateService (s : State) (key : Key) (scored : Option Nat) : State :=
  s.modService key fun v => s.evaluated v scored

/-! ## The end of an act (R111, R123) -/

/-- The services handed something, each once. -/
def handedKeys : List Handed → List Key
  | [] => []
  | h :: rest => if (handedKeys rest).contains h.key then handedKeys rest else h.key :: handedKeys rest

/-- The scored window an act held for a service (R110, R111). -/
def scoredFor (hs : List Handed) (key : Key) : Option Nat :=
  hs.findSome? fun h => if h.key = key then h.scored else none

/-- Evaluate each service handed anything, once (R111). -/
def evaluateHanded (s : State) : State :=
  (handedKeys s.handed).foldl (fun t key => evaluateService t key (scoredFor s.handed key)) { s with handed := [] }

/-- The selection of a key's service changed between two states (R123). -/
def selectionChanged (s0 s : State) (key : Option Key) : Bool :=
  match key with
  | none => false
  | some key => decide (s0.selectedOf key ≠ s.selectedOf key)

/-- Deliver the selection changes of an act that began in state `s0`: one notice to each slot that names a service
whose selection changed (R123). -/
def deliver (s0 s : State) : State :=
  slotOrder.foldl (fun t k =>
    if selectionChanged s0 s (t.slot k).primary || selectionChanged s0 s (t.slot k).fallback then reviewSlot t k
    else t) s

/-- The end of an act that began in state `s0`: its evaluations, then the delivery of its selection changes. -/
def closeAct (s0 s : State) : State := deliver s0 (evaluateHanded s)

end Sys2Proof.Machine
end

