-- ==== Sys2Proof/Machine/Lanes.lean ====
section
/-! DEFINITION. The lane receivers' conversation with the front end: orders and tags, parked states, lane-down, the
lock and silence timers, status cells, and what the lane commands do to a lane record (chapter 2). -/

namespace Sys2Proof.Machine

open Sys2Proof

/-! ## Orders and tags (R33) -/

/-- The tag counter after a tag is taken: 255 is followed by 1 (R33). -/
def nextTag (t : Nat) : Nat := if 255 ≤ t then 1 else t + 1

/-- A lane record after a TUNE order is made (R33): the order waits for the next cell boundary in place of any that
waits already. -/
def Lane.tuned (n : Lane) (word : BitVec 64) : Lane :=
  { n with
    pendingOrder := some { kind := .tune, tag := n.tagCounter, word := word }
    tagCounter := nextTag n.tagCounter, currentTag := some n.tagCounter, acknowledged := false }

/-- A lane record after a HALT order is made (R33). -/
def Lane.halted (n : Lane) : Lane :=
  { n with
    pendingOrder := some { kind := .halt, tag := n.tagCounter, word := 0 }
    tagCounter := nextTag n.tagCounter, currentTag := none }

/-- The tuning word of an entry, as TUNE orders carry it. An entry that a feed lane holds has one (R5, R68). -/
def State.tuningWordOf (s : State) (e : Nat) : BitVec 64 := (s.entry e).tuningWord.getD 0

/-- Send a TUNE bearing the tuning word of entry `e` on lane `l`. -/
def sendTune (s : State) (l e : Nat) : State := s.modLane l fun n => n.tuned (s.tuningWordOf e)

/-- Send a TUNE for the entry of a parked lane. -/
def retune (s : State) (l : Nat) : State := sendTune s l ((s.lane l).entry.getD 0)

/-! ## Parked states and lane-down (R36, R39) -/

/-- A carriage that keeps a lane-down flag (R39). -/
def CarriageState.keepsLaneDown : CarriageState → Bool
  | .probation | .usable | .faulted | .incomplete => true
  | .shelved | .survey => false

/-- Change the lane-down flag of one carriage; the change is handed on for a carriage in PROBATION, USABLE or
FAULTED (R39, R23). -/
def setLaneDown (s : State) (c : Nat) (down : Bool) : State :=
  match s.carriage c with
  | none => s
  | some x =>
    let s1 := s.modCarriage c fun y => { y with laneDown := down }
    if x.state.isScored then s1.hand x.service else s1

/-- The lane-down flag of every carriage of a lane that keeps one (R39). -/
def laneDownAll (s : State) (l : Nat) (down : Bool) : State :=
  (s.carriagesWhere fun x => x.lane = some l && x.state.keepsLaneDown && x.laneDown != down).foldl
    (fun s c => setLaneDown s c down) s

/-- The cause an entered parked state adds (R36, R45). -/
def Lane.entering (n : Lane) (new : ParkedState) : Lane :=
  if n.parkedState = some new then n
  else
    match new with
    | .unlocked => { n with parkedState := some new }.cause fun c => { c with unlocked := true }
    | .silent => { n with parkedState := some new }.cause fun c => { c with silent := true }
    | .await | .locked => { n with parkedState := some new }

/-- A parked lane moves to a state, with its causes and its carriages' lane-down flags (R36, R39). -/
def moveParked (s : State) (l : Nat) (new : ParkedState) : State :=
  let s1 := s.modLane l fun n => n.entering new
  if decide ((s.lane l).parkedState = some .locked) = decide (new = .locked) then s1
  else laneDownAll s1 l (decide (new ≠ .locked))

/-! ## Timers (R37, R38) -/

def startLock (s : State) (l : Nat) : State :=
  s.modLane l fun n => { n with lockTimer := s.startTimer s.survey.lockTimeout }

def stopLock (s : State) (l : Nat) : State := s.modLane l fun n => { n with lockTimer := none }

/-- The silence timer runs for three times the status interval (R38). -/
def startSilence (s : State) (l : Nat) : State :=
  s.modLane l fun n => { n with silenceTimer := s.startTimer (3 * n.statusInterval) }

def stopSilence (s : State) (l : Nat) : State := s.modLane l fun n => { n with silenceTimer := none }

/-- The window timer runs for the window length in quarter-seconds (R41). -/
def startWindow (s : State) (l : Nat) : State :=
  s.modLane l fun n => { n with windowTimer := s.startTimer (250 * s.policy.windowLength) }

/-! ## The parked-lane table (R36, R37) -/

/-- A current status cell with lock 2. -/
def lockSeen (s : State) (l : Nat) : State := stopLock (moveParked s l .locked) l

/-- A current status cell with lock 0 or 1: the lock timer starts when the lane leaves LOCKED or SILENT. -/
def lockMissing (s : State) (l : Nat) : State :=
  match (s.lane l).parkedState with
  | some .locked | some .silent => startLock (moveParked s l .unlocked) l
  | _ => moveParked s l .unlocked

/-- A stale status cell moves a SILENT lane to AWAIT. -/
def staleSeen (s : State) (l : Nat) : State :=
  match (s.lane l).parkedState with
  | some .silent => startLock (moveParked s l .await) l
  | _ => s

/-- A silence expiry on a parked lane. -/
def parkedSilence (s : State) (l : Nat) : State := stopLock (moveParked s l .silent) l

/-- The lock timer's expiry in AWAIT or UNLOCKED (R37). -/
def lockExpired (s : State) (l : Nat) : State :=
  startLock ((moveParked (retune s l) l .await).modCounters l fun c =>
    { c with resends := saturate Config.counter32 (c.resends + 1) }) l

/-! ## Assembler and lane clearing (R26, R48, R52) -/

/-- An assembler that is idle (R51). -/
def Assembler.idled (a : Assembler) : Assembler :=
  { a with capturing := false, cellsHeld := 0, bytesHeld := 0, declaredLength := none, nextRun := none, held := [] }

/-- An assembler cleared by an event of R52, with its *first pending* mark set or cleared. -/
def Assembler.cleared (a : Assembler) (first : Bool) : Assembler := { a.idled with firstPending := first }

/-- An assembler cleared by a lane command, which clears its counters too (R48); the last rejection cause is kept
(log 16). -/
def Assembler.restarted (a : Assembler) (first : Bool) : Assembler :=
  { a.cleared first with accepted := 0, repeats := 0, broken := 0, rejected := 0, stray := 0, unlocked := 0 }

/-- The assembler that PARK LANE and RELEASE LANE leave of a lane record: one cleared with its counters, and, where the
lane leaves roving, without the last rejection cause, since it keeps no trace of its visits (R67). -/
def Lane.assemblerLeft (n : Lane) (first : Bool) : Assembler :=
  if n.mode = .roving then { n.asm.restarted first with lastRejection := none } else n.asm.restarted first

/-- What each of PARK LANE, ROVE LANE and RELEASE LANE clears of the lane named (R26). -/
def Lane.commandCleared (n : Lane) : Lane :=
  { n with
    counters := LaneCounters.zero, faultScore := 0, degraded := false, laneFlag := false,
    flagCauses := LaneCauses.empty, latestMargin := none, latestLevel := none, lastStatusTime := none,
    windowMargin := none, windowStatusCount := 0, uncorrectedSeen := false, headerErrorSeen := false,
    acknowledged := false }

/-- The lane record of PARK LANE, in AWAIT, before its TUNE and its timers (R26, R67). -/
def Lane.parkedOn (n : Lane) (e : Nat) : Lane :=
  { n.commandCleared with
    mode := .parked, entry := some e, parkedState := some .await, rover := none, asm := n.assemblerLeft true }

/-- The lane record of ROVE LANE before its first claim, with a new rover record (R26, R66, R67). -/
def Lane.roving (n : Lane) : Lane :=
  { n.commandCleared with
    mode := .roving, entry := none, parkedState := none, currentTag := none, lockTimer := none, windowTimer := none,
    rover := some Rover.fresh, asm := n.asm.restarted false }

/-- The lane record of RELEASE LANE before its HALT (R26, R67). -/
def Lane.released (n : Lane) : Lane :=
  { n.commandCleared with
    mode := .idle, entry := none, parkedState := none, lockTimer := none, silenceTimer := none, windowTimer := none,
    rover := none, asm := n.assemblerLeft false }

/-! ## Status cells (R28, R29, R34, R35) -/

/-- Steps 1 to 4 of R34. -/
def countStatus (s : State) (l : Nat) (r : StatusReport) : State :=
  startSilence (s.modLane l fun n =>
    { n with
      lastStatusTime := some s.clock
      windowStatusCount := saturate 65535 (n.windowStatusCount + 1)
      counters := { n.counters with
        status := saturate Config.counter32 (n.counters.status + 1)
        uncorrected := saturate Config.counter32 (n.counters.uncorrected + r.uncorrected) }
      uncorrectedSeen := n.uncorrectedSeen || decide (0 < r.uncorrected)
      latestLevel := some r.level }) l

/-- A status cell with its E mark set on a parked or roving feed lane (R28, log 17). -/
def errorStatus (s : State) (l : Nat) : State :=
  startSilence (s.modLane l fun n =>
    { n with
      lastStatusTime := some s.clock
      windowStatusCount := saturate 65535 (n.windowStatusCount + 1)
      counters := { n.counters with status := saturate Config.counter32 (n.counters.status + 1) } }) l

/-- A status cell on an idle lane (R29). -/
def idleStatus (s : State) (l : Nat) (e : Bool) (r : StatusReport) : State :=
  s.modLane l fun n =>
    { n with
      lastStatusTime := some s.clock
      counters := { n.counters with
        status := saturate Config.counter32 (n.counters.status + 1)
        uncorrected := if e then n.counters.uncorrected
          else saturate Config.counter32 (n.counters.uncorrected + r.uncorrected) }
      latestLevel := if e then n.latestLevel else some r.level }

/-- How step 5 of R34 takes a status cell. -/
inductive StatusKind where
  | frontEndRestart
  | current
  | stale
deriving DecidableEq, Repr

def Lane.statusKind (n : Lane) (tag : Nat) : StatusKind :=
  if tag = 0 ∧ n.acknowledged = true then .frontEndRestart
  else if n.currentTag = some tag then .current
  else .stale

/-- A current status cell: *acknowledged* and the margins (R34). -/
def takeMargin (s : State) (l : Nat) (r : StatusReport) : State :=
  s.modLane l fun n =>
    { n with acknowledged := true, latestMargin := some r.margin, windowMargin := some r.margin }

/-- A stale status cell is counted (R34). -/
def countStale (s : State) (l : Nat) : State :=
  s.modCounters l fun c => { c with stale := saturate Config.counter32 (c.stale + 1) }

/-- A front-end restart's part on any lane (R35). -/
def restartSeen (s : State) (l : Nat) : State :=
  s.modLane l fun n => { n with counters := LaneCounters.zero }.cause fun c => { c with restart := true }

/-- A front-end restart's part on a parked lane (R35, R52). -/
def parkedRestart (s : State) (l : Nat) : State :=
  (startLock (moveParked (retune s l) l .await) l).modAsm l fun a => a.cleared true

/-- A status cell taken on a parked feed lane (R34 to R36). -/
def parkedStatus (s : State) (l : Nat) (r : StatusReport) : State :=
  let s1 := countStatus s l r
  match (s.lane l).statusKind r.tag with
  | .frontEndRestart => parkedRestart (restartSeen s1 l) l
  | .current => if r.lock = 2 then lockSeen (takeMargin s1 l r) l else lockMissing (takeMargin s1 l r) l
  | .stale => staleSeen (countStale s1 l) l

end Sys2Proof.Machine
end

