-- ==== Sys2Proof/Machine/Assessment.lean ====
section
/-! DEFINITION. The assessment engine: the eight stages, window ends, the lane fault score and survey figures
(chapter 5, R41 to R43, R79). -/

namespace Sys2Proof.Machine

open Sys2Proof

/-! ## Inputs (R88 to R90) -/

structure Inputs where
  n : Nat
  g : Nat
  x : Nat
  m : Nat
  j : Nat
deriving DecidableEq, Repr

/-- The binding a component's reference names. -/
def State.bindingOf (s : State) (c : Component) : Option Binding := c.binding.bind fun b => s.binding b.lane b.flow

/-- The sum of one window counter over a carriage's components (R88). -/
def State.counterSum (s : State) (x : Carriage) (f : Binding → Nat) : Nat :=
  (x.components.map fun c => ((s.bindingOf c).map f).getD 0).sum

/-- The timing input (R90). -/
def timingInput (timing : Option Binding) (n : Nat) : Nat :=
  match timing with
  | none => 0
  | some b => if b.deviationSeen then b.peakJ else if 0 < n then 1600 else 0

/-- The binding of a carriage's timing component. -/
def State.timingBinding (s : State) (x : Carriage) : Option Binding :=
  x.timing.bind fun t => x.components[t]?.bind s.bindingOf

/-- The inputs of a carriage, with the margin `m` of its lane (R88 to R90). -/
def State.inputsOf (s : State) (x : Carriage) (m : Nat) : Inputs :=
  let n := s.counterSum x (·.n)
  { n := n, g := s.counterSum x (·.g), x := s.counterSum x (·.x), m := m, j := timingInput (s.timingBinding x) n }

/-- M at a window end: 120 on the house lane, and else the window margin, or 0 when absent (R89). -/
def State.windowM (s : State) (l : Nat) : Nat := if isFeed l then (s.lane l).windowMargin.getD 0 else 120

/-! ## Stages 1 to 5 (R91 to R95) -/

/-- Stage 2: the loss ratio (R92, log 32). -/
def lossRatio (i : Inputs) : Nat := 65536 * (i.g + i.x) / (i.n + i.g)

/-- Stage 3: the bit length of a loss ratio, which is 0..17 (R93). -/
def lossClass (p : Nat) : Nat := (List.range 17).countP fun k => decide (2 ^ k ≤ p)

def lossPenalty (q : Nat) : Nat := 48 * q

/-- Stage 4 (R94). -/
def marginCredit (m : Nat) : Nat := 3 * min m 120

def timingPenalty (j : Nat) : Nat := min (j / 16) 100

/-- Stages 1 and 5: the window score (R91, R95). -/
def windowScore (i : Inputs) : Nat :=
  if i.n = 0 then 0
  else (clampInt 0 1000
    (640 + (marginCredit i.m : Int) - (lossPenalty (lossClass (lossRatio i)) : Int) - (timingPenalty i.j : Int))).toNat

/-- The *last window* record of a scored window (R101). -/
def windowRecord (i : Inputs) : LastWindow :=
  { n := i.n, g := i.g, x := i.x, m := i.m, j := i.j
    p := if i.n = 0 then none else some (lossRatio i)
    q := if i.n = 0 then none else some (lossClass (lossRatio i))
    w := windowScore i }

/-! ## Stages 6 and 7 (R96 to R100) -/

/-- The step of stage 6: D / 2^k truncated toward zero, and no smaller than one point (R96). -/
def meritStep (d : Int) (k : Nat) : Int :=
  let step := d.tdiv (2 ^ k)
  if step = 0 ∧ d ≠ 0 then (if 0 < d then 1 else -1) else step

/-- Stage 6: the merit after a window score (R96). -/
def nextMerit (merit : Option Nat) (w k : Nat) : Nat :=
  match merit with
  | none => w
  | some f => if k = 0 then w else ((f : Int) + meritStep ((w : Int) - (f : Int)) k).toNat

/-- Stage 7: the fault score (R98). -/
def nextFault (z : Nat) (passed : Bool) : Nat := if passed then z - 1 else min (z + 8) 255

/-- Stage 7: the probation count of a carriage in PROBATION (R99). -/
def nextProbation (count : Nat) (passed : Bool) : Nat := if passed then saturate 15 (count + 1) else 0

/-- Stage 7: the state after a window, from the new fault score and the new probation count (R99, R100). -/
def nextState (p : Policy) (st : CarriageState) (passed : Bool) (count z : Nat) : CarriageState :=
  match st with
  | .probation =>
    if passed && decide (p.probationWindows ≤ count) then (if z < p.faultLimit then .usable else .faulted)
    else .probation
  | .usable => if p.faultLimit ≤ z then .faulted else .usable
  | .faulted => if z ≤ p.faultClear then .usable else .faulted
  | .shelved => .shelved
  | .survey => .survey
  | .incomplete => .incomplete

/-- A carriage after a scored window (stages 1 to 7, R101). -/
def Carriage.scored (x : Carriage) (p : Policy) (i : Inputs) : Carriage :=
  let w := windowScore i
  let passed := decide (p.failThreshold ≤ w)
  let z := nextFault x.faultScore passed
  let count := if x.state = .probation then nextProbation x.probation passed else x.probation
  { x with
    merit := some (nextMerit x.merit w p.smoothingShift)
    faultScore := z
    peakFault := max x.peakFault z
    probation := count
    state := nextState p x.state passed count z
    lastWindow := some (windowRecord i) }

/-! ## Window ends (R41 to R43, R84 to R86, R103) -/

/-- A window end is void for a feed lane's carriages when the lane is not LOCKED (R85). -/
def State.windowVoid (s : State) (l : Nat) : Bool := isFeed l && (s.lane l).parkedState ≠ some .locked

/-- A carriage that R84 scores at a window end of lane `l`. R14 gives the counts of a shared binding to the carriage
that joined it at the next window end, and R84 does not; R84, with R61, is followed, which is the model's choice
(log 38). -/
def Carriage.scoredOn (x : Carriage) (l : Nat) : Bool :=
  x.lane = some l && x.state.isScored && x.wholeWindow = some true

/-- Score one carriage and hand its scored window on (R86, R103). -/
def scoreCarriage (s : State) (l c : Nat) : State :=
  match s.carriage c with
  | none => s
  | some x =>
    (s.modCarriage c fun y => y.scored s.policy (s.inputsOf y (s.windowM l))).handScored x.service c

/-- Steps 1 and 2 of R86. No binding's counters change while they are taken. -/
def scoreLane (s : State) (l : Nat) : State :=
  if s.windowVoid l then s
  else (s.carriagesWhere fun x => x.scoredOn l).foldl (fun s c => scoreCarriage s l c) s

/-- Step 3 of R86: the window counters of every binding of the lane. -/
def resetCounters (s : State) (l : Nat) : State :=
  { s with bindings := s.bindings.map fun b =>
      if b.name.lane = l then { b with n := 0, g := 0, x := 0, peakJ := 0, deviationSeen := false } else b }

/-- The retries of the INCOMPLETE carriages of a lane (R17). -/
def retryAll (s : State) (l : Nat) : State :=
  (s.carriagesWhere fun x => x.lane = some l && x.state = .incomplete).foldl (fun s c => retryBind s c l) s

/-- The lane's window fails (R42). The length is that of the window that ended. -/
def Lane.windowFails (n : Lane) : Bool :=
  let expected := (n.windowTimer.map (·.span)).getD 0 / 1000 / n.statusInterval
  decide (n.windowStatusCount < expected) || n.uncorrectedSeen || n.headerErrorSeen || n.parkedState ≠ some .locked

/-- The lane fault score at a window end (R42). -/
def Lane.faultScored (n : Lane) : Lane :=
  { n with faultScore := if n.windowFails then min (n.faultScore + 8) 255 else n.faultScore - 1 }

/-- The test of *degraded* at a window end (R43). -/
def Lane.degradeTested (n : Lane) (p : Policy) : Lane :=
  if n.degraded then
    if n.faultScore ≤ p.faultClear then { n with degraded := false }.cause fun c => { c with recovered := true } else n
  else
    if p.faultLimit ≤ n.faultScore then { n with degraded := true }.cause fun c => { c with degraded := true } else n

/-- Step 3 of R41, for feed lanes alone (R46). -/
def laneHealth (s : State) (l : Nat) : State :=
  if isFeed l then s.modLane l fun n => n.faultScored.degradeTested s.policy else s

/-- Step 4 of R41. -/
def clearWindow (s : State) (l : Nat) : State :=
  s.modLane l fun n =>
    { n with windowMargin := none, windowStatusCount := 0, uncorrectedSeen := false, headerErrorSeen := false }

/-- The whole-window marks, set last (R84, R86). -/
def setMarks (s : State) (l : Nat) : State :=
  { s with carriages := s.carriages.map fun x =>
      if x.2.lane = some l && x.2.state.isScored then (x.1, { x.2 with wholeWindow := some true }) else x }

/-- The work of a window end of lane `l`, up to the evaluations (R41, R86); the next window starts at once. -/
def windowEnd (s : State) (l : Nat) : State :=
  startWindow (setMarks (clearWindow (laneHealth (retryAll (resetCounters (scoreLane s l) l) l) l) l) l) l

/-! ## Survey figures (R79) -/

/-- The survey figure of one carriage: stages 1 to 5 over the dwell; the new figure is handed on (R80). -/
def surveyCarriage (s : State) (l c : Nat) : State :=
  match s.carriage c with
  | none => s
  | some x =>
    (s.modCarriage c fun y =>
      { y with surveyFigure := some (windowScore (s.inputsOf y ((s.lane l).windowMargin.getD 0)))
               surveyTime := some s.clock }).hand x.service

/-- The figures of a SURVEYED dwell end, for the SURVEY carriages of the entry (R79). -/
def surveyFigures (s : State) (l e : Nat) : State :=
  (s.carriagesWhere fun x => x.entry = e && x.state = .survey).foldl (fun s c => surveyCarriage s l c) s

end Sys2Proof.Machine
end

