-- ==== Sys2Proof/Machine/Rover.lean ====
section
/-! DEFINITION. Rover control and the plan register's claims: eligibility, claims, visit states, the end and
abandonment of visits, park releases (chapter 4, R5, R6). -/

namespace Sys2Proof.Machine

open Sys2Proof

/-! ## Claims (R68, R69, R71) -/

/-- An entry is eligible for survey (R68). -/
def State.eligible (s : State) (e : Nat) : Bool :=
  decide (e < Config.houseEntry) && (s.entry e).surveyEnable && (s.entry e).tuningWord.isSome
    && (s.entry e).parkedLane.isNone && (s.entry e).visitingLane.isNone

/-- An entry joins the prompt set, which is kept in rising order without duplicates (R68, R70). -/
def insertPrompt : List Nat → Nat → List Nat
  | [], e => [e]
  | a :: rest, e => if e = a then a :: rest else if e < a then e :: a :: rest else a :: insertPrompt rest e

/-- An entry leaves the prompt set (R68). -/
def leavePrompt (s : State) (e : Nat) : State := { s with promptSet := s.promptSet.filter (· ≠ e) }

/-- The entries in the order a claim examines them (R69). -/
def claimOrder (ptr : Nat) : List Nat := (List.range 63).map fun k => (ptr + 1 + k) % 63

/-- The entry the next claim takes (R69). -/
def State.nextClaim (s : State) : Option Nat :=
  match s.promptSet with
  | e :: _ => some e
  | [] => (claimOrder s.surveyPointer).find? s.eligible

/-- A roving lane takes entry `e` (R69). -/
def takeEntry (s : State) (l e : Nat) : State :=
  let s1 := leavePrompt (s.modEntry e fun p => { p with visitingLane := some l }) e
  let s2 := sendTune { s1 with surveyPointer := e } l e
  s2.modRover l fun r =>
    { r with
      visitState := .tuning, claimedEntry := some e, visitTag := (s2.lane l).currentTag
      visitTimer := s.startTimer s.survey.lockTimeout, visits := saturate Config.counter32 (r.visits + 1) }

/-- A roving lane finds no eligible entry (R69). -/
def pauseLane (s : State) (l : Nat) : State :=
  s.modRover l fun r => { r with visitState := .paused, claimedEntry := none, visitTag := none, visitTimer := none }

/-- A claim by a lane that is roving (R69). -/
def claim (s : State) (l : Nat) : State :=
  if (s.lane l).mode = .roving then
    match s.nextClaim with
    | some e => takeEntry s l e
    | none => pauseLane s l
  else s

def Lane.paused (n : Lane) : Bool := n.mode = .roving && n.rover.map (·.visitState) = some .paused

/-- The paused lanes claim, in lane order, as an act that makes an entry eligible is complete (R71). -/
def pausedClaims (s : State) : State :=
  (List.range Config.houseLane).foldl (fun s l => if (s.lane l).paused then claim s l else s) s

/-- The end of an act that began in `s0` and may have made an entry eligible: its evaluations and notices, the
claims of the lanes whose visits it ended, then the paused lanes (R71, R80). -/
def closeWithClaims (s0 s : State) (claimants : List Nat) : State :=
  pausedClaims (claimants.foldl claim (closeAct s0 s))

/-! ## Visit states (R72 to R74) -/

/-- A lane enters ROVE-SETTLING (R72). -/
def enterSettling (s : State) (l : Nat) : State :=
  s.modRover l fun r => { r with visitState := .settling, visitTimer := s.startTimer s.survey.settleTime }

/-- A lane enters ROVE-DWELLING (R74). -/
def enterDwelling (s : State) (l : Nat) : State :=
  (s.modLane l fun n => { n with windowMargin := none, asm := n.asm.cleared true }).modRover l fun r =>
    { r with
      visitState := .dwelling, visitTimer := s.startTimer s.survey.dwellTime, directoryTaken := false
      dwellServiceCount := 0 }

/-- Lock is reported in ROVE-TUNING (R72). -/
def roveLock (s : State) (l : Nat) : State :=
  if 0 < s.survey.settleTime then enterSettling s l else enterDwelling s l

/-! ## The end and abandonment of a visit (R80) -/

/-- The rover record after a visit, its counter raised (R80). *directory taken* and *dwell service count* stay as the
dwell left them until the next ROVE-DWELLING, which is the model's choice (log 37). -/
def Rover.ended (r : Rover) (outcome : Option SurveyOutcome) : Rover :=
  let r1 := { r with claimedEntry := none, visitTag := none, visitTimer := none }
  match outcome with
  | none => { r1 with abandoned := saturate Config.counter32 (r.abandoned + 1) }
  | some .noLock => { r1 with noLock := saturate Config.counter32 (r.noLock + 1) }
  | some .noDirectory => { r1 with noDirectory := saturate Config.counter32 (r.noDirectory + 1) }
  | some .surveyed => { r1 with surveyed := saturate Config.counter32 (r.surveyed + 1) }
  | some .notVisited => r1

/-- The survey fields of the entry when the visit ends with an outcome (R80, step 5). -/
def PlanEntry.visited (p : PlanEntry) (o : SurveyOutcome) (now : Clock) (margin : Option Nat) (services : Nat) :
    PlanEntry :=
  { p with
    surveyOutcome := o
    surveyTime := some now
    surveyMargin := if o = .noLock then none else margin
    serviceCount := if o = .surveyed then services else 0 }

/-- Shelve the SURVEY and INCOMPLETE carriages of an entry, lowest index first (R80, step 2). -/
def shelveVisit (s : State) (e : Nat) : State :=
  (s.carriagesWhere fun x => x.entry = e && (x.state = .survey || x.state = .incomplete)).foldl shelve s

/-- Steps 1 to 5 of R80 for the visit of lane `l` to entry `e`; no outcome is an abandonment. -/
def endVisitTo (s : State) (l e : Nat) (outcome : Option SurveyOutcome) : State :=
  let services := ((s.lane l).rover.map (·.dwellServiceCount)).getD 0
  let s1 := if outcome = some .surveyed then surveyFigures s l e else s
  let s2 := (shelveVisit s1 e).modLane l fun n =>
    { n with asm := n.asm.cleared false, currentTag := none, acknowledged := false
             rover := n.rover.map fun r => r.ended outcome }
  let s3 := s2.modEntry e fun p => { p with visitingLane := none }
  match outcome with
  | none => s3
  | some o => s3.modEntry e fun p => p.visited o s.clock (s.lane l).windowMargin services

/-- The entry a lane is visiting. -/
def Lane.visiting (n : Lane) : Option Nat := n.rover.bind (·.claimedEntry)

/-- End a lane's visit with an outcome, or abandon it; a lane that visits no entry has none to end (R80). -/
def endVisit (s : State) (l : Nat) (outcome : Option SurveyOutcome) : State :=
  match (s.lane l).visiting with
  | none => s
  | some e => endVisitTo s l e outcome

def abandonVisit (s : State) (l : Nat) : State := endVisit s l none

/-- The outcome of a dwell (R81). -/
def Rover.dwellOutcome (r : Rover) : SurveyOutcome := if r.directoryTaken then .surveyed else .noDirectory

/-- The visit state of a roving lane. -/
def Lane.visitState (n : Lane) : Option VisitState := n.rover.map (·.visitState)

/-- A loss of lock is told from the visit state (R75). -/
def Lane.losesLock (n : Lane) : Bool := n.visitState = some .settling || n.visitState = some .dwelling

/-! ## Status cells on a roving lane (R34, R35, R72 to R76) -/

/-- A stale status cell with a tag above 0 is late (R76). -/
def countLate (s : State) (l tag : Nat) : State :=
  if 0 < tag then s.modRover l fun r => { r with late := saturate Config.counter32 (r.late + 1) } else s

/-- A status cell taken on a roving lane, and the lanes that claim after the act. -/
def rovingStatus (s : State) (l : Nat) (r : StatusReport) : State × List Nat :=
  let s1 := countStatus s l r
  match (s.lane l).statusKind r.tag with
  | .frontEndRestart => (abandonVisit (restartSeen s1 l) l, [l])
  | .current =>
    let s2 := takeMargin s1 l r
    if r.lock = 2 then
      if (s.lane l).visitState = some .tuning then (roveLock s2 l, []) else (s2, [])
    else
      if (s.lane l).losesLock then (endVisit s2 l (some .noLock), [l]) else (s2, [])
  | .stale => (countLate (countStale s1 l) l r.tag, [])

/-! ## Park releases (R6) -/

/-- Shelve the carriages of an entry in PROBATION, USABLE, FAULTED and INCOMPLETE, lowest index first (R6). -/
def shelveParked (s : State) (e : Nat) : State :=
  (s.carriagesWhere fun x => x.entry = e && x.state.keepsLaneDown).foldl shelve s

/-- The park release of lane `l`; nothing is released when the lane is not parked (R6). -/
def parkRelease (s : State) (l : Nat) : State :=
  match (s.lane l).mode, (s.lane l).entry with
  | .parked, some e => (shelveParked s e).modEntry e fun p => { p with parkedLane := none }
  | _, _ => s

/-- The plan register's part of a lane command: release the lane's entry, or abandon its visit (R26, R67). -/
def leaveLane (s : State) (l : Nat) : State := abandonVisit (parkRelease s l) l

/-- Bind the SHELVED carriages of an entry as it is parked on lane `l`, lowest index first (R19, R84). -/
def bindParked (s : State) (l e : Nat) : State :=
  (s.carriagesWhere fun x => x.entry = e && x.state = .shelved).foldl (fun s c => attemptBind s c l true) s

end Sys2Proof.Machine
end

