-- ==== Sys2Proof/Machine/Directory.lean ====
section
/-! DEFINITION. Directories: the assemblers, validation and acceptance, the watch-seen map, and reconciliation
(chapter 3). -/

namespace Sys2Proof.Machine

open Sys2Proof

/-! ## Assembly (R49 to R51) -/

def Assembler.brokenUp (a : Assembler) : Assembler := { a with broken := saturate Config.counter32 (a.broken + 1) }

/-- A start cell (R49): the assembler after it, and the message it completes. -/
def Assembler.takeStart (a : Assembler) (c : Cell) : Assembler × Option (List Byte) :=
  let a1 := if a.capturing then a.idled.brokenUp else a
  let len := declaredLengthOf c.payload
  if c.e || decide (Config.maxDirectoryBytes < len) then (a1.idled.brokenUp, none)
  else if len ≤ Config.payloadBytes then (a1.idled, some (c.payload.take len))
  else
    ({ a1 with capturing := true, cellsHeld := 1, bytesHeld := Config.payloadBytes, declaredLength := some len,
               nextRun := some (c.run + 1), held := c.payload }, none)

/-- A continuation cell (R50, R51). -/
def Assembler.takeContinuation (a : Assembler) (c : Cell) : Assembler × Option (List Byte) :=
  if !a.capturing then ({ a with stray := saturate Config.counter32 (a.stray + 1) }, none)
  else if c.e || c.d || decide (a.nextRun ≠ some c.run) then (a.idled.brokenUp, none)
  else
    let bytes := a.bytesHeld + Config.payloadBytes
    let len := a.declaredLength.getD 0
    if len ≤ bytes then (a.idled, some ((a.held ++ c.payload).take len))
    else
      ({ a with cellsHeld := a.cellsHeld + 1, bytesHeld := bytes, nextRun := some (c.run + 1),
                held := a.held ++ c.payload }, none)

/-- A cell on flow 4064 that reaches the assembler. -/
def Assembler.take (a : Assembler) (c : Cell) : Assembler × Option (List Byte) :=
  if c.s then a.takeStart c else a.takeContinuation c

/-! ## Reconciliation (R55 to R61) -/

/-- The carriages of an entry, lowest index first. -/
def State.entryCarriages (s : State) (e : Nat) : List Nat := s.carriagesWhere fun x => x.entry = e

/-- The carriage of an entry for a key, if there is one (R11). -/
def State.carriageFor (s : State) (e : Nat) (key : Key) : Option Nat :=
  (s.carriagesWhere fun x => x.entry = e && x.service = key).head?

def DirectoryMessage.lists (m : DirectoryMessage) (key : Key) : Bool := m.services.any fun v => v.key = key

/-- The condition of an ENTRY-CHANGED record: some carriage to be removed has a recorded key (R63). -/
def State.changeRecorded (s : State) (e : Nat) : Bool :=
  s.output.logAll || s.carriages.any fun x =>
    x.2.entry = e && (s.watched x.2.service || decide (0 < s.slotRefsOf x.2.service))

/-- A multiplex change, before the full reconciliation that follows it (R56). -/
def multiplexChange (s : State) (e : Nat) (old new : BitVec 16) : State :=
  let s1 := if s.changeRecorded e then writeRecord s .entryChanged e (old ++ new) none else s
  ((s1.entryCarriages e).foldl vanish s1).modEntry e fun p =>
    { p with multiplexId := some new, directoryVersion := none }

/-- A carriage that is listed has its missing count set to 0 (R57, R59). -/
def resetMissing (s : State) (c : Nat) : State := s.modCarriage c fun x => { x with missing := 0 }

/-- A carriage that is not listed: its missing count rises, and at the absence limit it is removed (R57, R60). -/
def countMissing (s : State) (c : Nat) : State :=
  match s.carriage c with
  | none => s
  | some x =>
    let count := saturate 15 (x.missing + 1)
    let s1 := s.modCarriage c fun y => { y with missing := count }
    if s.policy.absenceLimit ≤ count then vanish s1 c else s1

/-- The carriages of an entry whose key the message lists, or does not list. -/
def State.carriagesListed (s : State) (e : Nat) (m : DirectoryMessage) (listed : Bool) : List Nat :=
  s.carriagesWhere fun x => x.entry = e && m.lists x.service == listed

/-- A repeat (R57). -/
def repeatDirectory (s : State) (l e : Nat) (m : DirectoryMessage) : State :=
  let s1 := (s.carriagesListed e m true).foldl resetMissing s
  ((s1.carriagesListed e m false).foldl countMissing s1).modAsm l fun a =>
    { a with repeats := saturate Config.counter32 (a.repeats + 1) }

/-- The name of a listed key's service is replaced (R10, log 19). -/
def rename (s : State) (v : Listed) : State := s.modService v.key fun x => { x with name := v.name }

/-- The service record for a listed key, found or created (R58, step 1). -/
def serviceFor (s : State) (v : Listed) : Option State :=
  match s.service v.key with
  | some _ => some (rename s v)
  | none => createService s v.key v.name

/-- A carriage as it is created, before its bind attempt (R12). -/
def Carriage.created (e : Nat) (v : Listed) (now : Clock) : Carriage :=
  { entry := e, service := v.key
    components := v.components.map fun d => { kind := d.1, flow := d.2, binding := none }
    timing := v.timing, state := .incomplete, lane := none, laneDown := false, stalled := false, merit := none
    faultScore := 0, peakFault := 0, probation := 0, missing := 0, lastWindow := none, surveyFigure := none
    surveyTime := none, wholeWindow := none, boundTime := now
    heard := false }

/-- A listed key with no carriage on the entry (R58). The creation is handed on (R23). -/
def newKey (s : State) (l e : Nat) (v : Listed) : State :=
  match serviceFor s v with
  | none => offerTableFull s e v.key
  | some s1 =>
    match lowestFree s1.carriages Config.maxCarriages with
    | none => freeIfUnheld (offerTableFull s1 e v.key) v.key
    | some c =>
      let s2 := { s1 with carriages := tableSet s1.carriages c (Carriage.created e v s1.clock) }
      offerRecord ((attemptBind s2 c l false).hand v.key) .newService e v.key c

/-- The list a carriage holds, as a directory lists it. -/
def Carriage.sameList (x : Carriage) (v : Listed) : Bool :=
  (x.components.map fun c => (c.kind, c.flow)) = v.components && x.timing = v.timing

/-- A listed key that has carriage `c` on the entry (R59, R77, log 27). -/
def listedKey (s : State) (l e c : Nat) (v : Listed) : State :=
  match s.carriage c with
  | none => s
  | some x =>
    let s1 := rename (resetMissing s c) v
    if x.sameList v then (if x.state = .shelved then attemptBind s1 c l false else s1)
    else offerRecord (rebind s1 c l v.components v.timing) .recomposed e v.key c

/-- One listed key of a full reconciliation. -/
def reconcileKey (s : State) (l e : Nat) (v : Listed) : State :=
  match s.carriageFor e v.key with
  | none => newKey s l e v
  | some c => listedKey s l e c v

/-- A full reconciliation: the listed keys in order, the unlisted carriages, the version (R58 to R60). -/
def fullReconciliation (s : State) (l e : Nat) (m : DirectoryMessage) : State :=
  let s1 := m.services.foldl (fun s v => reconcileKey s l e v) s
  ((s1.carriagesListed e m false).foldl countMissing s1).modEntry e fun p =>
    { p with directoryVersion := some m.version }

/-- The reconciliation of an accepted message, its kind chosen as R55 gives. -/
def reconcile (s : State) (l e : Nat) (m : DirectoryMessage) (first : Bool) : State :=
  match (s.entry e).multiplexId with
  | none => fullReconciliation (s.modEntry e fun p => { p with multiplexId := some m.multiplexId }) l e m
  | some id =>
    if id ≠ m.multiplexId then fullReconciliation (multiplexChange s e id m.multiplexId) l e m
    else if !first && decide ((s.entry e).directoryVersion = some m.version) then repeatDirectory s l e m
    else fullReconciliation s l e m

/-! ## Acceptance (R53, R54, R65) -/

/-- The entry for which a message completed on the lane is accepted, if it is (R54). -/
def Lane.acceptingEntry (n : Lane) : Option Nat :=
  match n.mode with
  | .idle => none
  | .parked => if n.parkedState = some .locked then n.entry else none
  | .roving => if n.visitState = some .dwelling then n.visiting else none

/-- The watch-seen bits at the acceptance of a directory (R65). -/
def watchSeenAfter (watch : List (Option Key)) (seen : List Bool) (m : DirectoryMessage) : List Bool :=
  List.zipWith (fun w b => b || (match w with | none => false | some key => m.lists key)) watch seen

/-- A valid message is accepted for entry `e` (R54, R65, R74). -/
def acceptDirectory (s : State) (l e : Nat) (m : DirectoryMessage) : State :=
  let first := (s.lane l).asm.firstPending
  let s1 := (s.modAsm l fun a =>
    { a with accepted := saturate Config.counter32 (a.accepted + 1), firstPending := false }).modRover l fun r =>
      { r with directoryTaken := true, dwellServiceCount := m.services.length }
  reconcile { s1 with watchSeen := watchSeenAfter s1.watch s1.watchSeen m } l e m first

/-- A complete message (R53, R54). -/
def completeMessage (s : State) (l : Nat) (msg : List Byte) : State :=
  match validate msg with
  | .error cause =>
    s.modAsm l fun a => { a with rejected := saturate Config.counter32 (a.rejected + 1), lastRejection := some cause }
  | .ok m =>
    match (s.lane l).acceptingEntry with
    | none => s.modAsm l fun a => { a with unlocked := saturate Config.counter32 (a.unlocked + 1) }
    | some e => acceptDirectory s l e m

/-- A cell on flow 4064 dispatched to the lane's assembler. -/
def directoryCell (s : State) (l : Nat) (c : Cell) : State :=
  let r := (s.lane l).asm.take c
  let s1 := s.modAsm l fun _ => r.1
  match r.2 with
  | none => s1
  | some msg => completeMessage s1 l msg

end Sys2Proof.Machine
end

