-- ==== Sys2Proof/Machine/Cells.lean ====
section
/-! DEFINITION. Cells as they arrive: the header check, dispatch by lane mode and flow, bound cells, and the
admission of command cells (R27 to R32, R40, R166). -/

namespace Sys2Proof.Machine

open Sys2Proof

/-! ## Bound cells (R30 to R32) -/

/-- What the run check finds of a cell (R30). -/
inductive RunCheck where
  | duplicate
  | accepted (gap : Nat)
deriving DecidableEq, Repr

def checkRun (expected : Option Run) (run : Run) (d : Bool) : RunCheck :=
  match expected with
  | none => .accepted 0
  | some x => if d then .accepted 0 else if run = x - 1 then .duplicate else .accepted (run - x).toNat

/-- The deviation of a stamp from its pairing, when one is computed (R32). -/
def deviation (p : Pairing) (stamp : BitVec 32) (arrival : Clock) : Option Nat :=
  let ds := (stamp - p.stamp).toNat
  let dc := (arrival - p.arrival).toNat
  if 1000000 < dc then none
  else if 2 ^ 31 ≤ ds ∨ 2 ^ 31 ≤ dc then some 65535
  else some (min 65535 ((ds : Int) - (dc : Int)).natAbs)

/-- A binding after a deviation is computed (R32). -/
def Binding.deviated (b : Binding) (dev : Option Nat) : Binding :=
  match dev with
  | none => b
  | some j => { b with peakJ := max b.peakJ j, deviationSeen := true }

/-- Stamp pairing of an accepted cell (R32). -/
def Binding.paired (b : Binding) (c : Cell) (arrival : Clock) : Binding :=
  if c.t then
    { b.deviated (if c.d then none else b.pairing.bind fun p => deviation p c.stamp arrival) with
      pairing := some { stamp := c.stamp, arrival := arrival } }
  else b

/-- A binding after an accepted cell: its counters, its runs, its last cell time and its pairing (R30 to R32). -/
def Binding.accepting (b : Binding) (c : Cell) (gap : Nat) (arrival : Clock) : Binding :=
  { b with
    n := saturate Config.counter24 (b.n + 1)
    x := if c.e then saturate Config.counter24 (b.x + 1) else b.x
    g := saturate Config.counter24 (b.g + gap)
    expectedRun := some (c.run + 1)
    lastCellTime := arrival }.paired c arrival

/-- The primary component of a carriage uses a binding. -/
def Carriage.primaryUses (x : Carriage) (name : BindingName) : Bool :=
  (x.components.head?.bind (·.binding)) = some name

/-- A cell was accepted on a binding: its *last cell time* is from now on the later of R40's two times for every
carriage whose primary component uses the binding (log 39). -/
def markHeard (s : State) (name : BindingName) : State :=
  { s with carriages := s.carriages.map fun x =>
      if x.2.primaryUses name then (x.1, { x.2 with heard := true }) else x }

/-- Clear the *stalled* flag of one carriage and hand the change on (R40, R23). -/
def clearStall (s : State) (c : Nat) : State :=
  match s.carriage c with
  | none => s
  | some x => (s.modCarriage c fun y => { y with stalled := false }).hand x.service

/-- The next accepted cell on a primary component's binding clears the stall (R40). -/
def clearStalls (s : State) (name : BindingName) : State :=
  (s.carriagesWhere fun x => x.stalled && x.primaryUses name).foldl clearStall s

/-- A bound cell on a lane and flow with binding `b` (R30, R31). -/
def boundCell (s : State) (b : Binding) (c : Cell) : State :=
  match checkRun b.expectedRun c.run c.d with
  | .duplicate =>
    (s.modBinding b.name fun y => { y with duplicates := saturate Config.counter24 (y.duplicates + 1) }).modCounters
      b.name.lane fun n => { n with duplicate := saturate Config.counter32 (n.duplicate + 1) }
  | .accepted gap =>
    forwardCell (clearStalls (markHeard (s.modBinding b.name fun y => y.accepting c gap s.clock) b.name) b.name)
      b.name c

/-- A programme cell (R28): bound, or unbound. -/
def programmeCell (s : State) (l : Nat) (c : Cell) : State :=
  match s.binding l c.flow with
  | some b => boundCell s b c
  | none => s.modCounters l fun n => { n with unbound := saturate Config.counter32 (n.unbound + 1) }

/-! ## Stall expiry (R40) -/

/-- The silence of a carriage: the time since the later of the last cell time of its primary component's binding
and the time it last bound (R40). Which of the two is the later is told by the carriage's mark and not by the two
clock values, so that a wrap of the clock does not change it (R47, log 39). -/
def State.silenceOf (s : State) (x : Carriage) : Nat :=
  match x.components.head?.bind s.bindingOf with
  | none => elapsed s.clock x.boundTime
  | some b => elapsed s.clock (if x.heard then b.lastCellTime else x.boundTime)

/-- The stall time has passed for a carriage that is not yet stalled (R40). -/
def State.stallDue (s : State) (x : Carriage) : Bool :=
  x.state.isScored && !x.stalled && decide (micros s.policy.stallTime ≤ s.silenceOf x)

/-- A carriage becomes stalled, and the change is handed on (R40, R23). -/
def stallCarriage (s : State) (c : Nat) : State :=
  match s.carriage c with
  | none => s
  | some x => (s.modCarriage c fun y => { y with stalled := true }).hand x.service

/-- Every carriage whose silence reaches the stall time becomes stalled (R40, R170). -/
def stallAll (s : State) : State := (s.carriagesWhere s.stallDue).foldl stallCarriage s

/-! ## Admission of command cells (R166) -/

/-- RESTART at the head of the input queue while the control queue holds a cell sets *restart waiting* (R181,
log 24). -/
def noteRestart (s : State) : State :=
  match s.mgmt.inputQueue with
  | [] => s
  | c :: _ =>
    if isCommand codeRestart 0 c && !s.store.controlQueue.isEmpty then
      { s with mgmt := { s.mgmt with restartWaiting := true } }
    else s

/-- The checks of R166, in their order, on a management cell of the house lane. -/
def admitCommand (s : State) (c : Cell) : State :=
  if commandAddress c.payload ≠ s.mgmt.unitAddress then s
  else if c.e || !commandSound c.payload then
    { s with mgmt := { s.mgmt with badCheck := saturate Config.counter32 (s.mgmt.badCheck + 1) } }
  else if Config.inputPlaces ≤ s.mgmt.inputQueue.length then
    { s with mgmt := { s.mgmt with dropped := saturate Config.counter32 (s.mgmt.dropped + 1) } }
  else
    noteRestart { s with mgmt := { s.mgmt with inputQueue := s.mgmt.inputQueue ++ [readCommand c.payload] } }

/-! ## Dispatch (R27 to R29) -/

def unexpectedCell (s : State) (l : Nat) : State :=
  s.modCounters l fun n => { n with unexpected := saturate Config.counter32 (n.unexpected + 1) }

def voidArrived (s : State) (l : Nat) : State :=
  s.modCounters l fun n => { n with void := saturate Config.counter32 (n.void + 1) }

/-- A status cell on a feed lane that is parked or roving, and the lanes that claim after the act. -/
def statusCell (s : State) (l : Nat) (c : Cell) : State × List Nat :=
  if c.e then (errorStatus s l, [])
  else if (s.lane l).mode = .roving then rovingStatus s l (readStatus c.payload)
  else (parkedStatus s l (readStatus c.payload), [])

/-- Dispatch by flow on a parked lane, the house lane included, or a roving lane in its dwell (R28). -/
def dispatchCell (s : State) (l : Nat) (c : Cell) : State × List Nat :=
  if c.flow < Config.firstReservedFlow then (programmeCell s l c, [])
  else if c.flow = Config.voidFlow then (voidArrived s l, [])
  else if c.flow = Config.directoryFlow then (directoryCell s l c, [])
  else if c.flow = Config.statusFlow ∧ isFeed l = true then statusCell s l c
  else if c.flow = Config.managementFlow ∧ isFeed l = false then (admitCommand s c, [])
  else (unexpectedCell s l, [])

/-- A cell on an idle lane (R29). R44's void counter names no mode; a void cell is counted as idle alone, which is the
model's choice (log 40). -/
def idleCell (s : State) (l : Nat) (c : Cell) : State :=
  if c.flow = Config.statusFlow then idleStatus s l c.e (readStatus c.payload)
  else s.modCounters l fun n => { n with idle := saturate Config.counter32 (n.idle + 1) }

/-- A cell that passes its header check is dispatched by the lane's mode (R28, R29). -/
def checkedCell (s : State) (l : Nat) (c : Cell) : State × List Nat :=
  match (s.lane l).mode with
  | .idle => (idleCell s l c, [])
  | .parked => dispatchCell s l c
  | .roving =>
    if (s.lane l).visitState = some .dwelling then dispatchCell s l c
    else if c.flow = Config.statusFlow then statusCell s l c
    else (s, [])

/-- A cell whose header check fails (R27). -/
def failedCell (s : State) (l : Nat) : State :=
  s.modLane l fun n =>
    { n with
      headerErrorSeen := true
      counters := { n.counters with headerError := saturate Config.counter32 (n.counters.headerError + 1) } }

/-- A cell arrives on a lane (R27, R44): the state up to the evaluations of the act, and the lanes whose visits it
ended. -/
def arriveCell (s : State) (l : Nat) (bytes : List Byte) : State × List Nat :=
  let s1 := s.modCounters l fun n => { n with received := saturate Config.counter32 (n.received + 1) }
  if headerPasses bytes then checkedCell s1 l (readCell bytes) else (failedCell s1 l, [])

end Sys2Proof.Machine
end

