-- ==== Sys2Proof/Machine/Reports.lean ====
section
/-! DEFINITION. The results of commands, field by field (12.4): each rule's fields in its order, in the least whole
number of bytes, an absent value as all ones (log 9, log 10). -/

namespace Sys2Proof.Machine

open Sys2Proof

/-! ## Fields -/

/-- An absent value: all ones in its width. -/
def allOnes (width : Nat) : Nat := 256 ^ width - 1

def optField (width : Nat) (v : Option Nat) : List Byte := bytesOf width (v.getD (allOnes width))

/-- A signed value in two's complement. -/
def signedField (width : Nat) (v : Int) : List Byte := bytesOf width (v % (256 ^ width : Nat)).toNat

def optSigned (width : Nat) (v : Option Int) : List Byte :=
  match v with
  | none => bytesOf width (allOnes width)
  | some i => signedField width i

def clockField (t : Option Clock) : List Byte := optField 4 (t.map (·.toNat))

def flagField (b : Bool) : List Byte := bytesOf 1 (bitValue b 0)

def keyField (k : Option Key) : List Byte := optField 4 (k.map (·.toNat))

/-! ## Codes of 12.4 -/

def LaneMode.code : LaneMode → Nat
  | .idle => 0
  | .parked => 1
  | .roving => 2

def ParkedState.code : ParkedState → Nat
  | .await => 0
  | .locked => 1
  | .unlocked => 2
  | .silent => 3

def VisitState.code : VisitState → Nat
  | .tuning => 0
  | .settling => 1
  | .dwelling => 2
  | .paused => 3

def SurveyOutcome.code : SurveyOutcome → Nat
  | .notVisited => 0
  | .noLock => 1
  | .noDirectory => 2
  | .surveyed => 3

def RejectCause.code : RejectCause → Nat
  | .badCheck => 1
  | .badSection => 2
  | .badCount => 3
  | .badLength => 4
  | .badComponents => 5
  | .badFlow => 6
  | .badName => 7
  | .duplicateKey => 8
  | .duplicateFlow => 9
  | .badTiming => 10

def CarriageState.code : CarriageState → Nat
  | .shelved => 0
  | .survey => 1
  | .incomplete => 2
  | .probation => 3
  | .usable => 4
  | .faulted => 5

def SlotState.code : SlotState → Nat
  | .vacant => 0
  | .dark => 1
  | .armed => 2
  | .splicing => 3
  | .steady => 4

def RecordKind.code : RecordKind → Nat
  | .newService => 1
  | .recomposed => 2
  | .vanished => 3
  | .entryChanged => 4
  | .tableFull => 5

def LaneCauses.bits (c : LaneCauses) : Nat :=
  bitValue c.unlocked 0 + bitValue c.silent 1 + bitValue c.degraded 2 + bitValue c.recovered 3 + bitValue c.restart 4

def RankCauses.bits (c : RankCauses) : Nat := bitValue c.prospect 0 + bitValue c.lastCopy 1

def SlotCauses.bits (c : SlotCauses) : Nat :=
  bitValue c.changeover 0 + bitValue c.forced 1 + bitValue c.dark 2

/-! ## READ LANE and READ PLAN ENTRY (R174) -/

def countersReport (c : LaneCounters) : List Byte :=
  bytesOf 4 c.received ++ bytesOf 4 c.headerError ++ bytesOf 4 c.void ++ bytesOf 4 c.unexpected
    ++ bytesOf 4 c.unbound ++ bytesOf 4 c.idle ++ bytesOf 4 c.duplicate ++ bytesOf 4 c.status ++ bytesOf 4 c.stale
    ++ bytesOf 4 c.uncorrected ++ bytesOf 4 c.resends

def assemblerReport (a : Assembler) : List Byte :=
  bytesOf 4 a.accepted ++ bytesOf 4 a.repeats ++ bytesOf 4 a.broken ++ bytesOf 4 a.rejected ++ bytesOf 4 a.stray
    ++ bytesOf 4 a.unlocked ++ optField 1 (a.lastRejection.map (·.code))

def roverReport (r : Rover) : List Byte :=
  bytesOf 1 r.visitState.code ++ optField 1 r.claimedEntry ++ optField 1 r.visitTag
    ++ flagField r.visitTimer.isSome ++ flagField r.directoryTaken ++ bytesOf 1 r.dwellServiceCount
    ++ bytesOf 4 r.visits ++ bytesOf 4 r.surveyed ++ bytesOf 4 r.noLock ++ bytesOf 4 r.noDirectory
    ++ bytesOf 4 r.abandoned ++ bytesOf 4 r.late

def laneReport (n : Lane) : List Byte :=
  bytesOf 1 n.mode.code ++ optField 1 n.entry ++ optField 1 (n.parkedState.map (·.code)) ++ bytesOf 1 n.tagCounter
    ++ optField 1 n.currentTag ++ flagField n.acknowledged ++ bytesOf 2 n.statusInterval ++ optField 1 n.latestMargin
    ++ optSigned 1 n.latestLevel ++ clockField n.lastStatusTime ++ optField 1 n.windowMargin
    ++ bytesOf 2 n.windowStatusCount ++ bytesOf 1 (bitValue n.uncorrectedSeen 0 + bitValue n.headerErrorSeen 1)
    ++ bytesOf 1 n.faultScore ++ flagField n.degraded ++ flagField n.laneFlag ++ bytesOf 1 n.flagCauses.bits
    ++ countersReport n.counters
    ++ bytesOf 1 (bitValue n.lockTimer.isSome 0 + bitValue n.silenceTimer.isSome 1 + bitValue n.windowTimer.isSome 2)
    ++ assemblerReport n.asm ++ (n.rover.map roverReport).getD []

def planReport (s : State) (e : Nat) : List Byte :=
  let p := s.entry e
  optField 8 (p.tuningWord.map (·.toNat)) ++ signedField 1 p.bias ++ flagField p.surveyEnable
    ++ optField 2 (p.multiplexId.map (·.toNat)) ++ optField 1 p.directoryVersion ++ optField 1 p.parkedLane
    ++ optField 1 p.visitingLane ++ bytesOf 1 p.surveyOutcome.code ++ clockField p.surveyTime
    ++ optField 1 p.surveyMargin ++ bytesOf 1 p.serviceCount ++ flagField (s.promptSet.contains e)

/-! ## READ SERVICE and READ CARRIAGE (R175) -/

/-- The eight places of the ranked list, an unfilled place being absent (log 9). -/
def rankedPlaces (v : Service) : List (Option Nat) := (List.range Config.maxRanked).map fun i => v.rankedList[i]?

def State.rankValueAt (s : State) (c : Option Nat) : Option Int := (c.bind s.carriage).bind s.rankValue

def serviceReport (s : State) (v : Service) : List Byte :=
  bytesOf 4 v.key.toNat ++ bytesOf 1 v.name.length ++ v.name ++ ((rankedPlaces v).map (optField 2)).flatten
    ++ optField 2 v.selected ++ optField 2 v.candidate ++ bytesOf 1 v.confirmCount ++ optField 2 v.pinned
    ++ optField 2 v.bestProspect ++ bytesOf 2 v.selectableCount ++ flagField v.rankFlag ++ bytesOf 1 v.slotRefs
    ++ flagField v.prospectLead ++ bytesOf 1 v.rankCauses.bits
    ++ ((rankedPlaces v).map fun c => optSigned 2 (s.rankValueAt c)).flatten
    ++ optSigned 2 ((v.bestProspect.bind s.carriage).bind s.prospectValue)

def componentReport (c : Component) : List Byte :=
  bytesOf 1 c.kind.code ++ bytesOf 2 c.flow ++ optField 1 (c.binding.map (·.lane)) ++ optField 2 (c.binding.map (·.flow))

def windowReport (w : Option LastWindow) : List Byte :=
  optField 4 (w.map (·.n)) ++ optField 4 (w.map (·.g)) ++ optField 4 (w.map (·.x)) ++ optField 1 (w.map (·.m))
    ++ optField 2 (w.map (·.j)) ++ optField 3 (w.bind (·.p)) ++ optField 1 (w.bind (·.q)) ++ optField 2 (w.map (·.w))

def carriageReport (s : State) (x : Carriage) : List Byte :=
  bytesOf 1 x.entry ++ optField 2 (s.serviceIndex x.service) ++ bytesOf 1 x.components.length
    ++ (x.components.map componentReport).flatten ++ optField 1 x.timing ++ bytesOf 1 x.state.code ++ optField 1 x.lane
    ++ flagField x.laneDown ++ flagField x.stalled ++ optField 2 x.merit ++ bytesOf 1 x.faultScore
    ++ bytesOf 1 x.peakFault ++ bytesOf 1 x.probation ++ bytesOf 1 x.missing ++ windowReport x.lastWindow
    ++ optField 2 x.surveyFigure ++ clockField x.surveyTime ++ optField 1 (x.wholeWindow.map fun b => bitValue b 0)
    ++ optSigned 2 (s.rankValue x) ++ bytesOf 4 x.service.toNat
    ++ (x.components.map fun c => optField 3 ((s.bindingOf c).map (·.duplicates))).flatten

/-! ## READ SLOT (R176) -/

/-- A capacity as 12.4 codes it: 0 is automatic. -/
def Capacity.number : Capacity → Nat
  | .automatic => 0
  | .cells n => n

/-- A pressure margin as 12.4 codes it: default is all ones. -/
def Margin.number : Margin → Nat
  | .standard => allOnes 2
  | .cells n => n

def switchedBits (js : List Nat) : Nat := ((List.range 6).map fun i => bitValue (js.contains i) i).sum

def flowReport (f : OutFlow) : List Byte :=
  bytesOf 1 f.run.toNat ++ optField 2 (f.feed.map (·.carriage)) ++ optField 1 (f.feed.map (·.component))
    ++ flagField f.restart

def slotReport (s : State) (k : Slot) : List Byte :=
  bytesOf 1 k.state.code ++ keyField k.primary ++ keyField k.fallback ++ optField 2 k.channel ++ optField 2 k.baseFlow
    ++ optField 2 (k.capacity.map (·.number)) ++ optField 2 (k.margin.map (·.number)) ++ optField 2 k.onAir
    ++ optField 2 k.target ++ flagField k.onFallback ++ bytesOf 1 (switchedBits k.switched)
    ++ flagField k.forcedPending ++ flagField k.reviewPending ++ clockField k.armedTime ++ clockField k.lastChangeover
    ++ bytesOf 4 k.cleanSplices ++ bytesOf 4 k.forcedSplices ++ bytesOf 4 k.overflows ++ flagField k.changeFlag
    ++ bytesOf 1 k.changeCauses.bits ++ flagField k.timer.isSome ++ (k.flows.map flowReport).flatten
    ++ bytesOf 2 k.queue.length ++ optField 2 (s.effectiveCapacity k) ++ optField 2 (s.effectiveMargin k)
    ++ flagField (s.pressured k) ++ flagField k.onFallback

/-! ## READ NOTICES and READ DISCOVERY LOG (R187, R190) -/

def noticesReport (s : State) : List Byte :=
  bytesOf 1 s.pendingSet.bits ++ bytesOf 1 s.pendingSet.highest ++ bytesOf 1 s.output.mask.bits
    ++ flagField s.mgmt.owed ++ bytesOf 4 s.mgmt.badCheck ++ bytesOf 4 s.mgmt.dropped
    ++ bytesOf 4 s.store.directorySkips

def recordReport (r : DiscoveryRecord) : List Byte :=
  bytesOf 1 r.kind.code ++ bytesOf 1 r.entry ++ bytesOf 4 r.key.toNat ++ optField 2 r.carriage
    ++ bytesOf 4 r.time.toNat

/-- The watch-seen map as a number: bit i for watch-list index i. -/
def watchBits (seen : List Bool) : Nat := ((List.range 32).map fun i => bitValue (seen.getD i false) i).sum

/-- The records a READ DISCOVERY LOG returns (R190, step 2). -/
def State.logTaken (s : State) : List DiscoveryRecord := s.mgmt.log.take 8

def logReport (s : State) : List Byte :=
  (s.logTaken.map recordReport).flatten ++ bytesOf 1 s.logTaken.length
    ++ bytesOf 1 (s.mgmt.log.length - s.logTaken.length) ++ flagField s.mgmt.overflow
    ++ bytesOf 4 (watchBits s.watchSeen)

/-! ## LIST SERVICES and LIST CARRIAGES (R177, R178) -/

/-- The first sixteen records from a starting index on, of the records a list would show. -/
def listedFrom {α : Type} (t : List (Nat × α)) (start : Nat) : List (Nat × α) :=
  (t.filter fun x => decide (start ≤ x.1)).take 16

/-- The next index: one above the last listed, or absent when none remains above it (R177). -/
def nextIndex {α : Type} (t : List (Nat × α)) (start : Nat) : Option Nat :=
  match (listedFrom t start).getLast? with
  | none => none
  | some x => if t.any fun y => decide (x.1 < y.1) then some (x.1 + 1) else none

/-- A list's result: its records, their number, the next index. -/
def listReport {α : Type} (t : List (Nat × α)) (start : Nat) (f : Nat × α → List Byte) : List Byte :=
  ((listedFrom t start).map f).flatten ++ bytesOf 1 (listedFrom t start).length ++ optField 2 (nextIndex t start)

def serviceLine (x : Nat × Service) : List Byte :=
  bytesOf 2 x.1 ++ bytesOf 4 x.2.key.toNat ++ optField 2 x.2.selected

def carriageLine (x : Nat × Carriage) : List Byte :=
  bytesOf 2 x.1 ++ bytesOf 1 x.2.entry ++ bytesOf 4 x.2.service.toNat ++ bytesOf 1 x.2.state.code

/-- The carriages LIST CARRIAGES lists: those of the entry named, or all (R178). -/
def State.carriagesNamed (s : State) (e : Option Nat) : List (Nat × Carriage) :=
  match e with
  | none => s.carriages
  | some e => s.carriages.filter fun x => x.2.entry = e

end Sys2Proof.Machine
end

