-- ==== Sys2Proof/Machine/Management.lean ====
section
/-! DEFINITION. The shared shapes of a step: an event of a block, and a command taken from the head of the command
input queue with its one reply (R167 to R169, R181, R185). -/

namespace Sys2Proof.Machine

open Sys2Proof

/-! ## Full reset (R181, steps 2 and 3) -/

/-- Every block at the values its chapter gives for a full reset, the unit address sampled from the pins. The level
of the reset pin is not a register and stays; the model's own count of free values and queue of waiting steps are no
part of the part and stay (log 6, log 31). -/
def fullReset (s : State) (pins : BitVec 3) : State :=
  { State.reset with
    pins := pins
    resetHeld := s.resetHeld
    mgmt := { Management.fresh with unitAddress := pins.toNat }
    freeCount := s.freeCount
    pending := s.pending }

/-! ## Events (R185) -/

/-- The end of an event's act that began in `s0`: the evaluations and the delivery of their selection changes, then
the claims when the act ended a visit, then the owed notice (R71, R111, R123, R185). -/
def closeEvent (s0 : State) (r : State × List Nat) : State :=
  settleNotice s0 (if r.2 = [] then closeAct s0 r.1 else closeWithClaims s0 r.1 r.2)

/-- An event that comes about when `enabled` holds; otherwise, and while the reset pin is held, nothing happens
(R181, log 2). -/
def event (s : State) (enabled : Bool) (act : State → State × List Nat) : State :=
  if enabled && !s.resetHeld then closeEvent s (act s) else s

/-- An event that hands nothing to the ranking engine and ends no visit. -/
def quietEvent (s : State) (enabled : Bool) (act : State → State) : State :=
  if enabled && !s.resetHeld then settleNotice s (act s) else s

/-! ## Commands (R167, R168) -/

/-- Place the reply of a command, or a notice, at the tail of the control queue (R156, R168, R186). -/
def placeControl (s : State) (c : ControlCell) : State :=
  { s with store := { s.store with controlQueue := s.store.controlQueue ++ [c] } }

/-- The reply to a command (R168). The unit address is the part's as the act ends. -/
def replyTo (s : State) (c : Command) (status : Status) (result : List Byte) : ControlCell :=
  { address := BitVec.ofNat 8 s.mgmt.unitAddress, tag := c.tag, code := c.code, status := status, result := result }

/-- The conditions of R167: a command can be taken. -/
def State.canTake (s : State) : Bool :=
  !s.resetHeld && !s.mgmt.restartWaiting && decide (s.store.controlQueue.length < Config.controlPlaces)

/-- The head of the command input queue, when it is a command that `p` allows and can be taken. -/
def State.headCommand (s : State) (p : Command → Bool) : Option (Command × List Command) :=
  match s.mgmt.inputQueue with
  | [] => none
  | c :: rest => if p c && s.canTake then some (c, rest) else none

/-- The command input queue with its head removed (R167). -/
def dropHead (s : State) (rest : List Command) : State := { s with mgmt := { s.mgmt with inputQueue := rest } }

/-- What a command's act leaves: the state, the status and the result of its reply. -/
structure Reply where
  state  : State
  status : Status
  result : List Byte

/-- A refused command changes no state and carries an empty result (R168, R169). -/
def refuse (s : State) (status : Status) : Reply := { state := s, status := status, result := [] }

def answer (s : State) (result : List Byte) : Reply := { state := s, status := .done, result := result }

/-- Take the head of the command input queue when `p` allows it, perform `act` on its arguments, bring the owed
notice up to date, place the reply, and see whether RESTART has reached the head (R167, R168, R181, R185). A command
that cannot be taken yet waits: nothing happens (log 3). -/
def takeIf (p : Command → Bool) (s : State) (act : State → List Byte → Reply) : State :=
  match s.headCommand p with
  | none => s
  | some (c, rest) =>
    let r := act (dropHead s rest) c.args
    noteRestart (placeControl (settleNotice s r.state) (replyTo r.state c r.status r.result))

/-- A command of 12.4, by its code and the argument length it requires (R169). -/
def takeCommand (code len : Nat) (s : State) (act : State → List Byte → Reply) : State :=
  takeIf (isCommand code len) s act

end Sys2Proof.Machine
end

