-- ==== Sys2Proof/Machine/Arrivals.lean ====
section
/-! DEFINITION. The meanings of CELL_ARRIVAL and ORDER_CELL_SEND (R27, R33). -/

namespace Sys2Proof.Machine

open Sys2Proof Host

/-- CELL_ARRIVAL (R27): the cell's whole handling, with the evaluations, notices and claims its act causes. -/
def execCellArrival (lane : Nat) (cell : List Byte) (s : State) : Outcome State Fault Refusal :=
  if Config.houseLane < lane then .fault .noSuchLane
  else if cell.length ≠ Config.cellBytes then .fault .notACell
  else .next (event s true fun s => arriveCell s lane cell)

/-- The cell that a return path carries at a cell boundary: the order that waits, or a void cell (R33, log 22). -/
def returnPathCell (n : Lane) (free : BitVec 43) : Cell :=
  match n.pendingOrder with
  | some o => returnCell Config.orderFlow (orderPayload o) free
  | none => returnCell Config.voidFlow [] free

/-- A cell boundary of a feed lane's return path (R33). The header's run, marks and stamp are free (log 7). -/
def sendReturnCell (s : State) (l : Nat) : State :=
  { s.modLane l fun n =>
      { n with returnOut := some (cellToBytes (returnPathCell n (Config.returnHeader s.freeCount)))
               pendingOrder := none } with
    freeCount := s.freeCount + 1 }

/-- ORDER_CELL_SEND (R33). The house lane carries cells inward alone. -/
def execOrderCellSend (lane : Nat) (s : State) : Outcome State Fault Refusal :=
  if Config.houseLane < lane then .fault .noSuchLane
  else .next (if isFeed lane && !s.resetHeld then sendReturnCell s lane else s)

end Sys2Proof.Machine
end

