-- ==== Sys2Proof/Machine/CarriageCommands.lean ====
section
/-! DEFINITION. The meanings of READ_CARRIAGE, FLUSH_CARRIAGE, FORGET_CARRIAGE and LIST_CARRIAGES (R175, R178 to
R180). -/

namespace Sys2Proof.Machine

open Sys2Proof Host

/-- A carriage index names a carriage in use, or the status that refuses it: above 1023 BAD-INDEX, not in use
NOT-FOUND (R175, R179, R180). -/
def State.namedCarriage (s : State) (c : Nat) : Except Status Carriage :=
  if Config.maxCarriages ≤ c then .error .badIndex
  else
    match s.carriage c with
    | none => .error .notFound
    | some x => .ok x

/-! ## READ CARRIAGE (R173, R175) -/

def readCarriageAct (s : State) (args : List Byte) : Reply :=
  let c := numberAt args 0 2
  match s.namedCarriage c with
  | .error r => refuse s r
  | .ok x => answer (s.modCarriage c fun y => { y with peakFault := y.faultScore }) (carriageReport s x)

/-- READ_CARRIAGE (R175). -/
def execReadCarriage (s : State) : Outcome State Fault Refusal :=
  .next (takeCommand codeReadCarriage 2 s readCarriageAct)

/-! ## FLUSH CARRIAGE (R179) -/

/-- A carriage flushed: merit, fault score, peak and last window (R179). -/
def Carriage.flushed (x : Carriage) : Carriage :=
  { x with merit := none, faultScore := 0, peakFault := 0, lastWindow := none }

def flushCarriageAct (s : State) (args : List Byte) : Reply :=
  let c := numberAt args 0 2
  match s.namedCarriage c with
  | .error r => refuse s r
  | .ok x => answer (s.modCarriage c Carriage.flushed) (carriageReport s x)

/-- FLUSH_CARRIAGE (R179). -/
def execFlushCarriage (s : State) : Outcome State Fault Refusal :=
  .next (takeCommand codeFlushCarriage 2 s flushCarriageAct)

/-! ## FORGET CARRIAGE (R180) -/

/-- Checks 3 and 4 of R180: the carriage is selected, or is a slot's target. -/
def State.carriageInUse (s : State) (c : Nat) (x : Carriage) : Bool :=
  s.selectedOf x.service = some c || s.isTarget c

def forgetCarriageAct (s : State) (args : List Byte) : Reply :=
  let c := numberAt args 0 2
  match s.namedCarriage c with
  | .error r => refuse s r
  | .ok x =>
    if s.carriageInUse c x then refuse s .inUse
    else answer (closeAct s (removeCarriage s c)) (bytesOf 1 x.entry ++ bytesOf 4 x.service.toNat)

/-- FORGET_CARRIAGE (R180). -/
def execForgetCarriage (s : State) : Outcome State Fault Refusal :=
  .next (takeCommand codeForgetCarriage 2 s forgetCarriageAct)

/-! ## LIST CARRIAGES (R178) -/

/-- The entry LIST CARRIAGES names: 0xFF is none (R196). -/
def entryArg (args : List Byte) : Option Nat := if byteAt args 2 = 0xFF then none else some (byteAt args 2)

def listCarriagesAct (s : State) (args : List Byte) : Reply :=
  let start := numberAt args 0 2
  if Config.maxCarriages ≤ start ∨ Config.houseEntry < (entryArg args).getD 0 then refuse s .badIndex
  else answer s (listReport (s.carriagesNamed (entryArg args)) start carriageLine)

/-- LIST_CARRIAGES (R178). -/
def execListCarriages (s : State) : Outcome State Fault Refusal :=
  .next (takeCommand codeListCarriages 3 s listCarriagesAct)

end Sys2Proof.Machine
end

