-- ==== Sys2Proof/Machine/Timers.lean ====
section
/-! DEFINITION. The meanings of the timer events of lanes, rovers, carriages and slots, and when each is due
(R37, R38, R40, R41, R72, R73, R81, R134, R136). An expiry that is not due does nothing (log 2). -/

namespace Sys2Proof.Machine

open Sys2Proof Host

/-! ## When each expiry is due -/

/-- The lock timer of a parked lane in AWAIT or UNLOCKED has run its length (R37). -/
def State.lockDue (s : State) (l : Nat) : Bool :=
  let n := s.lane l
  n.mode = .parked && (n.parkedState = some .await || n.parkedState = some .unlocked) && timerDue n.lockTimer s.clock

def State.silenceDue (s : State) (l : Nat) : Bool := timerDue (s.lane l).silenceTimer s.clock

def State.windowDue (s : State) (l : Nat) : Bool :=
  (s.lane l).mode = .parked && timerDue (s.lane l).windowTimer s.clock

/-- The visit timer has run its length in a visit state. -/
def State.visitDue (s : State) (l : Nat) (v : VisitState) : Bool :=
  (s.lane l).visitState = some v && timerDue ((s.lane l).rover.bind (·.visitTimer)) s.clock

def State.stallDueAt (s : State) (c : Nat) : Bool :=
  match s.carriage c with
  | none => false
  | some x => s.stallDue x

/-- The changeover timer of a slot has run its length in a slot state. -/
def State.slotDue (s : State) (k : Nat) (st : SlotState) : Bool :=
  (s.slot k).state = st && timerDue (s.slot k).timer s.clock

/-! ## What each expiry does -/

/-- A silence expiry: SILENT on a parked lane, a loss of lock in settling or dwelling (R38, R75). -/
def silenceExpired (s : State) (l : Nat) : State × List Nat :=
  let s1 := stopSilence s l
  match (s.lane l).mode with
  | .parked => (parkedSilence s1 l, [])
  | .roving => if (s.lane l).losesLock then (endVisit s1 l (some .noLock), [l]) else (s1, [])
  | .idle => (s1, [])

/-- The expiry of a dwell, with the outcome of R81. -/
def dwellExpired (s : State) (l : Nat) : State := endVisit s l ((s.lane l).rover.map (·.dwellOutcome))

/-- The changeover timer of an ARMED slot expires (R134). -/
def armedExpired (s : State) (k : Nat) : State :=
  s.modSlot k fun x => { x with forcedPending := true, timer := none }

/-! ## The meanings -/

/-- LOCK_TIMEOUT (R37). -/
def execLockTimeout (lane : Nat) (s : State) : Outcome State Fault Refusal :=
  if Config.houseLane < lane then .fault .noSuchLane
  else .next (event s (s.lockDue lane) fun s => (lockExpired s lane, []))

/-- SILENCE_EXPIRY (R38). -/
def execSilenceExpiry (lane : Nat) (s : State) : Outcome State Fault Refusal :=
  if Config.houseLane < lane then .fault .noSuchLane
  else .next (event s (s.silenceDue lane) fun s => silenceExpired s lane)

/-- STALL_EXPIRY (R40). -/
def execStallExpiry (carriage : Nat) (s : State) : Outcome State Fault Refusal :=
  if Config.maxCarriages ≤ carriage then .fault .noSuchCarriage
  else .next (event s (s.stallDueAt carriage) fun s => (stallCarriage s carriage, []))

/-- WINDOW_END (R41). -/
def execWindowEnd (lane : Nat) (s : State) : Outcome State Fault Refusal :=
  if Config.houseLane < lane then .fault .noSuchLane
  else .next (event s (s.windowDue lane) fun s => (windowEnd s lane, []))

/-- VISIT_LOCK_TIMEOUT (R72). -/
def execVisitLockTimeout (lane : Nat) (s : State) : Outcome State Fault Refusal :=
  if Config.houseLane < lane then .fault .noSuchLane
  else .next (event s (s.visitDue lane .tuning) fun s => (endVisit s lane (some .noLock), [lane]))

/-- SETTLE_EXPIRY (R73). -/
def execSettleExpiry (lane : Nat) (s : State) : Outcome State Fault Refusal :=
  if Config.houseLane < lane then .fault .noSuchLane
  else .next (quietEvent s (s.visitDue lane .settling) fun s => enterDwelling s lane)

/-- DWELL_END (R81). -/
def execDwellEnd (lane : Nat) (s : State) : Outcome State Fault Refusal :=
  if Config.houseLane < lane then .fault .noSuchLane
  else .next (event s (s.visitDue lane .dwelling) fun s => (dwellExpired s lane, [lane]))

/-- CHANGEOVER_TIMEOUT (R134). -/
def execChangeoverTimeout (slot : Nat) (s : State) : Outcome State Fault Refusal :=
  if Config.slotCount ≤ slot then .fault .noSuchSlot
  else .next (quietEvent s (s.slotDue slot .armed) fun s => armedExpired s slot)

/-- SPLICING_TIMEOUT (R136). -/
def execSplicingTimeout (slot : Nat) (s : State) : Outcome State Fault Refusal :=
  if Config.slotCount ≤ slot then .fault .noSuchSlot
  else .next (quietEvent s (s.slotDue slot .splicing) fun s => endSplice s slot)

end Sys2Proof.Machine
end

