-- ==== Sys2Proof/Machine/LaneCommands.lean ====
section
/-! DEFINITION. The meanings of PARK_LANE, ROVE_LANE, RELEASE_LANE and SET_LANE (R5, R6, R26, R67, R82). -/

namespace Sys2Proof.Machine

open Sys2Proof Host

/-- The checks every lane command makes on its lane (R26). -/
def laneRefusal (l : Nat) : Option Status :=
  if Config.houseLane < l then some .badIndex else if l = Config.houseLane then some .inUse else none

/-! ## PARK LANE (R5, R26) -/

/-- Entry 63 is not empty although its tuning word is absent (R2). -/
def State.entryEmpty (s : State) (e : Nat) : Bool := e ≠ Config.houseEntry && (s.entry e).tuningWord.isNone

/-- The checks of R5, in their order. -/
def parkRefusal (s : State) (l e : Nat) : Option Status :=
  match laneRefusal l with
  | some r => some r
  | none =>
    if Config.houseEntry < e then some .badIndex
    else if s.entryEmpty e then some .inUse
    else if (s.entry e).parkedLane.isSome && (s.entry e).parkedLane ≠ some l then some .conflict
    else none

/-- Steps 1 to 4 of R5: visits abandoned, the lane's entry released, the claim made. -/
def parkClaim (s : State) (l e : Nat) : State :=
  let s1 := (s.entry e).visitingLane.toList.foldl abandonVisit s
  leavePrompt ((leaveLane s1 l).modEntry e fun p => { p with parkedLane := some l }) e

/-- The lane record of PARK LANE, the carriages' bindings, the TUNE and the three timers (R5, R19, R26). -/
def parkRecord (s : State) (l e : Nat) : State :=
  let s1 := bindParked (s.modLane l fun n => n.parkedOn e) l e
  startWindow (startSilence (startLock (sendTune s1 l e) l) l) l

/-- The lanes other than `l` whose visit to the entry a park ends; each claims next (R82). -/
def parkClaimants (s : State) (l e : Nat) : List Nat := (s.entry e).visitingLane.toList.filter (· ≠ l)

def parkLaneAct (s : State) (args : List Byte) : Reply :=
  let l := byteAt args 0
  let e := byteAt args 1
  match parkRefusal s l e with
  | some r => refuse s r
  | none =>
    answer (closeWithClaims s (parkRecord (parkClaim s l e) l e) (parkClaimants s l e))
      (bytesOf 1 l ++ bytesOf 1 e ++ bytesOf 1 (s.lane l).tagCounter)

/-- PARK_LANE (R5). -/
def execParkLane (s : State) : Outcome State Fault Refusal := .next (takeCommand codeParkLane 2 s parkLaneAct)

/-! ## ROVE LANE (R67) -/

/-- ROVE LANE up to the first claim (R26, R67). -/
def roveRecord (s : State) (l : Nat) : State := startSilence ((leaveLane s l).modLane l Lane.roving) l

def roveLaneAct (s : State) (args : List Byte) : Reply :=
  let l := byteAt args 0
  match laneRefusal l with
  | some r => refuse s r
  | none =>
    let s1 := closeWithClaims s (roveRecord s l) [l]
    answer s1 (bytesOf 1 l ++ optField 1 (s1.lane l).visiting ++ optField 1 ((s1.lane l).rover.bind (·.visitTag)))

/-- ROVE_LANE (R67). -/
def execRoveLane (s : State) : Outcome State Fault Refusal := .next (takeCommand codeRoveLane 1 s roveLaneAct)

/-! ## RELEASE LANE (R6, R26) -/

def releaseRecord (s : State) (l : Nat) : State := (leaveLane s l).modLane l fun n => n.released.halted

def releaseLaneAct (s : State) (args : List Byte) : Reply :=
  let l := byteAt args 0
  match laneRefusal l with
  | some r => refuse s r
  | none =>
    answer (closeWithClaims s (releaseRecord s l) []) (bytesOf 1 l ++ bytesOf 1 (s.lane l).tagCounter)

/-- RELEASE_LANE (R26). -/
def execReleaseLane (s : State) : Outcome State Fault Refusal :=
  .next (takeCommand codeReleaseLane 1 s releaseLaneAct)

/-! ## SET LANE (R26, R38) -/

/-- A lane record with a new status interval, a running silence timer taking the new length (R38, log 14). -/
def Lane.intervalSet (n : Lane) (ms : Nat) : Lane :=
  { n with
    statusInterval := ms
    silenceTimer := n.silenceTimer.map fun t => { t with span := micros (3 * ms) } }

/-- SET LANE's act: the new length applies at once, and the silence timer expires at once when it already reaches
it (R38). -/
def setInterval (s : State) (l ms : Nat) : State × List Nat :=
  let s1 := s.modLane l fun n => n.intervalSet ms
  if s1.silenceDue l then silenceExpired s1 l else (s1, [])

def setLaneAct (s : State) (args : List Byte) : Reply :=
  let l := byteAt args 0
  let ms := clampNat 10 1000 (numberAt args 1 2)
  match laneRefusal l with
  | some r => refuse s r
  | none =>
    let r := setInterval s l ms
    { state := if r.2 = [] then closeAct s r.1 else closeWithClaims s r.1 r.2
      status := takenStatus (decide (ms ≠ numberAt args 1 2))
      result := bytesOf 1 l ++ bytesOf 2 ms }

/-- SET_LANE (R26). -/
def execSetLane (s : State) : Outcome State Fault Refusal := .next (takeCommand codeSetLane 3 s setLaneAct)

end Sys2Proof.Machine
end

