-- ==== Sys2Proof/Machine/PlanCommands.lean ====
section
/-! DEFINITION. The meanings of SET_PLAN_ENTRY, CLEAR_PLAN_ENTRY, SET_WATCH and PROMPT_SURVEY (R3, R4, R64, R70). -/

namespace Sys2Proof.Machine

open Sys2Proof Host

/-- A lane parks on the entry or visits it. -/
def PlanEntry.inUse (p : PlanEntry) : Bool := p.parkedLane.isSome || p.visitingLane.isSome

/-! ## SET PLAN ENTRY (R3) -/

/-- The learnt survey fields reset (R3). -/
def PlanEntry.surveyReset (p : PlanEntry) : PlanEntry :=
  { p with surveyOutcome := .notVisited, surveyTime := none, surveyMargin := none, serviceCount := 0 }

/-- An entry as a SET PLAN ENTRY that is taken leaves it (R3). -/
def PlanEntry.set (p : PlanEntry) (word : BitVec 64) (bias : Int) (survey : Bool) : PlanEntry :=
  let p1 := if p.tuningWord = some word then p else p.surveyReset
  { p1 with tuningWord := some word, bias := bias, surveyEnable := survey }

/-- The checks of R3. -/
def planRefusal (s : State) (e : Nat) (word : BitVec 64) : Option Status :=
  if 62 < e then some .badIndex
  else if (s.entry e).tuningWord ≠ some word ∧ (s.entry e).inUse = true then some .inUse
  else none

/-- The entry as taken; a *survey enable* of no takes it out of the prompt set (R68), and the paused lanes claim when
it has become eligible (R71). -/
def setPlanEntryAct (s : State) (args : List Byte) : Reply :=
  let e := byteAt args 0
  let word := BitVec.ofNat 64 (numberAt args 1 8)
  let bias := clampInt (-100) 100 (signedAt args 9)
  match planRefusal s e word with
  | some r => refuse s r
  | none =>
    let s1 := s.modEntry e fun p => p.set word bias (choiceAt args 11)
    let s2 := if choiceAt args 11 then s1 else leavePrompt s1 e
    { state := closeWithClaims s s2 []
      status := takenStatus (decide (bias ≠ signedAt args 9))
      result := bytesOf 1 e ++ signedField 1 bias }

/-- SET_PLAN_ENTRY (R3). -/
def execSetPlanEntry (s : State) : Outcome State Fault Refusal :=
  .next (takeCommand codeSetPlanEntry 12 s setPlanEntryAct)

/-! ## CLEAR PLAN ENTRY (R4) -/

def clearRefusal (s : State) (e : Nat) : Option Status :=
  if 62 < e then some .badIndex else if (s.entry e).parkedLane.isSome then some .inUse else none

/-- Clearing: the entry's carriages are removed, and it takes the reset values of R1 (R4). -/
def clearEntry (s : State) (e : Nat) : State :=
  leavePrompt (((s.entryCarriages e).foldl vanish s).modEntry e fun _ => PlanEntry.fresh) e

def clearPlanEntryAct (s : State) (args : List Byte) : Reply :=
  let e := byteAt args 0
  match clearRefusal s e with
  | some r => refuse s r
  | none =>
    let visitor := (s.entry e).visitingLane.toList
    let s1 := visitor.foldl abandonVisit s
    answer (closeWithClaims s (clearEntry s1 e) visitor) (bytesOf 1 e ++ bytesOf 2 (s1.entryCarriages e).length)

/-- CLEAR_PLAN_ENTRY (R4). -/
def execClearPlanEntry (s : State) : Outcome State Fault Refusal :=
  .next (takeCommand codeClearPlanEntry 1 s clearPlanEntryAct)

/-! ## SET WATCH (R64) -/

/-- Write a watch-list entry; the hold on the old key's record is released (R9, R64). -/
def writeWatch (s : State) (i : Nat) (key : Option Key) : State :=
  let s1 := { s with watch := s.watch.set i key, watchSeen := s.watchSeen.set i false }
  match s.watch.getD i none with
  | none => s1
  | some old => freeIfUnheld s1 old

def setWatchAct (s : State) (args : List Byte) : Reply :=
  let i := byteAt args 0
  let key := if choiceAt args 1 then some (keyAt args 2) else none
  if 31 < i then refuse s .badIndex else answer (writeWatch s i key) (bytesOf 1 i ++ keyField key)

/-- SET_WATCH (R64). -/
def execSetWatch (s : State) : Outcome State Fault Refusal := .next (takeCommand codeSetWatch 6 s setWatchAct)

/-! ## PROMPT SURVEY (R70) -/

/-- What PROMPT SURVEY finds of its entry (R70, R172). -/
def State.promptOutcome (s : State) (e : Nat) : Config.PromptOutcome :=
  if s.promptSet.contains e then .already else if s.eligible e then .joined else .notEligible

def joinPrompt (s : State) (e : Nat) : State :=
  match s.promptOutcome e with
  | .joined => { s with promptSet := insertPrompt s.promptSet e }
  | .already | .notEligible => s

/-- The code of the outcome in the result is free (log 8). -/
def promptSurveyAct (s : State) (args : List Byte) : Reply :=
  let e := byteAt args 0
  answer (joinPrompt s e) (bytesOf 1 e ++ [Config.promptCode (s.promptOutcome e)])

/-- PROMPT_SURVEY (R70). -/
def execPromptSurvey (s : State) : Outcome State Fault Refusal :=
  .next (takeCommand codePromptSurvey 1 s promptSurveyAct)

end Sys2Proof.Machine
end

