-- ==== Sys2Proof/Machine/Port.lean ====
section
/-! DEFINITION. The meanings of DIRECTORY_PERIOD_EXPIRY, CELL_OPPORTUNITY and NOTICE_PLACED (R157 to R161, R186). -/

namespace Sys2Proof.Machine

open Sys2Proof Host

def State.directoryDue (s : State) : Bool := timerDue s.store.directoryTimer s.clock

/-- The directory period timer starts the next period (R161). -/
def startDirectoryPeriod (s : State) : State :=
  { s with store := { s.store with directoryTimer := s.startTimer s.output.directoryPeriod } }

/-- DIRECTORY_PERIOD_EXPIRY (R161). -/
def execDirectoryPeriodExpiry (s : State) : Outcome State Fault Refusal :=
  .next (quietEvent s s.directoryDue fun s => startDirectoryPeriod (directoryPeriod s))

/-- CELL_OPPORTUNITY (R157, R158): one cell is emitted. -/
def execCellOpportunity (s : State) : Outcome State Fault Refusal :=
  .next (quietEvent s (opportunityDue s) fun s => advanceSchedule (serve s (arbiterChoice s)))

/-- An owed notice can be placed (R186). -/
def State.noticeReady (s : State) : Bool :=
  s.mgmt.owed && decide (s.store.controlQueue.length < Config.controlPlaces)

/-- The notice as it is composed at its placing (R186, 12.4). -/
def State.noticeCell (s : State) : ControlCell :=
  { address := BitVec.ofNat 8 s.mgmt.unitAddress, tag := 0, code := BitVec.ofNat 8 codeNotice, status := .done
    result := bytesOf 1 s.pendingSet.bits ++ bytesOf 1 s.pendingSet.highest }

/-- Place the owed notice (R186). -/
def placeNotice (s : State) : State :=
  { placeControl s s.noticeCell with mgmt := { s.mgmt with owed := false } }

/-- NOTICE_PLACED (R186). -/
def execNoticePlaced (s : State) : Outcome State Fault Refusal :=
  .next (quietEvent s s.noticeReady fun s => placeNotice s)

end Sys2Proof.Machine
end

