-- ==== Sys2Proof/Machine/ReadCommands.lean ====
section
/-! DEFINITION. The meanings of READ_LANE, READ_PLAN_ENTRY, READ_NOTICES and READ_DISCOVERY_LOG (R174, R187, R190). -/

namespace Sys2Proof.Machine

open Sys2Proof Host

/-! ## READ LANE and READ PLAN ENTRY (R173, R174) -/

def readLaneAct (s : State) (args : List Byte) : Reply :=
  let l := byteAt args 0
  if Config.houseLane < l then refuse s .badIndex
  else answer (s.modLane l Lane.reported) (laneReport (s.lane l))

/-- READ_LANE (R174). -/
def execReadLane (s : State) : Outcome State Fault Refusal := .next (takeCommand codeReadLane 1 s readLaneAct)

def readPlanEntryAct (s : State) (args : List Byte) : Reply :=
  let e := byteAt args 0
  if Config.houseEntry < e then refuse s .badIndex else answer s (planReport s e)

/-- READ_PLAN_ENTRY (R174). -/
def execReadPlanEntry (s : State) : Outcome State Fault Refusal :=
  .next (takeCommand codeReadPlanEntry 1 s readPlanEntryAct)

/-! ## READ NOTICES (R187) -/

/-- The three counters that READ NOTICES reports and clears (R187). -/
def clearCounts (s : State) : State :=
  { s with mgmt := { s.mgmt with badCheck := 0, dropped := 0 }, store := { s.store with directorySkips := 0 } }

def readNoticesAct (s : State) (_ : List Byte) : Reply := answer (clearCounts s) (noticesReport s)

/-- READ_NOTICES (R187). -/
def execReadNotices (s : State) : Outcome State Fault Refusal :=
  .next (takeCommand codeReadNotices 0 s readNoticesAct)

/-! ## READ DISCOVERY LOG (R190) -/

/-- Steps 2 and 4 of R190. -/
def drainLog (s : State) : State :=
  { s with
    mgmt := { s.mgmt with log := s.mgmt.log.drop 8, overflow := false }
    watchSeen := s.watchSeen.map fun _ => false }

def readDiscoveryLogAct (s : State) (_ : List Byte) : Reply := answer (drainLog s) (logReport s)

/-- READ_DISCOVERY_LOG (R190). -/
def execReadDiscoveryLog (s : State) : Outcome State Fault Refusal :=
  .next (takeCommand codeReadDiscoveryLog 0 s readDiscoveryLogAct)

end Sys2Proof.Machine
end

