-- ==== Sys2Proof/Machine/Resets.lean ====
section
/-! DEFINITION. The meanings of POWER_ON, RESET_PIN, RESET_PIN_RELEASE and RESTART (R181). -/

namespace Sys2Proof.Machine

open Sys2Proof Host

/-- POWER_ON (R181): a full reset, the unit address sampled from the pins. -/
def execPowerOn (pins : BitVec 3) (s : State) : Outcome State Fault Refusal := .next (fullReset s pins)

/-- RESET_PIN (R181): the part stands at its reset values while the pin is held; the unit address is sampled as the
reset ends (R165, log 6). -/
def execResetPin (s : State) : Outcome State Fault Refusal :=
  .next { fullReset s s.pins with resetHeld := true, mgmt := Management.fresh }

/-- RESET_PIN_RELEASE (R181): the part begins from its reset values, the unit address sampled from the pins; a pin
that is not held cannot be released. -/
def execResetPinRelease (pins : BitVec 3) (s : State) : Outcome State Fault Refusal :=
  .next (if s.resetHeld then { fullReset s pins with resetHeld := false } else s)

/-- The act of RESTART once it is taken (R181): the full reset, and then the reply, with the tag and the code kept
and the unit address sampled afresh. -/
def restartNow (s : State) (c : Command) (pins : BitVec 3) : State :=
  placeControl (fullReset s pins) (replyTo (fullReset s pins) c .done [])

/-- RESTART (R181): at the head of the input queue it waits for the control queue to empty, with *restart waiting*
set, and is then taken. -/
def execRestart (pins : BitVec 3) (s : State) : Outcome State Fault Refusal :=
  match s.mgmt.inputQueue with
  | [] => .next s
  | c :: _ =>
    if isCommand codeRestart 0 c && !s.resetHeld then
      .next (if s.store.controlQueue = [] then restartNow s c pins else noteRestart s)
    else .next s

end Sys2Proof.Machine
end

