-- ==== Sys2Proof/Machine/ServiceCommands.lean ====
section
/-! DEFINITION. The meanings of PIN_SERVICE, READ_SERVICE and LIST_SERVICES (R117, R175, R177). -/

namespace Sys2Proof.Machine

open Sys2Proof Host

/-! ## PIN SERVICE (R117) -/

/-- The carriage PIN SERVICE names: 0xFFFF is none (R196). -/
def pinArg (args : List Byte) : Option Nat := if numberAt args 4 2 = 0xFFFF then none else some (numberAt args 4 2)

/-- The carriage in use at an index belongs to the service of a key. -/
def State.belongs (s : State) (c : Nat) (key : Key) : Bool := (s.carriage c).map (·.service) = some key

/-- The checks of R117, in their order. -/
def pinRefusal (s : State) (key : Key) (pin : Option Nat) : Option Status :=
  if (s.service key).isNone then some .notFound
  else
    match pin with
    | none => none
    | some c =>
      if Config.maxCarriages ≤ c then some .badIndex
      else if !s.belongs c key then some .notFound
      else none

/-- PIN SERVICE once it is taken: the pin, the release of its hold, and the hand to the ranking engine (R117). -/
def pinTaken (s : State) (key : Key) (pin : Option Nat) : State :=
  let s1 := s.modService key fun v => { v with pinned := pin }
  (if pin.isNone then freeIfUnheld s1 key else s1).hand key

def pinServiceAct (s : State) (args : List Byte) : Reply :=
  let key := keyAt args 0
  match pinRefusal s key (pinArg args) with
  | some r => refuse s r
  | none =>
    let s1 := closeAct s (pinTaken s key (pinArg args))
    answer s1 (optField 2 (s1.selectedOf key))

/-- PIN_SERVICE (R117). -/
def execPinService (s : State) : Outcome State Fault Refusal := .next (takeCommand codePinService 6 s pinServiceAct)

/-! ## READ SERVICE (R173, R175) -/

def readServiceAct (s : State) (args : List Byte) : Reply :=
  let key := keyAt args 0
  match s.service key with
  | none => refuse s .notFound
  | some v => answer (s.modService key Service.reported) (serviceReport s v)

/-- READ_SERVICE (R175). -/
def execReadService (s : State) : Outcome State Fault Refusal :=
  .next (takeCommand codeReadService 4 s readServiceAct)

/-! ## LIST SERVICES (R177) -/

def listServicesAct (s : State) (args : List Byte) : Reply :=
  let start := numberAt args 0 2
  if Config.maxServices ≤ start then refuse s .badIndex else answer s (listReport s.services start serviceLine)

/-- LIST_SERVICES (R177). -/
def execListServices (s : State) : Outcome State Fault Refusal :=
  .next (takeCommand codeListServices 2 s listServicesAct)

end Sys2Proof.Machine
end

