-- ==== Sys2Proof/Machine/SettingCommands.lean ====
section
/-! DEFINITION. The meanings of UNKNOWN_COMMAND, SET_POLICY, SET_SURVEY and SET_OUTPUT (R83, R169 to R171). -/

namespace Sys2Proof.Machine

open Sys2Proof Host

/-- UNKNOWN_COMMAND (R169): a code the part does not know, or an argument length that differs from the one the
command requires; nothing is done. -/
def execUnknownCommand (s : State) : Outcome State Fault Refusal :=
  .next (takeIf (fun c => !isKnown c) s fun s _ => refuse s .unknown)

/-! ## SET POLICY (R170) -/

/-- The eleven settings a command gives, each taken at the nearer bound of its range; the fault clear by the fault
limit as taken (R170). -/
def policyTaken (args : List Byte) : Policy :=
  let limit := clampNat 1 255 (numberAt args 4 1)
  { windowLength := clampNat 1 32 (numberAt args 0 1)
    smoothingShift := clampNat 0 4 (numberAt args 1 1)
    failThreshold := clampNat 0 1000 (numberAt args 2 2)
    faultLimit := limit
    faultClear := clampNat 0 (limit - 1) (numberAt args 5 1)
    probationWindows := clampNat 1 15 (numberAt args 6 1)
    switchMargin := clampNat 0 500 (numberAt args 7 2)
    confirmCount := clampNat 1 15 (numberAt args 9 1)
    absenceLimit := clampNat 1 15 (numberAt args 10 1)
    stallTime := clampNat 100 5000 (numberAt args 11 2)
    changeoverTimeout := clampNat 100 10000 (numberAt args 13 2) }

/-- The settings as a result holds them, which is how a command gives them. -/
def policyBytes (p : Policy) : List Byte :=
  bytesOf 1 p.windowLength ++ bytesOf 1 p.smoothingShift ++ bytesOf 2 p.failThreshold ++ bytesOf 1 p.faultLimit
    ++ bytesOf 1 p.faultClear ++ bytesOf 1 p.probationWindows ++ bytesOf 2 p.switchMargin ++ bytesOf 1 p.confirmCount
    ++ bytesOf 1 p.absenceLimit ++ bytesOf 2 p.stallTime ++ bytesOf 2 p.changeoverTimeout

/-- A lowered stall time makes at once stalled every carriage whose silence already reaches it (R40, R170). -/
def setPolicyAct (s : State) (args : List Byte) : Reply :=
  let p := policyTaken args
  let s1 := { s with policy := p }
  { state := closeAct s (if p.stallTime < s.policy.stallTime then stallAll s1 else s1)
    status := takenStatus (decide (policyBytes p ≠ args))
    result := policyBytes p }

/-- SET_POLICY (R170). -/
def execSetPolicy (s : State) : Outcome State Fault Refusal := .next (takeCommand codeSetPolicy 15 s setPolicyAct)

/-! ## SET SURVEY (R83) -/

def surveyTaken (args : List Byte) : SurveySettings :=
  { lockTimeout := clampNat 200 10000 (numberAt args 0 2)
    settleTime := clampNat 0 2000 (numberAt args 2 2)
    dwellTime := clampNat 500 20000 (numberAt args 4 2) }

def surveyBytes (v : SurveySettings) : List Byte :=
  bytesOf 2 v.lockTimeout ++ bytesOf 2 v.settleTime ++ bytesOf 2 v.dwellTime

def setSurveyAct (s : State) (args : List Byte) : Reply :=
  let v := surveyTaken args
  { state := { s with survey := v }, status := takenStatus (decide (surveyBytes v ≠ args)), result := surveyBytes v }

/-- SET_SURVEY (R83, R171). -/
def execSetSurvey (s : State) : Outcome State Fault Refusal := .next (takeCommand codeSetSurvey 6 s setSurveyAct)

/-! ## SET OUTPUT (R171) -/

def outputTaken (args : List Byte) : OutputSettings :=
  { portCellRate := clampNat 10000 500000 (numberAt args 0 4)
    lineupId := BitVec.ofNat 16 (numberAt args 4 2)
    directoryPeriod := clampNat 100 2000 (numberAt args 6 2)
    logAll := choiceAt args 8
    mask := maskOf (byteAt args 9) }

/-- The settings as taken, in the widths of results (log 10). -/
def outputBytes (o : OutputSettings) : List Byte :=
  bytesOf 3 o.portCellRate ++ bytesOf 2 o.lineupId.toNat ++ bytesOf 2 o.directoryPeriod ++ flagField o.logAll
    ++ bytesOf 1 o.mask.bits

/-- The port cell rate and the directory period alone are clamped (R171). -/
def outputOutside (o : OutputSettings) (args : List Byte) : Bool :=
  decide (o.portCellRate ≠ numberAt args 0 4) || decide (o.directoryPeriod ≠ numberAt args 6 2)

/-- The port cell rate takes effect at the next opportunity (R157, log 18). -/
def setOutputAct (s : State) (args : List Byte) : Reply :=
  let o := outputTaken args
  { state := { s with output := o, store := { s.store with rateSet := true } }
    status := takenStatus (outputOutside o args)
    result := outputBytes o }

/-- SET_OUTPUT (R171). -/
def execSetOutput (s : State) : Outcome State Fault Refusal := .next (takeCommand codeSetOutput 10 s setOutputAct)

end Sys2Proof.Machine
end

