-- ==== Sys2Proof/Machine/SlotCommands.lean ====
section
/-! DEFINITION. The meanings of SET_SLOT, CLEAR_SLOT, EXCHANGE_SLOTS and READ_SLOT (R142 to R145, R151, R155, R176). -/

namespace Sys2Proof.Machine

open Sys2Proof Host

/-! ## SET SLOT (R142, R143) -/

/-- What SET SLOT carries, with its numbers clamped (R142, 12.4). -/
structure SlotArgs where
  slot     : Nat
  primary  : Key
  fallback : Option Key
  channel  : Nat
  baseFlow : Nat
  capacity : Capacity
  margin   : Margin
deriving DecidableEq, Repr

/-- A capacity of 0 is automatic; a number is clamped to 16..4096 (R142, R196). -/
def capacityTaken (v : Nat) : Capacity := if v = 0 then .automatic else .cells (clampNat 16 4096 v)

/-- A pressure margin of 0xFFFF is default; a number is clamped to 0..4096 (R142, R196). -/
def marginTaken (v : Nat) : Margin := if v = 0xFFFF then .standard else .cells (clampNat 0 4096 v)

def slotArgs (args : List Byte) : SlotArgs :=
  { slot := byteAt args 0
    primary := keyAt args 1
    fallback := if choiceAt args 5 then some (keyAt args 6) else none
    channel := clampNat 1 9999 (numberAt args 10 2)
    baseFlow := numberAt args 12 2
    capacity := capacityTaken (numberAt args 14 2)
    margin := marginTaken (numberAt args 16 2) }

/-- Some setting was clamped (R142). -/
def SlotArgs.outside (a : SlotArgs) (args : List Byte) : Bool :=
  decide (a.channel ≠ numberAt args 10 2) || decide (a.capacity.number ≠ numberAt args 14 2)
    || decide (a.margin.number ≠ numberAt args 16 2)

/-- The keys SET SLOT names. -/
def SlotArgs.keys (a : SlotArgs) : List Key := a.primary :: a.fallback.toList

/-- The keys a slot names; a vacant slot names none (R7). -/
def Slot.keys (x : Slot) : List Key := x.primary.toList ++ x.fallback.toList

/-- Six output flows from `base` meet those of another non-vacant slot (check 5 of R142). -/
def meetsFlows (s : State) (k base : Nat) : Bool :=
  slotOrder.any fun j => decide (j ≠ k) && !(s.slot j).isVacant
    && (match (s.slot j).baseFlow with
        | none => false
        | some b => decide (b < base + 6) && decide (base < b + 6))

/-- The slots as the command would leave them, as far as check 6 reads them (R151). -/
def slotsWith (s : State) (a : SlotArgs) : List Slot :=
  s.slots.modify a.slot fun x =>
    { x with capacity := some a.capacity, state := if x.isVacant then .dark else x.state }

/-- The keys that need a new service record. -/
def keysWanting (s : State) (a : SlotArgs) : List Key := a.keys.filter fun key => (s.service key).isNone

/-- The checks of R142, in their order. -/
def slotRefusal (s : State) (a : SlotArgs) : Option Status :=
  if Config.slotCount ≤ a.slot then some .badIndex
  else if a.fallback = some a.primary then some .badIndex
  else if 4026 < a.baseFlow then some .badIndex
  else if (s.slot a.slot).isVacant = false ∧ (s.slot a.slot).baseFlow ≠ some a.baseFlow then some .inUse
  else if meetsFlows s a.slot a.baseFlow then some .conflict
  else if !sharesAllow (slotsWith s a) then some .noRoom
  else if Config.maxServices < s.services.length + (keysWanting s a).length then some .noRoom
  else none

/-- A service record for a key that has none, as SET SLOT creates it: its name is empty (R8). -/
def ensureService (s : State) (key : Key) : State :=
  match s.service key with
  | some _ => s
  | none => (createService s key []).getD s

/-- *slot references* rise for keys newly named and fall for keys no longer named (R143); no reference is counted
twice for one slot. -/
def moveRefs (s : State) (old new : List Key) : State :=
  let s1 := (new.filter fun key => !old.contains key).foldl
    (fun s key => s.modService key fun v => { v with slotRefs := v.slotRefs + 1 }) s
  (old.filter fun key => !new.contains key).foldl
    (fun s key => s.modService key fun v => { v with slotRefs := v.slotRefs - 1 }) s1

/-- The slot record as SET SLOT writes it; a vacant slot enters DARK with the rest at the values of R126 (R143). -/
def Slot.set (x : Slot) (a : SlotArgs) : Slot :=
  { x with
    state := if x.isVacant then .dark else x.state
    primary := some a.primary, fallback := a.fallback, channel := some a.channel
    baseFlow := if x.isVacant then some a.baseFlow else x.baseFlow
    capacity := some a.capacity, margin := some a.margin }

/-- SET SLOT once it is taken (R143); the shares are recomputed as the act ends (R150). -/
def setSlotTaken (s : State) (a : SlotArgs) : State :=
  let old := (s.slot a.slot).keys
  let s1 := moveRefs (a.keys.foldl ensureService s) old a.keys
  let s2 := (old.filter fun key => !a.keys.contains key).foldl freeIfUnheld s1
  recomputeShare (reviewSlot (s2.modSlot a.slot fun x => x.set a) a.slot)

def setSlotAct (s : State) (args : List Byte) : Reply :=
  let a := slotArgs args
  match slotRefusal s a with
  | some r => refuse s r
  | none =>
    let s1 := setSlotTaken s a
    { state := s1
      status := takenStatus (a.outside args)
      result := bytesOf 1 a.slot ++ bytesOf 1 (s1.slot a.slot).state.code ++ bytesOf 2 a.channel
        ++ bytesOf 2 a.capacity.number ++ bytesOf 2 a.margin.number
        ++ optField 2 (s1.effectiveCapacity (s1.slot a.slot)) }

/-- SET_SLOT (R142, R143). -/
def execSetSlot (s : State) : Outcome State Fault Refusal := .next (takeCommand codeSetSlot 18 s setSlotAct)

/-! ## CLEAR SLOT (R144, R155) -/

/-- CLEAR SLOT on a non-vacant slot: the queue, the references and holds, the record, the shares (R144). -/
def clearSlotTaken (s : State) (k : Nat) : State :=
  let keys := (s.slot k).keys
  let s1 := (discardQueue s k).modSlot k fun _ => Slot.vacant
  recomputeShare (keys.foldl freeIfUnheld (moveRefs s1 keys []))

def clearSlotAct (s : State) (args : List Byte) : Reply :=
  let k := byteAt args 0
  if Config.slotCount ≤ k then refuse s .badIndex
  else if (s.slot k).isVacant then answer s (bytesOf 1 k ++ bytesOf 2 0)
  else answer (clearSlotTaken s k) (bytesOf 1 k ++ bytesOf 2 (s.slot k).queue.length)

/-- CLEAR_SLOT (R144). -/
def execClearSlot (s : State) : Outcome State Fault Refusal := .next (takeCommand codeClearSlot 1 s clearSlotAct)

/-! ## EXCHANGE SLOTS (R145) -/

/-- Give a slot the keys of another. -/
def Slot.withKeys (x : Slot) (p f : Option Key) : Slot := { x with primary := p, fallback := f }

/-- EXCHANGE SLOTS on two slots (R145). -/
def exchangeTaken (s : State) (a b : Nat) : State :=
  let x := s.slot a
  let y := s.slot b
  let s1 := (s.modSlot a fun z => z.withKeys y.primary y.fallback).modSlot b fun z => z.withKeys x.primary x.fallback
  reviewSlot (reviewSlot s1 a) b

def exchangeSlotsAct (s : State) (args : List Byte) : Reply :=
  let a := byteAt args 0
  let b := byteAt args 1
  if Config.slotCount ≤ a ∨ Config.slotCount ≤ b then refuse s .badIndex
  else if (s.slot a).isVacant || (s.slot b).isVacant then refuse s .notFound
  else if a = b then answer s (bytesOf 1 a ++ bytesOf 1 (s.slot a).state.code)
  else
    let s1 := exchangeTaken s a b
    answer s1 (bytesOf 1 a ++ bytesOf 1 (s1.slot a).state.code ++ bytesOf 1 b ++ bytesOf 1 (s1.slot b).state.code)

/-- EXCHANGE_SLOTS (R145). -/
def execExchangeSlots (s : State) : Outcome State Fault Refusal :=
  .next (takeCommand codeExchangeSlots 2 s exchangeSlotsAct)

/-! ## READ SLOT (R173, R176) -/

def readSlotAct (s : State) (args : List Byte) : Reply :=
  let k := byteAt args 0
  if Config.slotCount ≤ k then refuse s .badIndex
  else answer (s.modSlot k Slot.reported) (slotReport s (s.slot k))

/-- READ_SLOT (R176). -/
def execReadSlot (s : State) : Outcome State Fault Refusal := .next (takeCommand codeReadSlot 1 s readSlotAct)

end Sys2Proof.Machine
end

