-- ==== Sys2Proof/Machine/Dispatch.lean ====
section
/-! DEFINITION. One arm for each row of spec/opcode_table.json. -/

namespace Sys2Proof.Machine

open Sys2Proof

def exec (i : Instr) (s : State) : Host.Outcome State Fault Refusal :=
  match i with
  | .powerOn pins => Sys2Proof.Machine.execPowerOn pins s
  | .resetPin => Sys2Proof.Machine.execResetPin s
  | .cellArrival lane cell => Sys2Proof.Machine.execCellArrival lane cell s
  | .orderCellSend lane => Sys2Proof.Machine.execOrderCellSend lane s
  | .lockTimeout lane => Sys2Proof.Machine.execLockTimeout lane s
  | .silenceExpiry lane => Sys2Proof.Machine.execSilenceExpiry lane s
  | .stallExpiry carriage => Sys2Proof.Machine.execStallExpiry carriage s
  | .windowEnd lane => Sys2Proof.Machine.execWindowEnd lane s
  | .visitLockTimeout lane => Sys2Proof.Machine.execVisitLockTimeout lane s
  | .settleExpiry lane => Sys2Proof.Machine.execSettleExpiry lane s
  | .dwellEnd lane => Sys2Proof.Machine.execDwellEnd lane s
  | .changeoverTimeout slot => Sys2Proof.Machine.execChangeoverTimeout slot s
  | .splicingTimeout slot => Sys2Proof.Machine.execSplicingTimeout slot s
  | .directoryPeriodExpiry => Sys2Proof.Machine.execDirectoryPeriodExpiry s
  | .cellOpportunity => Sys2Proof.Machine.execCellOpportunity s
  | .noticePlaced => Sys2Proof.Machine.execNoticePlaced s
  | .unknownCommand => Sys2Proof.Machine.execUnknownCommand s
  | .restart pins => Sys2Proof.Machine.execRestart pins s
  | .setPolicy => Sys2Proof.Machine.execSetPolicy s
  | .setSurvey => Sys2Proof.Machine.execSetSurvey s
  | .setOutput => Sys2Proof.Machine.execSetOutput s
  | .setPlanEntry => Sys2Proof.Machine.execSetPlanEntry s
  | .clearPlanEntry => Sys2Proof.Machine.execClearPlanEntry s
  | .parkLane => Sys2Proof.Machine.execParkLane s
  | .roveLane => Sys2Proof.Machine.execRoveLane s
  | .releaseLane => Sys2Proof.Machine.execReleaseLane s
  | .setLane => Sys2Proof.Machine.execSetLane s
  | .setSlot => Sys2Proof.Machine.execSetSlot s
  | .clearSlot => Sys2Proof.Machine.execClearSlot s
  | .exchangeSlots => Sys2Proof.Machine.execExchangeSlots s
  | .pinService => Sys2Proof.Machine.execPinService s
  | .setWatch => Sys2Proof.Machine.execSetWatch s
  | .promptSurvey => Sys2Proof.Machine.execPromptSurvey s
  | .readLane => Sys2Proof.Machine.execReadLane s
  | .readPlanEntry => Sys2Proof.Machine.execReadPlanEntry s
  | .readService => Sys2Proof.Machine.execReadService s
  | .readCarriage => Sys2Proof.Machine.execReadCarriage s
  | .readSlot => Sys2Proof.Machine.execReadSlot s
  | .flushCarriage => Sys2Proof.Machine.execFlushCarriage s
  | .forgetCarriage => Sys2Proof.Machine.execForgetCarriage s
  | .readNotices => Sys2Proof.Machine.execReadNotices s
  | .readDiscoveryLog => Sys2Proof.Machine.execReadDiscoveryLog s
  | .listServices => Sys2Proof.Machine.execListServices s
  | .listCarriages => Sys2Proof.Machine.execListCarriages s
  | .resetPinRelease pins => Sys2Proof.Machine.execResetPinRelease pins s

end Sys2Proof.Machine
end

