-- ==== Sys2Proof/Machine/Idle.lean ====
section
/-! DEFINITION. What the part does with no step waiting: the steps whose time has come, and the tick of the station
clock (R47, R157, R167, R186; log 1). -/

namespace Sys2Proof.Machine

open Sys2Proof

/-- A step, when it is due. -/
def dueIf (b : Bool) (i : Instr) : List Instr := if b then [i] else []

/-- The timer events of one lane that are due. -/
def State.laneDue (s : State) (l : Nat) : List Instr :=
  dueIf (s.lockDue l) (.lockTimeout l) ++ dueIf (s.silenceDue l) (.silenceExpiry l)
    ++ dueIf (s.windowDue l) (.windowEnd l) ++ dueIf (s.visitDue l .tuning) (.visitLockTimeout l)
    ++ dueIf (s.visitDue l .settling) (.settleExpiry l) ++ dueIf (s.visitDue l .dwelling) (.dwellEnd l)

/-- The timer event of one slot that is due. -/
def State.slotSteps (s : State) (k : Nat) : List Instr :=
  dueIf (s.slotDue k .armed) (.changeoverTimeout k) ++ dueIf (s.slotDue k .splicing) (.splicingTimeout k)

/-- The head of the command input queue, when it can be taken, or is RESTART and the control queue is empty or has
not yet been found to hold a cell (R167, R181). -/
def State.commandDue (s : State) : List Instr :=
  match s.mgmt.inputQueue with
  | [] => []
  | c :: _ =>
    if isCommand codeRestart 0 c then
      dueIf (s.store.controlQueue.isEmpty || !s.mgmt.restartWaiting) (rowOf s.pins c)
    else dueIf s.canTake (rowOf s.pins c)

/-- Every step of the part's own whose time has come. -/
def State.dueSteps (s : State) : List Instr :=
  (List.range (Config.houseLane + 1)).flatMap s.laneDue
    ++ (s.carriages.filter fun x => s.stallDue x.2).map (fun x => .stallExpiry x.1)
    ++ slotOrder.flatMap s.slotSteps
    ++ dueIf s.directoryDue .directoryPeriodExpiry
    ++ dueIf (opportunityDue s) .cellOpportunity
    ++ dueIf s.noticeReady .noticePlaced
    ++ s.commandDue

/-- Put a step among steps in rising order of their free keys. -/
def insertDue (key : Nat → Nat) (a : Instr × Nat) : List (Instr × Nat) → List (Instr × Nat)
  | [] => [a]
  | b :: rest => if key a.2 ≤ key b.2 then a :: b :: rest else b :: insertDue key a rest

/-- Steps that come due together, in an order that is free: "either may be first" (R182, log 1). -/
def orderDue (n : Nat) (steps : List Instr) : List Instr :=
  ((steps.zipIdx.foldr (insertDue (Config.coincidenceKey n)) []).map Prod.fst)

/-- With no step waiting: the steps whose time has come join the queue, or one microsecond passes (R47). While the
reset pin is held the part stands still (R181). -/
def idle (s : State) : State :=
  if s.resetHeld then s
  else
    match s.dueSteps with
    | [] => { s with clock := s.clock + 1 }
    | due => { s with pending := s.pending ++ orderDue s.freeCount due, freeCount := s.freeCount + 1 }

end Sys2Proof.Machine
end

