-- ==== Sys2Proof/WellFormed.lean ====
section
/-! DEFINITION. Which commands name something the part has. -/

namespace Sys2Proof

/-- A lane link of the part: feed lanes 0..15 and the house lane 16 (00_scope.md, Connections). -/
abbrev laneExists (lane : Nat) : Prop := lane ≤ Config.houseLane

/-- A carriage index 0..1023 (R11). -/
abbrev carriageExists (c : Nat) : Prop := c < Config.maxCarriages

/-- A slot 0..127 (R126). -/
abbrev slotExists (k : Nat) : Prop := k < Config.slotCount

/-- A command is well formed when every lane, carriage and slot it names is one the part has and every cell it
carries is 160 bytes (12.1). -/
def Instr.WellFormed : Instr → Bool
  | .cellArrival lane cell => decide (laneExists lane) && decide (cell.length = Config.cellBytes)
  | .orderCellSend lane => decide (laneExists lane)
  | .lockTimeout lane => decide (laneExists lane)
  | .silenceExpiry lane => decide (laneExists lane)
  | .stallExpiry c => decide (carriageExists c)
  | .windowEnd lane => decide (laneExists lane)
  | .visitLockTimeout lane => decide (laneExists lane)
  | .settleExpiry lane => decide (laneExists lane)
  | .dwellEnd lane => decide (laneExists lane)
  | .changeoverTimeout k => decide (slotExists k)
  | .splicingTimeout k => decide (slotExists k)
  | .powerOn _ => true
  | .resetPin => true
  | .directoryPeriodExpiry => true
  | .cellOpportunity => true
  | .noticePlaced => true
  | .unknownCommand => true
  | .restart _ => true
  | .setPolicy => true
  | .setSurvey => true
  | .setOutput => true
  | .setPlanEntry => true
  | .clearPlanEntry => true
  | .parkLane => true
  | .roveLane => true
  | .releaseLane => true
  | .setLane => true
  | .setSlot => true
  | .clearSlot => true
  | .exchangeSlots => true
  | .pinService => true
  | .setWatch => true
  | .promptSurvey => true
  | .readLane => true
  | .readPlanEntry => true
  | .readService => true
  | .readCarriage => true
  | .readSlot => true
  | .flushCarriage => true
  | .forgetCarriage => true
  | .readNotices => true
  | .readDiscoveryLog => true
  | .listServices => true
  | .listCarriages => true
  | .resetPinRelease _ => true

end Sys2Proof
end

