-- ==== Sys2Proof/Safety.lean ====
section
/-! DEFINITION. The terms the statements use: which parts of the state a step may touch, what a taken command leaves,
and the laws the manual gives for the part's tables and queues. -/

namespace Sys2Proof.Machine

open Sys2Proof

/-! ## Frames -/

/-- The parts of the state, for saying what a step leaves alone. -/
inductive Part where
  | clock
  | pins
  | resetHeld
  | entries
  | survey
  | lanes
  | services
  | carriages
  | bindings
  | watch
  | watchSeen
  | settings
  | output
  | slots
  | buffers
  | share
  | controlQueue
  | directory
  | skips
  | port
  | rateSet
  | unitAddress
  | inputQueue
  | restartWaiting
  | counts
  | owed
  | log
  | handed
  | freeCount
  | pending
deriving DecidableEq, Repr

/-- Two states have one part alike. -/
def Part.alike (s t : State) : Part → Prop
  | .clock => t.clock = s.clock
  | .pins => t.pins = s.pins
  | .resetHeld => t.resetHeld = s.resetHeld
  | .entries => t.entries = s.entries
  | .survey => t.surveyPointer = s.surveyPointer ∧ t.promptSet = s.promptSet
  | .lanes => t.lanes = s.lanes
  | .services => t.services = s.services
  | .carriages => t.carriages = s.carriages
  | .bindings => t.bindings = s.bindings
  | .watch => t.watch = s.watch
  | .watchSeen => t.watchSeen = s.watchSeen
  | .settings => t.policy = s.policy ∧ t.survey = s.survey
  | .output => t.output = s.output
  | .slots => t.slots = s.slots
  | .buffers => t.store.freeBuffers = s.store.freeBuffers
  | .share => t.store.automaticShare = s.store.automaticShare
  | .controlQueue => t.store.controlQueue = s.store.controlQueue
  | .directory =>
    t.store.directoryQueue = s.store.directoryQueue ∧ t.store.lineupVersion = s.store.lineupVersion ∧
    t.store.lastContent = s.store.lastContent ∧ t.store.directoryTimer = s.store.directoryTimer
  | .skips => t.store.directorySkips = s.store.directorySkips
  | .port =>
    t.store.spacingCount = s.store.spacingCount ∧ t.store.pressuredPtr = s.store.pressuredPtr ∧
    t.store.servicePtr = s.store.servicePtr ∧ t.store.managementRun = s.store.managementRun ∧
    t.store.managementBegun = s.store.managementBegun ∧ t.store.directoryRun = s.store.directoryRun ∧
    t.store.directoryBegun = s.store.directoryBegun ∧ t.store.oppOrigin = s.store.oppOrigin ∧
    t.store.oppIndex = s.store.oppIndex ∧ t.store.oppRate = s.store.oppRate ∧
    t.store.portOut = s.store.portOut
  | .rateSet => t.store.rateSet = s.store.rateSet
  | .unitAddress => t.mgmt.unitAddress = s.mgmt.unitAddress
  | .inputQueue => t.mgmt.inputQueue = s.mgmt.inputQueue
  | .restartWaiting => t.mgmt.restartWaiting = s.mgmt.restartWaiting
  | .counts => t.mgmt.badCheck = s.mgmt.badCheck ∧ t.mgmt.dropped = s.mgmt.dropped
  | .owed => t.mgmt.owed = s.mgmt.owed
  | .log => t.mgmt.log = s.mgmt.log ∧ t.mgmt.overflow = s.mgmt.overflow
  | .handed => t.handed = s.handed
  | .freeCount => t.freeCount = s.freeCount
  | .pending => t.pending = s.pending

/-- Nothing differs between two states outside the parts listed. -/
def Within (ps : List Part) (s t : State) : Prop := ∀ p, p ∉ ps → p.alike s t

/-- What the end of an act may touch: evaluations, the selection changes they deliver, and the owed notice
(R111, R123, R185). -/
def evalParts : List Part := [.services, .slots, .owed]

/-- What binding, shelving and claims may touch (R15, R16, R20, R69, R80). -/
def visitParts : List Part := [.entries, .survey, .lanes, .carriages, .bindings]

/-- What every command that is taken touches: its place in the input queue, its reply, *restart waiting* when RESTART
is the next command, and the owed notice (R167, R168, R181, R185). -/
def commandParts : List Part := [.inputQueue, .restartWaiting, .owed, .controlQueue]

/-- What a full reset leaves as it was: the queue of waiting steps and the count of free values, which are no part of
the hardware (log 31). -/
def resetParts : List Part :=
  [.clock, .pins, .resetHeld, .entries, .survey, .lanes, .services, .carriages, .bindings, .watch, .watchSeen,
   .settings, .output, .slots, .buffers, .share, .controlQueue, .directory, .skips, .port, .rateSet, .unitAddress,
   .inputQueue, .restartWaiting, .counts, .owed, .log]

/-- The parts each step may touch. -/
def partsOf : Instr → List Part
  | .powerOn _ => resetParts
  | .resetPin => resetParts
  | .cellArrival _ _ =>
    visitParts ++ evalParts ++ [.watchSeen, .buffers, .inputQueue, .restartWaiting, .counts, .log]
  | .orderCellSend _ => [.lanes, .freeCount]
  | .lockTimeout _ => [.lanes, .owed]
  | .silenceExpiry _ => visitParts ++ evalParts
  | .stallExpiry _ => .carriages :: evalParts
  | .windowEnd _ => [.lanes, .carriages, .bindings] ++ evalParts
  | .visitLockTimeout _ => visitParts ++ evalParts
  | .settleExpiry _ => [.lanes, .owed]
  | .dwellEnd _ => visitParts ++ evalParts
  | .changeoverTimeout _ => [.slots, .owed]
  | .splicingTimeout _ => [.slots, .owed]
  | .directoryPeriodExpiry => [.directory, .skips, .owed]
  | .cellOpportunity => [.slots, .buffers, .controlQueue, .directory, .port, .rateSet, .owed]
  | .noticePlaced => [.controlQueue, .owed]
  | .unknownCommand => commandParts
  | .restart _ => resetParts
  | .setPolicy => [.settings, .carriages] ++ evalParts ++ commandParts
  | .setSurvey => .settings :: commandParts
  | .setOutput => [.output, .rateSet] ++ commandParts
  | .setPlanEntry => [.entries, .survey, .lanes] ++ commandParts
  | .clearPlanEntry => .log :: visitParts ++ evalParts ++ commandParts
  | .parkLane => visitParts ++ evalParts ++ commandParts
  | .roveLane => visitParts ++ evalParts ++ commandParts
  | .releaseLane => visitParts ++ evalParts ++ commandParts
  | .setLane => visitParts ++ evalParts ++ commandParts
  | .setSlot => [.services, .slots, .share] ++ commandParts
  | .clearSlot => [.services, .slots, .share, .buffers] ++ commandParts
  | .exchangeSlots => .slots :: commandParts
  | .pinService => [.services, .slots] ++ commandParts
  | .setWatch => [.watch, .watchSeen, .services] ++ commandParts
  | .promptSurvey => .survey :: commandParts
  | .readLane => .lanes :: commandParts
  | .readPlanEntry => commandParts
  | .readService => .services :: commandParts
  | .readCarriage => .carriages :: commandParts
  | .readSlot => .slots :: commandParts
  | .flushCarriage => .carriages :: commandParts
  | .forgetCarriage => [.carriages, .bindings, .services, .slots] ++ commandParts
  | .readNotices => [.counts, .skips] ++ commandParts
  | .readDiscoveryLog => [.log, .watchSeen] ++ commandParts
  | .listServices => commandParts
  | .listCarriages => commandParts
  | .resetPinRelease _ => resetParts

/-! ## Commands -/

/-- Command `c` stands at the head of the command input queue with `rest` behind it, carries this code and these
arguments, and can be taken (R167): the reset pin is released, no RESTART waits, and the control queue has a free
place. -/
def Offers (s : State) (code : Nat) (args : List Byte) (c : Command) (rest : List Command) : Prop :=
  s.mgmt.inputQueue = c :: rest ∧ c.code.toNat = code ∧ c.args = args ∧ s.resetHeld = false ∧
    s.mgmt.restartWaiting = false ∧ s.store.controlQueue.length < Config.controlPlaces

/-- What taking a command leaves around the effect `t` it had of its own on state `s` (R167, R168, R181, R185): the
command has left the input queue, the owed notice follows the due set, the one reply stands at the tail of the control
queue with the part's unit address and the command's tag and code, and *restart waiting* is set when RESTART has come
to the head. -/
def concluded (s t : State) (c : Command) (rest : List Command) (status : Status) (result : List Byte) : State :=
  { t with
    store := { t.store with
      controlQueue := t.store.controlQueue ++
        [{ address := BitVec.ofNat 8 t.mgmt.unitAddress, tag := c.tag, code := c.code, status := status,
           result := result }] }
    mgmt := { t.mgmt with
      inputQueue := rest
      owed := owedAfter s.dueSet t.dueSet t.mgmt.owed
      restartWaiting := t.mgmt.restartWaiting || (rest.head?.map (isCommand codeRestart 0)).getD false } }

/-- A refusal: the reply alone, with an empty result (R168, R169). -/
def refusedWith (s : State) (c : Command) (rest : List Command) (status : Status) : State :=
  concluded s s c rest status []

/-- An event whose own effect is `t`: the owed notice follows the due set (R185). -/
def settledEvent (s t : State) : State :=
  { t with mgmt := { t.mgmt with owed := owedAfter s.dueSet t.dueSet t.mgmt.owed } }

/-! ## Laws of the tables and queues -/

/-- The numbers of records the part has (00_scope.md, Capacities). -/
def State.Shaped (s : State) : Prop :=
  s.entries.length = 64 ∧ s.lanes.length = 17 ∧ s.slots.length = 128 ∧ s.watch.length = 32 ∧ s.watchSeen.length = 32
    ∧ ∀ x ∈ s.slots, x.flows.length = 6

/-- Nothing waits for the ranking engine between steps: every act closes with its evaluations (R111, log 25). -/
def State.Settled (s : State) : Prop := s.handed = []

/-- The law of R98 for one carriage. -/
def Carriage.InRange (x : Carriage) : Prop :=
  (∀ f, x.merit = some f → f ≤ 1000) ∧ x.faultScore ≤ 255 ∧ x.peakFault ≤ 255 ∧ x.faultScore ≤ x.peakFault

/-- The law of R98. -/
def State.FiguresInRange (s : State) : Prop := ∀ x ∈ s.carriages, x.2.InRange

/-- The control queue, the command input queue and the discovery log hold no more than their places (R148, R156,
R165, R188). -/
def State.QueuesBounded (s : State) : Prop :=
  s.store.controlQueue.length ≤ 64 ∧ s.mgmt.inputQueue.length ≤ 16 ∧ s.mgmt.log.length ≤ 32

/-- Every buffer is free or holds one queued cell (R148). -/
def State.BuffersAccounted (s : State) : Prop :=
  s.store.freeBuffers + (s.slots.map fun x => x.queue.length).sum = 8192

/-- The law of R128 for one slot, with the changeover timer's column of its table. -/
def Slot.Lawful (x : Slot) : Prop :=
  match x.state with
  | .vacant | .dark => x.onAir = none ∧ x.target = none ∧ x.timer = none
  | .armed | .splicing => x.target.isSome
  | .steady => x.onAir.isSome ∧ x.target = none ∧ x.timer = none

/-- The law of R128. -/
def State.SlotsLawful (s : State) : Prop := ∀ x ∈ s.slots, x.Lawful

/-- The Service and Carriage Tables hold each index, each key and each pair of entry and service once, and every
carriage's service has a record (R7, R9, R11). -/
def State.CatalogueOrdered (s : State) : Prop :=
  s.services.Pairwise (fun a b => a.1 < b.1) ∧ s.carriages.Pairwise (fun a b => a.1 < b.1) ∧
    (s.services.map fun x => x.2.key).Nodup ∧ (s.carriages.map fun x => (x.2.entry, x.2.service)).Nodup ∧
    (∀ x ∈ s.services, x.1 < 512) ∧ (∀ x ∈ s.carriages, x.1 < 1024) ∧
    ∀ x ∈ s.carriages, (s.service x.2.service).isSome

/-- The number of components whose binding reference names a binding (R14). -/
def State.referencesTo (s : State) (name : BindingName) : Nat :=
  (s.carriages.map fun x => x.2.components.countP fun d => d.binding = some name).sum

/-- R18 for one carriage: its components' binding references, by its state. -/
def Carriage.BindingsLawful (s : State) (x : Carriage) : Prop :=
  (x.components.map (·.flow)).Nodup ∧
    if x.state.holdsBindings then
      ∃ l, x.lane = some l ∧
        ∀ d ∈ x.components, d.binding = some { lane := l, flow := d.flow } ∧ (s.binding l d.flow).isSome
    else ∀ d ∈ x.components, d.binding = none

/-- The laws of R14 and R18: the Binding Table and the carriages agree. -/
def State.BindingsLawful (s : State) : Prop :=
  s.CatalogueOrdered ∧ s.bindings.Pairwise (fun a b => a.name.before b.name = true) ∧ s.bindings.length ≤ 2048 ∧
    (∀ b ∈ s.bindings, b.refCount = s.referencesTo b.name ∧ 1 ≤ b.refCount ∧ b.refCount ≤ 4) ∧
    ∀ x ∈ s.carriages, x.2.BindingsLawful s

/-- Carriage index `c` is in use for a carriage of the service of a key that satisfies `p`. -/
def State.HasCarriage (s : State) (key : Key) (c : Nat) (p : Carriage → Prop) : Prop :=
  ∃ x, s.carriage c = some x ∧ x.service = key ∧ p x

/-- The laws of R7, R108 and R113 for one service record. -/
def Service.Lawful (s : State) (v : Service) : Prop :=
  v.rankedList.length ≤ 8 ∧ v.rankedList.Nodup ∧
    (∀ c ∈ v.rankedList, s.HasCarriage v.key c fun x => x.state.holdsBindings = true) ∧
    (∀ c, v.selected = some c →
      s.HasCarriage v.key c fun x => x.state = .usable ∧ x.laneDown = false ∧ x.stalled = false) ∧
    (∀ c, v.candidate = some c → s.HasCarriage v.key c fun _ => True) ∧
    (v.candidate = none → v.confirmCount = 0) ∧
    (∀ c, v.pinned = some c → s.HasCarriage v.key c fun _ => True) ∧
    (∀ c, v.bestProspect = some c →
      s.HasCarriage v.key c fun x => x.state = .shelved ∧ x.surveyFigure.isSome = true) ∧
    v.selectableCount = s.carriages.countP fun x => x.2.service = v.key && x.2.selectable

/-- The laws of R7, R108 and R113: between steps, every service record agrees with the carriages. -/
def State.RankingLawful (s : State) : Prop :=
  s.Settled ∧ s.CatalogueOrdered ∧ ∀ x ∈ s.services, x.2.Lawful s

/-- R18's last paragraph for one carriage: its lane is its entry's parked lane or visiting lane, by its state. -/
def Carriage.Placed (s : State) (x : Carriage) : Prop :=
  x.entry < 64 ∧
    match x.state with
    | .shelved => x.lane = none
    | .survey => x.lane.isSome ∧ (s.entry x.entry).visitingLane = x.lane
    | .incomplete =>
      x.lane.isSome ∧ ((s.entry x.entry).parkedLane = x.lane ∨ (s.entry x.entry).visitingLane = x.lane)
    | .probation | .usable | .faulted => x.lane.isSome ∧ (s.entry x.entry).parkedLane = x.lane

/-- What a lane record says of itself by its mode (R25, R66), and that a paused lane waits for no tag (R71, R80). -/
def Lane.ModeLawful (n : Lane) : Prop :=
  (n.mode = .parked → ∃ e, n.entry = some e ∧ e < 64) ∧ (n.mode ≠ .parked → n.entry = none) ∧
    (n.mode = .roving ↔ n.rover.isSome) ∧ (∀ e, n.visiting = some e → e < 63) ∧
    ∀ r, n.rover = some r → (r.visitState = .paused ↔ r.claimedEntry = none) ∧
      (r.visitState = .paused → n.currentTag = none ∧ n.acknowledged = false)

/-- The laws of R2, R5, R18, R66 and R68: who holds which entry. -/
def State.TenancyLawful (s : State) : Prop :=
  s.Shaped ∧ (∀ l < 17, (s.lane l).ModeLawful) ∧
    (∀ e < 64, ∀ l, (s.entry e).parkedLane = some l ↔ l < 17 ∧ (s.lane l).entry = some e) ∧
    (∀ e < 64, ∀ l, (s.entry e).visitingLane = some l ↔ l < 16 ∧ (s.lane l).visiting = some e) ∧
    (∀ e < 64, (s.entry e).parkedLane = none ∨ (s.entry e).visitingLane = none) ∧
    (s.entry 63).parkedLane = some 16 ∧ (s.lane 16).rover = none ∧
    s.surveyPointer ≤ 62 ∧ s.promptSet.Pairwise (· < ·) ∧ (∀ e ∈ s.promptSet, s.eligible e = true) ∧ ∀ x ∈ s.carriages, x.2.Placed s

/-- The laws of R7, R126 and R142: the slots' keys and flows, and the counts of the references to keys. -/
def State.LineupLawful (s : State) : Prop :=
  s.Shaped ∧ s.CatalogueOrdered ∧
    (∀ x ∈ s.slots, x.state = .vacant → x = Slot.vacant) ∧
    (∀ x ∈ s.slots, x.state ≠ .vacant →
      x.primary.isSome ∧ x.fallback ≠ x.primary ∧ ∃ b, x.baseFlow = some b ∧ b ≤ 4026) ∧
    (∀ x ∈ s.slots, ∀ key ∈ x.keys, (s.service key).isSome) ∧
    (∀ x ∈ s.services, x.2.slotRefs = s.slots.countP fun k => k.keys.contains x.2.key) ∧
    ∀ i < 128, ∀ j < 128, i ≠ j → ∀ a b, (s.slot i).baseFlow = some a → (s.slot j).baseFlow = some b →
      a + 6 ≤ b ∨ b + 6 ≤ a

/-- Every setting lies in its range (00_scope.md, Settings and their defaults). -/
def State.SettingsInRange (s : State) : Prop :=
  (1 ≤ s.policy.windowLength ∧ s.policy.windowLength ≤ 32) ∧ s.policy.smoothingShift ≤ 4 ∧
    s.policy.failThreshold ≤ 1000 ∧ (1 ≤ s.policy.faultLimit ∧ s.policy.faultLimit ≤ 255) ∧
    s.policy.faultClear < s.policy.faultLimit ∧
    (1 ≤ s.policy.probationWindows ∧ s.policy.probationWindows ≤ 15) ∧ s.policy.switchMargin ≤ 500 ∧
    (1 ≤ s.policy.confirmCount ∧ s.policy.confirmCount ≤ 15) ∧
    (1 ≤ s.policy.absenceLimit ∧ s.policy.absenceLimit ≤ 15) ∧
    (100 ≤ s.policy.stallTime ∧ s.policy.stallTime ≤ 5000) ∧
    (100 ≤ s.policy.changeoverTimeout ∧ s.policy.changeoverTimeout ≤ 10000) ∧
    (200 ≤ s.survey.lockTimeout ∧ s.survey.lockTimeout ≤ 10000) ∧ s.survey.settleTime ≤ 2000 ∧
    (500 ≤ s.survey.dwellTime ∧ s.survey.dwellTime ≤ 20000) ∧
    (10000 ≤ s.output.portCellRate ∧ s.output.portCellRate ≤ 500000) ∧
    (100 ≤ s.output.directoryPeriod ∧ s.output.directoryPeriod ≤ 2000) ∧
    (∀ n ∈ s.lanes, 10 ≤ n.statusInterval ∧ n.statusInterval ≤ 1000) ∧
    ∀ p ∈ s.entries, -100 ≤ p.bias ∧ p.bias ≤ 100

/-! ## Records that several commands leave -/

/-- A lane record with everything cleared that each of PARK LANE, ROVE LANE and RELEASE LANE clears (R26), its
directory assembler included (R48, R52), and with last rejection cause `cause`. -/
def Lane.wiped (n : Lane) (firstPending : Bool) (cause : Option RejectCause) : Lane :=
  { n with
    acknowledged := false, latestMargin := none, latestLevel := none, lastStatusTime := none, windowMargin := none,
    windowStatusCount := 0, uncorrectedSeen := false, headerErrorSeen := false, faultScore := 0, degraded := false,
    laneFlag := false,
    flagCauses := { unlocked := false, silent := false, degraded := false, recovered := false, restart := false },
    counters := { received := 0, headerError := 0, void := 0, unexpected := 0, unbound := 0, idle := 0,
                  duplicate := 0, status := 0, stale := 0, uncorrected := 0, resends := 0 },
    asm := { capturing := false, cellsHeld := 0, bytesHeld := 0, declaredLength := none, nextRun := none,
             held := [], firstPending := firstPending, lastRejection := cause, accepted := 0,
             repeats := 0, broken := 0, rejected := 0, stray := 0, unlocked := 0 } }

/-- The tag an order leaves for the next one (R33). -/
def tagAfter (tag : Nat) : Nat := if tag < 255 then tag + 1 else 1

/-- A carriage as shelving leaves it (R20). -/
def Carriage.shelvedFrom (x : Carriage) : Carriage :=
  if x.state = .shelved then x
  else
    { x with
      components := x.components.map fun d => { d with binding := none }
      state := .shelved, lane := none, laneDown := false, stalled := false, probation := 0, wholeWindow := none }

/-- A carriage shelved when lane record `n` parks on its entry or visits it. -/
def Carriage.leftBy (x : Carriage) (n : Lane) : Carriage :=
  if n.entry = some x.entry ∨ n.visiting = some x.entry then x.shelvedFrom else x

/-- A bind attempt on a lane succeeds (R15): every flow is new on the lane or has a binding that fewer than four
components use, and the new ones fit the 2048 records of the Binding Table. -/
def State.Bindable (s : State) (l : Nat) (flows : List Nat) : Prop :=
  (∀ f ∈ flows, ∀ b, s.binding l f = some b → b.refCount < 4) ∧
    (flows.filter fun f => (s.binding l f).isNone).length + s.bindings.length ≤ 2048

/-- What a bind attempt made in state `s` on lane `l` makes of carriage `x` (R12, R15, R19, R21, R77). The whole-window
mark is `mark` on a lane that is not roving and absent on a roving one (R84). -/
def State.AttemptLeaves (s : State) (l : Nat) (mark : Bool) (x y : Carriage) : Prop :=
  let flows := x.components.map (·.flow)
  let down := decide ((s.lane l).mode = .parked ∧ (s.lane l).parkedState ≠ some .locked)
  (s.Bindable l flows → y =
    { x with
      components := x.components.map fun d => { d with binding := some { lane := l, flow := d.flow } }
      state := if (s.lane l).mode = .roving then .survey else .probation
      lane := some l, laneDown := down, stalled := false, probation := 0
      wholeWindow := if (s.lane l).mode = .roving then none else some mark
      boundTime := s.clock, heard := false }) ∧
  (¬ s.Bindable l flows → y =
    { x with
      components := x.components.map fun d => { d with binding := none }
      state := .incomplete, lane := some l, laneDown := down, stalled := false, probation := 0, wholeWindow := none })

/-- A step from `s` to `t` ends the visit of roving lane `l`, which then makes its next claim (R69, R80): of the lowest
prompted entry, or else of the first entry from the one after the survey pointer that is free or that the lane itself
visited; with no such entry it pauses. -/
def State.ClaimsNext (s t : State) (l : Nat) : Prop :=
  let n := s.lane l
  let m := t.lane l
  let free := fun (e : Nat) => e < 63 ∧ (s.entry e).surveyEnable = true ∧ (s.entry e).tuningWord ≠ none ∧
    (s.entry e).parkedLane = none ∧ ((s.entry e).visitingLane = none ∨ (s.entry e).visitingLane = some l)
  let chosen := fun (e : Nat) => s.promptSet.head? = some e ∨ s.promptSet = [] ∧ free e ∧
    ∀ d, free d → (e + 62 - s.surveyPointer) % 63 ≤ (d + 62 - s.surveyPointer) % 63
  (∀ e, chosen e → (t.entry e).visitingLane = some l ∧ e ∉ t.promptSet ∧
    m.pendingOrder = some { kind := .tune, tag := n.tagCounter, word := (s.entry e).tuningWord.getD 0 } ∧
    m.tagCounter = tagAfter n.tagCounter ∧ m.currentTag = some n.tagCounter ∧ m.acknowledged = false ∧
    ∃ r, m.rover = some r ∧ r.visitState = .tuning ∧ r.claimedEntry = some e ∧ r.visitTag = some n.tagCounter ∧
      r.visitTimer = some { start := s.clock, span := 1000 * s.survey.lockTimeout } ∧
      ∀ rv, n.rover = some rv → r.visits = min (rv.visits + 1) 4294967295) ∧
  ((∀ e, ¬ free e) → m.pendingOrder = n.pendingOrder ∧ m.tagCounter = n.tagCounter ∧ m.currentTag = none ∧
    m.acknowledged = false ∧
    ∃ r, m.rover = some r ∧ r.visitState = .paused ∧ r.claimedEntry = none ∧ r.visitTag = none ∧
      r.visitTimer = none ∧ ∀ rv, n.rover = some rv → r.visits = rv.visits)

/-- The place of the first byte of service entry `i` of a directory message: the header fills eight bytes, and an entry
with a name of n characters and c components fills 9 + n + 2c (12.3). -/
def entryStart (msg : List Byte) : Nat → Nat
  | 0 => 8
  | i + 1 =>
    let a := entryStart msg i
    a + 9 + byteAt msg (a + 6) + 2 * byteAt msg (a + 7 + byteAt msg (a + 6))

/-- The figures of a carriage that parking and shelving keep (R19, R20). -/
def Carriage.SameFigures (x y : Carriage) : Prop :=
  y.entry = x.entry ∧ y.service = x.service ∧ y.timing = x.timing ∧ y.merit = x.merit ∧
    y.faultScore = x.faultScore ∧ y.peakFault = x.peakFault ∧ y.missing = x.missing ∧
    y.lastWindow = x.lastWindow ∧ y.surveyFigure = x.surveyFigure ∧ y.surveyTime = x.surveyTime

/-- The reply to a command (R168). -/
def replyCell (s : State) (c : Command) (status : Status) (result : List Byte) : ControlCell :=
  { address := BitVec.ofNat 8 s.mgmt.unitAddress, tag := c.tag, code := c.code, status := status, result := result }

/-! ## The values of a full reset -/

/-- A state at the values the chapters give for a full reset (R1, R2, R24, R25, R46, R48, R68, R105, R126, R127, R148,
R159 to R165, R183 to R188, and 00_scope.md for the settings), with the unit address as sampled. -/
def State.AtReset (t : State) (unitAddress : Nat) : Prop :=
  t.Shaped ∧ t.clock = 0 ∧
    (∀ e < 63, t.entry e =
      { tuningWord := none, bias := 0, surveyEnable := false, multiplexId := none, directoryVersion := none,
        parkedLane := none, visitingLane := none, surveyOutcome := .notVisited, surveyTime := none,
        surveyMargin := none, serviceCount := 0 }) ∧
    t.entry 63 =
      { tuningWord := none, bias := 0, surveyEnable := false, multiplexId := none, directoryVersion := none,
        parkedLane := some 16, visitingLane := none, surveyOutcome := .notVisited, surveyTime := none,
        surveyMargin := none, serviceCount := 0 } ∧
    t.surveyPointer = 0 ∧ t.promptSet = [] ∧
    (∀ l < 17, t.lane l =
      { mode := if l = 16 then .parked else .idle, entry := if l = 16 then some 63 else none,
        parkedState := if l = 16 then some .locked else none, tagCounter := 1, currentTag := none,
        acknowledged := false, statusInterval := 100, latestMargin := none, latestLevel := none,
        lastStatusTime := none, windowMargin := none, windowStatusCount := 0, uncorrectedSeen := false,
        headerErrorSeen := false, faultScore := 0, degraded := false, laneFlag := false,
        flagCauses := { unlocked := false, silent := false, degraded := false, recovered := false, restart := false },
        counters := { received := 0, headerError := 0, void := 0, unexpected := 0, unbound := 0, idle := 0,
                      duplicate := 0, status := 0, stale := 0, uncorrected := 0, resends := 0 },
        lockTimer := none, silenceTimer := none,
        windowTimer := if l = 16 then some { start := 0, span := 1000000 } else none, pendingOrder := none,
        returnOut := none,
        asm := { capturing := false, cellsHeld := 0, bytesHeld := 0, declaredLength := none, nextRun := none,
                 held := [], firstPending := decide (l = 16), lastRejection := none, accepted := 0, repeats := 0,
                 broken := 0, rejected := 0, stray := 0, unlocked := 0 },
        rover := none }) ∧
    t.services = [] ∧ t.carriages = [] ∧ t.bindings = [] ∧ t.watch = List.replicate 32 none ∧
    t.watchSeen = List.replicate 32 false ∧
    t.policy =
      { windowLength := 4, smoothingShift := 2, failThreshold := 300, faultLimit := 64, faultClear := 32,
        probationWindows := 2, switchMargin := 40, confirmCount := 3, absenceLimit := 3, stallTime := 600,
        changeoverTimeout := 2000 } ∧
    t.survey = { lockTimeout := 1500, settleTime := 200, dwellTime := 3000 } ∧
    t.output =
      { portCellRate := 250000, lineupId := 0, directoryPeriod := 500, logAll := false,
        mask := { lane := false, onAir := false, rank := false, discovery := false } } ∧
    (∀ k < 128, t.slot k =
      { state := .vacant, primary := none, fallback := none, channel := none, baseFlow := none, capacity := none,
        margin := none, onAir := none, target := none, onFallback := false, switched := [], forcedPending := false,
        reviewPending := false, armedTime := none, lastChangeover := none, cleanSplices := 0, forcedSplices := 0,
        overflows := 0, changeFlag := false,
        changeCauses := { changeover := false, forced := false, dark := false }, timer := none,
        flows := List.replicate 6 { run := 0, feed := none, restart := false }, queue := [] }) ∧
    t.store =
      { freeBuffers := 8192, automaticShare := none, controlQueue := [], directoryQueue := [], spacingCount := 15,
        pressuredPtr := 127, servicePtr := 127, managementRun := 0, managementBegun := false, directoryRun := 0,
        directoryBegun := false, lineupVersion := 0, lastContent := none, directorySkips := 0,
        directoryTimer := some { start := 0, span := 500000 }, oppOrigin := 0, oppIndex := 0, oppRate := 250000,
        rateSet := false, portOut := none } ∧
    t.mgmt =
      { unitAddress := unitAddress, inputQueue := [], restartWaiting := false, badCheck := 0, dropped := 0,
        owed := false, log := [], overflow := false } ∧
    t.handed = []

end Sys2Proof.Machine
end

