-- ==== Sys2Proof/Certificates/Slice0/Obligations.lean ====
section
/-! DEFINITION. The statements for the provers. -/

open Sys2Proof Sys2Proof.Machine Host

/-! ## One step -/

/-- A step runs the command at the front of the queue on the state with the queue's rest. -/
def Obligations.StepTakesTheFrontCommand : Prop :=
  ∀ (s : State) (c : Instr) (rest : List Instr),
    s.pending = c :: rest → step s = exec c { s with pending := rest }

/-- With no command waiting: the part stands still while the reset pin is held; the clock advances by one microsecond
when nothing is due; and otherwise every due step joins the queue, in an order that is free. THE MODEL'S CHOICE
(log 1), but for the clock's advance (R47) and the standing still (R181). -/
def Obligations.IdlePartTicksOrQueuesItsDueSteps : Prop :=
  ∀ s : State, s.pending = [] →
    (s.resetHeld = true → step s = .next s) ∧
    (s.resetHeld = false → s.dueSteps = [] → step s = .next { s with clock := s.clock + 1 }) ∧
    (s.resetHeld = false → s.dueSteps ≠ [] →
      ∃ order : List Instr, order.Perm s.dueSteps ∧
        step s = .next { s with pending := order, freeCount := s.freeCount + 1 })

/-- A well-formed command is answered with a next state in every state; one that names a lane, carriage or slot the
part does not have, or a cell that is not 160 bytes, is a fault. The faults are THE MODEL'S CHOICE (log 4). -/
def Obligations.WellFormedCommandsAreAnswered : Prop :=
  (∀ (i : Instr) (s : State), i.WellFormed = true → ∃ t, exec i s = .next t) ∧
  (∀ (l : Nat) (bs : List Byte) (s : State), 16 < l → exec (.cellArrival l bs) s = .fault .noSuchLane) ∧
  (∀ (l : Nat) (bs : List Byte) (s : State), l ≤ 16 → bs.length ≠ 160 → exec (.cellArrival l bs) s = .fault .notACell) ∧
  (∀ (l : Nat) (s : State), 16 < l →
    ∀ i ∈ [Instr.orderCellSend l, .lockTimeout l, .silenceExpiry l, .windowEnd l, .visitLockTimeout l,
      .settleExpiry l, .dwellEnd l], exec i s = .fault .noSuchLane) ∧
  (∀ (c : Nat) (s : State), 1023 < c → exec (.stallExpiry c) s = .fault .noSuchCarriage) ∧
  (∀ (k : Nat) (s : State), 127 < k → exec (.changeoverTimeout k) s = .fault .noSuchSlot ∧
    exec (.splicingTimeout k) s = .fault .noSuchSlot)

/-- The frame of every command: it leaves every part of the state that `partsOf` does not list for it as it was, and
nothing waiting for the ranking engine. -/
def Obligations.EveryStepKeepsToItsParts : Prop :=
  ∀ (i : Instr) (s t : State), s.Settled → exec i s = .next t → Within (partsOf i) s t ∧ t.Settled

/-! ## Laws that every step keeps -/

/-- The state right after reset meets every law stated below. -/
def Obligations.ResetMeetsEveryLaw : Prop :=
  State.reset.Shaped ∧ State.reset.Settled ∧ State.reset.FiguresInRange ∧ State.reset.QueuesBounded ∧
    State.reset.BuffersAccounted ∧ State.reset.SlotsLawful ∧ State.reset.CatalogueOrdered ∧
    State.reset.BindingsLawful ∧ State.reset.RankingLawful ∧ State.reset.TenancyLawful ∧ State.reset.LineupLawful ∧
    State.reset.SettingsInRange

/-- The tables keep their numbers of records, and every setting stays in its range. -/
def Obligations.SettingsStayInRange : Prop :=
  ∀ s t : State, s.Shaped → s.SettingsInRange → step s = .next t → t.Shaped ∧ t.SettingsInRange

/-- R98's law: merits in 0..1000, fault scores in 0..255, peaks never below the fault score. -/
def Obligations.FiguresStayInRange : Prop :=
  ∀ s t : State, s.FiguresInRange → step s = .next t → t.FiguresInRange

/-- R148, R156, R165, R188: the control queue, the command input queue and the discovery log stay within their places,
and, by R148's law, held and free buffers always number 8192. -/
def Obligations.QueuesStayBounded : Prop :=
  (∀ s t : State, s.QueuesBounded → step s = .next t → t.QueuesBounded) ∧
    ∀ s t : State, s.BuffersAccounted → step s = .next t → t.BuffersAccounted

/-- R128's law: each slot holds the carriage references its state requires. -/
def Obligations.SlotsStayLawful : Prop :=
  ∀ s t : State, s.SlotsLawful → step s = .next t → t.SlotsLawful

/-- R7, R11: indices, keys and pairs of entry and service stay unique, and every carriage's service has a record. -/
def Obligations.CatalogueStaysOrdered : Prop :=
  ∀ s t : State, s.CatalogueOrdered → step s = .next t → t.CatalogueOrdered

/-- R14 and R18: the Binding Table holds each lane and flow once, each binding's reference count is the number of
components that name it, 1..4, and a carriage holds bindings for all of its components exactly in PROBATION, USABLE,
FAULTED and SURVEY, all on its lane. -/
def Obligations.BindingsAgreeWithCarriages : Prop :=
  ∀ s t : State, s.BindingsLawful → step s = .next t → t.BindingsLawful

/-- R7, R108, R113: between steps each service record's ranked list, selection, candidate, pin, best prospect and
selectable count agree with the carriages; a selected carriage is USABLE and neither lane-down nor stalled. -/
def Obligations.SelectionsStand : Prop :=
  ∀ s t : State, s.RankingLawful → step s = .next t → t.RankingLawful

/-- R2, R5, R18, R66, R68: no entry is both parked and visited, each lane and entry name one another, the prompt set
holds eligible entries alone, and a carriage's lane is its entry's. Each carriage index is held once in the state
before (R11, itself kept by every step). -/
def Obligations.NoEntryIsHeldTwice : Prop :=
  ∀ s t : State, s.CatalogueOrdered → s.TenancyLawful → step s = .next t → t.TenancyLawful

/-- R7, R126, R142: a vacant slot is at its reset values, the flow ranges of non-vacant slots are disjoint, and each
service record counts the slots that name its key. -/
def Obligations.LineupStaysLawful : Prop :=
  ∀ s t : State, s.LineupLawful → step s = .next t → t.LineupLawful

/-! ## Resets -/

/-- POWER_ON is a full reset: every register at the value its chapter gives, the unit address sampled. RESET_PIN puts
the part at its reset values and holds it there; while the pin is held nothing else acts; its release begins the part
from the reset values, with the unit address sampled. THE MODEL'S CHOICE: that every row but these three leaves the state
as it was while the pin is held (log 2: R181 speaks of arriving cells and the port alone); and that the reset is made at
once and held there, that POWER_ON leaves the level of the pin, and what the release of a pin that is not held does
(log 6). Of the values of AtReset the model's choice are these: no order waits (log 35), lane 16's tag counter, latest
margin, latest level and last status time (log 36), no cell was emitted yet (log 21), and nothing is handed to the
ranking engine (log 25); and the queue of waiting steps is kept (log 31). -/
def Obligations.ResetsLeaveTheResetValues : Prop :=
  (∀ (pins : BitVec 3) (s : State), ∃ t, exec (.powerOn pins) s = .next t ∧ t.AtReset pins.toNat ∧ t.pins = pins ∧
    t.resetHeld = s.resetHeld ∧ t.pending = s.pending) ∧
  (∀ s : State, ∃ t u, exec .resetPin s = .next t ∧ t.AtReset u ∧ t.resetHeld = true ∧ t.pending = s.pending) ∧
  (∀ (i : Instr) (s : State), s.resetHeld = true → i.WellFormed = true → (∀ pins, i ≠ .powerOn pins) →
    i ≠ .resetPin → (∀ pins, i ≠ .resetPinRelease pins) → exec i s = .next s) ∧
  (∀ (pins : BitVec 3) (s : State), s.resetHeld = true →
    ∃ t, exec (.resetPinRelease pins) s = .next t ∧ t.AtReset pins.toNat ∧ t.resetHeld = false ∧
      t.pending = s.pending) ∧
  (∀ (pins : BitVec 3) (s : State), s.resetHeld = false → exec (.resetPinRelease pins) s = .next s)

/-- RESTART at the head of the input queue: with the control queue empty it is taken, and leaves the reset values with
its one reply, to which the tag and the code are kept and the unit address is sampled afresh; with a cell in the
control queue it waits, and *restart waiting* is set. THE MODEL'S CHOICE: a step with no RESTART at the head does
nothing (log 3); and of the values of AtReset, that no order waits (log 35), lane 16's tag counter, latest margin, latest
level and last status time (log 36), that no cell was emitted yet (log 21), and that nothing is handed to the ranking
engine (log 25); and the queue of waiting steps is kept (log 31). -/
def Obligations.RestartResetsAndReplies : Prop :=
  ∀ (pins : BitVec 3) (s : State), s.resetHeld = false →
    (∀ c rest, s.mgmt.inputQueue = c :: rest → c.code = 0x01#8 → c.args = [] →
      (s.store.controlQueue = [] → ∃ t : State, t.AtReset pins.toNat ∧ t.pending = s.pending ∧
        exec (.restart pins) s = .next { t with store := { t.store with controlQueue :=
          [{ address := BitVec.ofNat 8 pins.toNat, tag := c.tag, code := c.code, status := .done, result := [] }] } }) ∧
      (s.store.controlQueue ≠ [] →
        exec (.restart pins) s = .next { s with mgmt := { s.mgmt with restartWaiting := true } })) ∧
    ((∀ c rest, s.mgmt.inputQueue = c :: rest → c.code = 0x01#8 → c.args ≠ []) →
      exec (.restart pins) s = .next s)

/-! ## Taking commands -/

/-- A command other than RESTART is not taken while the reset pin is held, while a RESTART waits, while the control
queue has no free place, or while another command (or none) stands at the head: nothing happens. -/
def Obligations.CommandsWaitUntilTheyCanBeTaken : Prop :=
  (∀ r ∈ commandTable 0, r.1 ≠ 0x01 → ∀ s : State,
    (∀ c rest, s.mgmt.inputQueue = c :: rest → c.code.toNat = r.1 → c.args.length = r.2.1 →
      s.resetHeld = true ∨ s.mgmt.restartWaiting = true ∨ 64 ≤ s.store.controlQueue.length) →
    exec r.2.2 s = .next s) ∧
  (∀ s : State,
    (∀ c rest, s.mgmt.inputQueue = c :: rest →
      (∃ r ∈ commandTable 0, r.1 = c.code.toNat ∧ r.2.1 = c.args.length) ∨
        s.resetHeld = true ∨ s.mgmt.restartWaiting = true ∨ 64 ≤ s.store.controlQueue.length) →
    exec .unknownCommand s = .next s)

/-- Every command that is taken leaves the input queue and gets exactly one reply, at the tail of the control queue,
with the part's unit address and the command's tag and code; a code the part does not know, or a wrong argument
length, is answered UNKNOWN with an empty result, and nothing else is done. -/
def Obligations.EveryTakenCommandGetsOneReply : Prop :=
  (∀ r ∈ commandTable 0, r.1 ≠ 0x01 → ∀ (s : State) (c : Command) (rest : List Command),
    Offers s r.1 c.args c rest → c.args.length = r.2.1 →
    ∃ t status result, exec r.2.2 s = .next t ∧ t.mgmt.inputQueue = rest ∧
      t.store.controlQueue = s.store.controlQueue ++
        [{ address := BitVec.ofNat 8 s.mgmt.unitAddress, tag := c.tag, code := c.code, status := status,
           result := result }]) ∧
  (∀ (s : State) (c : Command) (rest : List Command), Offers s c.code.toNat c.args c rest →
    (∀ r ∈ commandTable 0, ¬ (r.1 = c.code.toNat ∧ r.2.1 = c.args.length)) →
    exec .unknownCommand s = .next (refusedWith s c rest .unknown))

/-! ## Setting commands -/

/-- SET POLICY takes each of its eleven settings at the nearer bound of its range, the fault clear by the fault limit
as taken, and returns them; it changes nothing else, but that a lowered stall time makes at once stalled every
carriage whose silence already reaches it. -/
def Obligations.SetPolicyTakesElevenSettings : Prop :=
  ∀ (s : State) (args : List Byte) (c : Command) (rest : List Command),
    Offers s 0x02 args c rest → args.length = 15 → s.Settled →
    let limit := max 1 (min 255 (byteAt args 4))
    let p : Policy :=
      { windowLength := max 1 (min 32 (byteAt args 0)), smoothingShift := min 4 (byteAt args 1),
        failThreshold := min 1000 (numberAt args 2 2), faultLimit := limit,
        faultClear := min (limit - 1) (byteAt args 5), probationWindows := max 1 (min 15 (byteAt args 6)),
        switchMargin := min 500 (numberAt args 7 2), confirmCount := max 1 (min 15 (byteAt args 9)),
        absenceLimit := max 1 (min 15 (byteAt args 10)), stallTime := max 100 (min 5000 (numberAt args 11 2)),
        changeoverTimeout := max 100 (min 10000 (numberAt args 13 2)) }
    let status : Status :=
      if p.windowLength = byteAt args 0 ∧ p.smoothingShift = byteAt args 1 ∧ p.failThreshold = numberAt args 2 2 ∧
        p.faultLimit = byteAt args 4 ∧ p.faultClear = byteAt args 5 ∧ p.probationWindows = byteAt args 6 ∧
        p.switchMargin = numberAt args 7 2 ∧ p.confirmCount = byteAt args 9 ∧ p.absenceLimit = byteAt args 10 ∧
        p.stallTime = numberAt args 11 2 ∧ p.changeoverTimeout = numberAt args 13 2
      then .done else .clamped
    let result := bytesOf 1 p.windowLength ++ bytesOf 1 p.smoothingShift ++ bytesOf 2 p.failThreshold ++
      bytesOf 1 p.faultLimit ++ bytesOf 1 p.faultClear ++ bytesOf 1 p.probationWindows ++ bytesOf 2 p.switchMargin ++
      bytesOf 1 p.confirmCount ++ bytesOf 1 p.absenceLimit ++ bytesOf 2 p.stallTime ++ bytesOf 2 p.changeoverTimeout
    (s.policy.stallTime ≤ p.stallTime →
      exec .setPolicy s = .next (concluded s { s with policy := p } c rest status result)) ∧
    (p.stallTime < s.policy.stallTime → s.CatalogueOrdered →
      ∃ t, exec .setPolicy s = .next t ∧ t.policy = p ∧
        (t.carriages = s.carriages.map fun x =>
          if x.2.state.isScored = true ∧ micros p.stallTime ≤ s.silenceOf x.2 then (x.1, { x.2 with stalled := true })
          else x) ∧
        t.store.controlQueue = s.store.controlQueue ++
          [{ address := BitVec.ofNat 8 s.mgmt.unitAddress, tag := c.tag, code := c.code, status := status,
             result := result }])

/-- SET SURVEY takes its three times, and SET OUTPUT its five settings, each at the nearer bound of its range; each
returns what it took and changes nothing else. A rate set takes effect at the next opportunity: every SET OUTPUT sets
one (THE MODEL'S CHOICE, log 18). -/
def Obligations.SetSurveyAndSetOutputTakeTheirSettings : Prop :=
  (∀ (s : State) (args : List Byte) (c : Command) (rest : List Command),
    Offers s 0x03 args c rest → args.length = 6 →
    let v : SurveySettings :=
      { lockTimeout := max 200 (min 10000 (numberAt args 0 2)), settleTime := min 2000 (numberAt args 2 2),
        dwellTime := max 500 (min 20000 (numberAt args 4 2)) }
    exec .setSurvey s = .next (concluded s { s with survey := v } c rest
      (if v.lockTimeout = numberAt args 0 2 ∧ v.settleTime = numberAt args 2 2 ∧ v.dwellTime = numberAt args 4 2
        then .done else .clamped)
      (bytesOf 2 v.lockTimeout ++ bytesOf 2 v.settleTime ++ bytesOf 2 v.dwellTime))) ∧
  (∀ (s : State) (args : List Byte) (c : Command) (rest : List Command),
    Offers s 0x04 args c rest → args.length = 10 →
    let rate := max 10000 (min 500000 (numberAt args 0 4))
    let period := max 100 (min 2000 (numberAt args 6 2))
    let bits := byteAt args 9
    exec .setOutput s = .next (concluded s
      { s with
        output :=
          { portCellRate := rate, lineupId := BitVec.ofNat 16 (numberAt args 4 2), directoryPeriod := period,
            logAll := decide (byteAt args 8 ≠ 0),
            mask := { lane := bits.testBit 0, onAir := bits.testBit 1, rank := bits.testBit 2,
                      discovery := bits.testBit 3 } }
        store := { s.store with rateSet := true } } c rest
      (if rate = numberAt args 0 4 ∧ period = numberAt args 6 2 then .done else .clamped)
      (bytesOf 3 rate ++ bytesOf 2 (numberAt args 4 2) ++ bytesOf 2 period ++
        bytesOf 1 (if byteAt args 8 = 0 then 0 else 1) ++ bytesOf 1 (bits % 16))))

/-! ## The plan register and the watch list -/

/-- SET PLAN ENTRY writes the word, the bias clamped to -100..100 and the survey enable of an entry 0..62, resets the
survey fields when the word differs, takes the entry out of the prompt set when it disables it, lets the paused lanes
claim, and returns the entry and the bias as taken. The entry must be free when the word differs. -/
def Obligations.SetPlanEntryWritesTheEntry : Prop :=
  ∀ (s : State) (args : List Byte) (c : Command) (rest : List Command),
    Offers s 0x05 args c rest → args.length = 12 → s.Settled →
    let e := byteAt args 0
    let word := BitVec.ofNat 64 (numberAt args 1 8)
    let asked := (BitVec.ofNat 16 (numberAt args 9 2)).toInt
    let bias := max (-100) (min 100 asked)
    let enable := decide (byteAt args 11 ≠ 0)
    e ≤ 62 →
    ((s.entry e).tuningWord = some word ∨ (s.entry e).parkedLane = none ∧ (s.entry e).visitingLane = none) →
    exec .setPlanEntry s = .next (concluded s
      (pausedClaims
        { s with
          entries := s.entries.modify e fun p =>
            if p.tuningWord = some word then { p with bias := bias, surveyEnable := enable }
            else { p with tuningWord := some word, bias := bias, surveyEnable := enable,
                          surveyOutcome := .notVisited, surveyTime := none, surveyMargin := none, serviceCount := 0 }
          promptSet := if enable then s.promptSet else s.promptSet.filter (· ≠ e) }) c rest
      (if bias = asked then .done else .clamped) (bytesOf 1 e ++ bytesOf 1 (bias % 256).toNat))

/-- CLEAR PLAN ENTRY on an entry 0..62 that no lane parks on: a visit is abandoned, every carriage of the entry is
removed, each with a VANISHED record when its key is recorded and the log has room, and the entry takes its reset
values; no other carriage changes; the reply carries the number removed. -/
def Obligations.ClearPlanEntryRemovesItsCarriages : Prop :=
  ∀ (s : State) (args : List Byte) (c : Command) (rest : List Command),
    Offers s 0x06 args c rest → args.length = 1 → s.Settled → s.CatalogueOrdered → s.TenancyLawful →
    let e := byteAt args 0
    let gone := s.carriages.filter fun x => x.2.entry = e
    e ≤ 62 → (s.entry e).parkedLane = none → s.mgmt.log.length ≤ 32 →
    ∃ t, exec .clearPlanEntry s = .next t ∧ t.entry e = PlanEntry.fresh ∧ e ∉ t.promptSet ∧
      (∀ d, d ≠ e → { t.entry d with visitingLane := none } = { s.entry d with visitingLane := none }) ∧
      (∀ j, (s.lane j).mode ≠ .roving → t.lane j = s.lane j) ∧
      (t.carriages = s.carriages.filter fun x => x.2.entry ≠ e) ∧
      t.mgmt.log = (s.mgmt.log ++ (gone.filter fun x => s.keyRecorded x.2.service).map
        fun x => DiscoveryRecord.mk .vanished e x.2.service (some x.1) s.clock).take 32 ∧
      t.store.controlQueue = s.store.controlQueue ++
        [{ address := BitVec.ofNat 8 s.mgmt.unitAddress, tag := c.tag, code := c.code, status := .done,
           result := bytesOf 1 e ++ bytesOf 2 gone.length }]

/-- SET WATCH writes an entry 0..31 of the watch list, clears its seen bit, creates no record, and frees the record of
the key it replaced when that was the record's last hold. -/
def Obligations.SetWatchWritesTheWatchList : Prop :=
  ∀ (s : State) (args : List Byte) (c : Command) (rest : List Command),
    Offers s 0x0F args c rest → args.length = 6 → s.CatalogueOrdered →
    let i := byteAt args 0
    let key : Option Key := if byteAt args 1 = 0 then none else some (BitVec.ofNat 32 (numberAt args 2 4))
    let watch := s.watch.set i key
    i ≤ 31 →
    exec .setWatch s = .next (concluded s
      { s with
        watch := watch
        watchSeen := s.watchSeen.set i false
        services := s.services.filter fun x =>
          !(decide (s.watch.getD i none = some x.2.key) && !(s.carriages.any fun y => y.2.service = x.2.key) &&
            decide (x.2.slotRefs = 0) && x.2.pinned.isNone && !watch.contains (some x.2.key)) } c rest .done
      (bytesOf 1 i ++ match key with
        | none => [0xFF#8, 0xFF#8, 0xFF#8, 0xFF#8]
        | some k => bytesOf 4 k.toNat))

/-- PROMPT SURVEY: an eligible entry joins the prompt set, once; anything else changes nothing; the reply is DONE with
the entry as given and the outcome, whose code is a free value (log 8). -/
def Obligations.PromptSurveyJoinsEligibleEntries : Prop :=
  ∀ (s : State) (args : List Byte) (c : Command) (rest : List Command),
    Offers s 0x10 args c rest → args.length = 1 →
    let e := byteAt args 0
    let eligible := e < 63 ∧ (s.entry e).surveyEnable = true ∧ (s.entry e).tuningWord.isSome = true ∧
      (s.entry e).parkedLane = none ∧ (s.entry e).visitingLane = none
    ∃ (prompts : List Nat) (outcome : Config.PromptOutcome),
      exec .promptSurvey s =
        .next (concluded s { s with promptSet := prompts } c rest .done [args.getD 0 0, Config.promptCode outcome]) ∧
      (∀ d, d ∈ prompts ↔ d ∈ s.promptSet ∨ d = e ∧ eligible) ∧
      (s.promptSet.Pairwise (· < ·) → prompts.Pairwise (· < ·)) ∧
      (e ∈ s.promptSet → outcome = .already) ∧ (e ∉ s.promptSet → eligible → outcome = .joined) ∧
      (e ∉ s.promptSet → ¬ eligible → outcome = .notEligible)

/-- A claim by a roving lane: the lowest prompted entry, or else the first eligible entry in index order from the one
after the survey pointer, wrapping from 62 to 0; the entry, the pointer, the prompt set, the TUNE with its tag and the
rover record take the values of R69. With no eligible entry the lane pauses and sends nothing. As an act that makes an
entry eligible ends, the paused lanes claim in lane order, lowest first, and then no lane is paused while an entry is
eligible (R71). -/
def Obligations.ClaimsTakeTheNextEntry : Prop :=
  (∀ (s : State) (l : Nat) (r : Rover), s.Shaped → l < 16 → (s.lane l).mode = .roving → (s.lane l).rover = some r →
    s.surveyPointer ≤ 62 →
    (∀ e, (s.promptSet.head? = some e ∨ s.promptSet = [] ∧ s.eligible e = true ∧
        ∀ d, s.eligible d = true → (e + 62 - s.surveyPointer) % 63 ≤ (d + 62 - s.surveyPointer) % 63) →
      claim s l =
        { s with
          entries := s.entries.modify e fun p => { p with visitingLane := some l }
          surveyPointer := e
          promptSet := s.promptSet.filter (· ≠ e)
          lanes := s.lanes.modify l fun n =>
            { n with
              pendingOrder := some { kind := .tune, tag := n.tagCounter, word := (s.entry e).tuningWord.getD 0 }
              tagCounter := if n.tagCounter < 255 then n.tagCounter + 1 else 1
              currentTag := some n.tagCounter, acknowledged := false
              rover := some { r with
                visitState := .tuning, claimedEntry := some e, visitTag := some n.tagCounter
                visitTimer := some { start := s.clock, span := 1000 * s.survey.lockTimeout }
                visits := min (r.visits + 1) 4294967295 } } }) ∧
    (s.promptSet = [] → (∀ e, s.eligible e = false) →
      claim s l = { s with lanes := s.lanes.modify l fun n =>
        { n with rover := some { r with visitState := .paused, claimedEntry := none, visitTag := none,
                                        visitTimer := none } } })) ∧
  ∀ s : State, s.Shaped →
    let paused := fun (u : State) (l : Nat) =>
      (u.lane l).mode = .roving ∧ (u.lane l).rover.map (·.visitState) = some .paused
    pausedClaims s = (List.range 16).foldl (fun u l =>
      if (u.lane l).mode = .roving ∧ (u.lane l).rover.map (·.visitState) = some .paused then claim u l else u) s ∧
    (∀ l < 17, ¬ paused s l → (pausedClaims s).lane l = s.lane l) ∧
    ∀ l < 16, paused (pausedClaims s) l → ∀ e, (pausedClaims s).eligible e = false

/-! ## Lane commands -/

/-- PARK LANE on a feed lane, for an entry 0..62 that is not empty and that no other lane parks on: the lane's old
entry is left, the lane record is cleared and takes AWAIT, a TUNE with the next tag and its three timers; every
carriage of the entry stands on the lane in PROBATION or INCOMPLETE, lane-down, with its figures kept; the reply
carries the lane, the entry and the tag. The entry's carriages make their bind attempts in index order once the old
entry and every visit of the new one are left, with the whole-window mark set (R19, R84); an attempt succeeds as R15
gives and leaves its carriage, its bindings and its service handed on as stated here once for every attempt; a release
of bindings is stated likewise (R16). A lane that leaves roving has no last rejection cause left (R67). THE MODEL'S
CHOICE: any other lane keeps the cause (log 16); every attempt hands its carriage's service on (log 29); and the mark
*heard* (log 39). -/
def Obligations.ParkLaneParksTheLane : Prop :=
  (∀ (s : State) (args : List Byte) (c : Command) (rest : List Command),
    Offers s 0x07 args c rest → args.length = 2 → s.Settled → s.CatalogueOrdered → s.TenancyLawful →
    let l := byteAt args 0
    let e := byteAt args 1
    let n := s.lane l
    l ≤ 15 → e ≤ 62 → ∀ word, (s.entry e).tuningWord = some word →
    ((s.entry e).parkedLane = none ∨ (s.entry e).parkedLane = some l) →
    ∃ t, exec .parkLane s = .next t ∧
      t.lane l =
        { n.wiped true (if n.mode = .roving then none else n.asm.lastRejection) with
          mode := .parked, entry := some e, parkedState := some .await, tagCounter := tagAfter n.tagCounter
          currentTag := some n.tagCounter
          pendingOrder := some { kind := .tune, tag := n.tagCounter, word := word }
          lockTimer := some { start := s.clock, span := 1000 * s.survey.lockTimeout }
          silenceTimer := some { start := s.clock, span := 3000 * n.statusInterval }
          windowTimer := some { start := s.clock, span := 250000 * s.policy.windowLength }
          rover := none } ∧
      t.entry e = { s.entry e with parkedLane := some l, visitingLane := none } ∧ e ∉ t.promptSet ∧
      (∀ d, n.entry = some d → d ≠ e → (t.entry d).parkedLane = none) ∧
      (∀ x ∈ s.carriages, x.2.entry = e → ∃ y, t.carriage x.1 = some y ∧ y.lane = some l ∧
        (y.state = .probation ∨ y.state = .incomplete) ∧ y.laneDown = true ∧ y.stalled = false ∧ y.probation = 0 ∧
        x.2.SameFigures y) ∧
      (∀ x ∈ s.carriages, x.2.entry ≠ e → t.carriage x.1 = some (x.2.leftBy n)) ∧
      (∀ j, j ≠ l → (s.lane j).mode ≠ .roving → t.lane j = s.lane j) ∧
      (∀ d, d ≠ e → { t.entry d with parkedLane := none, visitingLane := none } =
        { s.entry d with parkedLane := none, visitingLane := none }) ∧
      t.store.controlQueue = s.store.controlQueue ++
        [replyCell s c .done (bytesOf 1 l ++ bytesOf 1 e ++ bytesOf 1 n.tagCounter)] ∧
      (s.BindingsLawful → ∃ u : State,
        u.carriages = (s.carriages.map fun x =>
          (x.1, if x.2.entry = e then x.2.shelvedFrom else x.2.leftBy n)) ∧
        u.bindings = (s.bindings.filterMap fun b =>
          if u.referencesTo b.name = 0 then none else some { b with refCount := u.referencesTo b.name }) ∧
        u.clock = s.clock ∧ (u.lane l).mode = .parked ∧ (u.lane l).parkedState = some .await ∧
        let bound := ((s.carriages.filter fun x => decide (x.2.entry = e)).map Prod.fst).foldl
          (fun u i => attemptBind u i l true) u
        t.carriages = bound.carriages ∧ t.bindings = bound.bindings)) ∧
  (∀ (s : State) (i l : Nat) (mark : Bool) (x : Carriage), s.CatalogueOrdered → s.carriage i = some x →
    (x.components.map (·.flow)).Nodup →
    let t := attemptBind s i l mark
    let flows := x.components.map (·.flow)
    (∃ y, s.AttemptLeaves l mark x y ∧ t.carriages = s.carriages.map fun z => if z.1 = i then (i, y) else z) ∧
    t.handed = s.handed ++ [{ key := x.service, scored := none }] ∧
    (¬ s.Bindable l flows → t.bindings = s.bindings) ∧
    (s.Bindable l flows → ∀ j f, t.binding j f =
      if j = l ∧ f ∈ flows then
        match s.binding l f with
        | some b => some { b with refCount := b.refCount + 1 }
        | none => some { name := { lane := l, flow := f }, refCount := 1, expectedRun := none, n := 0, g := 0, x := 0,
                         duplicates := 0, pairing := none, peakJ := 0, deviationSeen := false,
                         lastCellTime := s.clock }
      else s.binding j f)) ∧
  ∀ (s : State) (i : Nat) (x : Carriage), s.CatalogueOrdered → s.carriage i = some x →
    (x.components.filterMap (·.binding)).Nodup →
    let t := releaseBindings s i
    (t.carriages = s.carriages.map fun z =>
      if z.1 = i then
        (i, { x with components := x.components.map fun d => { d with binding := none }, wholeWindow := none })
      else z) ∧
    ∀ j f, t.binding j f =
      if { lane := j, flow := f } ∈ x.components.filterMap (·.binding) then
        (s.binding j f).bind fun b => if b.refCount ≤ 1 then none else some { b with refCount := b.refCount - 1 }
      else s.binding j f

/-- ROVE LANE on a feed lane: the lane's entry or visit is left, the lane record is cleared and a new rover record
makes its first claim, of the entry R69 chooses among those that are free or that the lane itself held; the reply
carries the entry and the tag of the TUNE, or both absent when no entry is eligible and the lane pauses. That the
assembler's last rejection cause is kept is THE MODEL'S CHOICE (log 16). -/
def Obligations.RoveLaneMakesItsFirstClaim : Prop :=
  ∀ (s : State) (args : List Byte) (c : Command) (rest : List Command),
    Offers s 0x08 args c rest → args.length = 1 → s.Settled → s.CatalogueOrdered → s.TenancyLawful →
    let l := byteAt args 0
    let n := s.lane l
    let m : Lane :=
      { n.wiped false n.asm.lastRejection with
        mode := .roving, entry := none, parkedState := none, currentTag := none, lockTimer := none
        silenceTimer := some { start := s.clock, span := 3000 * n.statusInterval }, windowTimer := none }
    let r : Rover :=
      { visitState := .paused, claimedEntry := none, visitTag := none, visitTimer := none, directoryTaken := false,
        dwellServiceCount := 0, visits := 0, surveyed := 0, noLock := 0, noDirectory := 0, abandoned := 0, late := 0 }
    let eligible := fun (e : Nat) => e < 63 ∧ (s.entry e).surveyEnable = true ∧ (s.entry e).tuningWord ≠ none ∧
      ((s.entry e).parkedLane = none ∨ (s.entry e).parkedLane = some l) ∧
      ((s.entry e).visitingLane = none ∨ (s.entry e).visitingLane = some l)
    let chosen := fun (e : Nat) => s.promptSet.head? = some e ∨ s.promptSet = [] ∧ eligible e ∧
      ∀ d, eligible d → (e + 62 - s.surveyPointer) % 63 ≤ (d + 62 - s.surveyPointer) % 63
    l ≤ 15 →
    ∃ t, exec .roveLane s = .next t ∧
      (∀ d, n.entry = some d → (t.entry d).parkedLane = none) ∧
      (∀ x ∈ s.carriages, t.carriage x.1 = some (x.2.leftBy n)) ∧
      (∀ j, j ≠ l → (s.lane j).mode ≠ .roving → t.lane j = s.lane j) ∧
      (∀ d, { t.entry d with parkedLane := none, visitingLane := none } =
        { s.entry d with parkedLane := none, visitingLane := none }) ∧
      (∀ e, chosen e → (t.entry e).visitingLane = some l ∧
        t.lane l =
          { m with
            tagCounter := tagAfter n.tagCounter, currentTag := some n.tagCounter
            pendingOrder := some { kind := .tune, tag := n.tagCounter, word := (s.entry e).tuningWord.getD 0 }
            rover := some { r with
              visitState := .tuning, claimedEntry := some e, visitTag := some n.tagCounter
              visitTimer := some { start := s.clock, span := 1000 * s.survey.lockTimeout }, visits := 1 } } ∧
        t.store.controlQueue = s.store.controlQueue ++
          [replyCell s c .done (bytesOf 1 l ++ bytesOf 1 e ++ bytesOf 1 n.tagCounter)]) ∧
      ((∀ e, ¬ eligible e) → t.lane l = { m with rover := some r } ∧
        t.store.controlQueue = s.store.controlQueue ++ [replyCell s c .done (bytesOf 1 l ++ [0xFF#8, 0xFF#8])])

/-- RELEASE LANE on a feed lane, idle lanes included: the lane's entry or visit is left, the lane record is cleared and
idle, its timers stopped, and a HALT with the next tag waits; the reply carries the lane and the tag. A lane that leaves
roving has no last rejection cause left (R67); that any other lane keeps the cause is THE MODEL'S CHOICE (log 16). -/
def Obligations.ReleaseLaneIdlesTheLane : Prop :=
  ∀ (s : State) (args : List Byte) (c : Command) (rest : List Command),
    Offers s 0x09 args c rest → args.length = 1 → s.Settled → s.CatalogueOrdered → s.TenancyLawful →
    let l := byteAt args 0
    let n := s.lane l
    l ≤ 15 →
    ∃ t, exec .releaseLane s = .next t ∧
      t.lane l =
        { n.wiped false (if n.mode = .roving then none else n.asm.lastRejection) with
          mode := .idle, entry := none, parkedState := none, tagCounter := tagAfter n.tagCounter, currentTag := none
          pendingOrder := some { kind := .halt, tag := n.tagCounter, word := 0 }
          lockTimer := none, silenceTimer := none, windowTimer := none, rover := none } ∧
      (∀ d, n.entry = some d → (t.entry d).parkedLane = none) ∧
      (∀ d, n.visiting = some d → (t.entry d).visitingLane ≠ some l) ∧
      (∀ x ∈ s.carriages, t.carriage x.1 = some (x.2.leftBy n)) ∧
      (∀ j, j ≠ l → (s.lane j).mode ≠ .roving → t.lane j = s.lane j) ∧
      (∀ d, { t.entry d with parkedLane := none, visitingLane := none } =
        { s.entry d with parkedLane := none, visitingLane := none }) ∧
      t.store.controlQueue = s.store.controlQueue ++
        [replyCell s c .done (bytesOf 1 l ++ bytesOf 1 n.tagCounter)]

/-- SET LANE on a feed lane writes the interval, clamped to 10..1000 ms, and applies three times it to a running silence
timer at once; a timer that already reaches the new length expires in the act. That expiry takes a parked lane to
SILENT and ends a visit in settling or dwelling with NO-LOCK; it has no other effect on any other lane. The expiry
within the act is THE MODEL'S CHOICE of how "at once" is taken (log 14). -/
def Obligations.SetLaneSetsTheStatusInterval : Prop :=
  ∀ (s : State) (args : List Byte) (c : Command) (rest : List Command),
    Offers s 0x0A args c rest → args.length = 3 → s.Settled → s.Shaped →
    let l := byteAt args 0
    let n := s.lane l
    let ms := max 10 (min 1000 (numberAt args 1 2))
    let reached := ∃ tm, n.silenceTimer = some tm ∧ 3000 * ms ≤ elapsed s.clock tm.start
    let status : Status := if ms = numberAt args 1 2 then .done else .clamped
    l ≤ 15 →
    (¬ reached → exec .setLane s = .next (concluded s
      { s with lanes := s.lanes.modify l fun n =>
          { n with statusInterval := ms,
                   silenceTimer := n.silenceTimer.map fun tm => { tm with span := 3000 * ms } } } c rest status
      (bytesOf 1 l ++ bytesOf 2 ms))) ∧
    (reached → n.mode ≠ .parked → n.losesLock = false → exec .setLane s = .next (concluded s
      { s with lanes := s.lanes.modify l fun n => { n with statusInterval := ms, silenceTimer := none } } c rest status
      (bytesOf 1 l ++ bytesOf 2 ms))) ∧
    (reached → n.mode = .parked → ∃ t, exec .setLane s = .next t ∧
      t.lane l =
        { n with
          statusInterval := ms, silenceTimer := none, parkedState := some .silent, lockTimer := none
          laneFlag := n.laneFlag || decide (n.parkedState ≠ some .silent)
          flagCauses := { n.flagCauses with
            silent := n.flagCauses.silent || decide (n.parkedState ≠ some .silent) } } ∧
      t.store.controlQueue = s.store.controlQueue ++ [replyCell s c status (bytesOf 1 l ++ bytesOf 2 ms)]) ∧
    (reached → n.mode = .roving → n.losesLock = true → ∀ e < 64, n.visiting = some e → ∃ t, exec .setLane s = .next t ∧
      (t.entry e).surveyOutcome = .noLock ∧ (t.entry e).surveyTime = some s.clock ∧
      (t.lane l).statusInterval = ms ∧ (t.lane l).silenceTimer = none ∧
      t.store.controlQueue = s.store.controlQueue ++ [replyCell s c status (bytesOf 1 l ++ bytesOf 2 ms)])

/-- The refusals of the lane commands, of the plan register's commands, of SET WATCH, of the reads, of the commands on
carriages and of the lists, each in the order of its checks; a refused command changes nothing but its place in the
queues. -/
def Obligations.CommandsAreRefusedInOrder : Prop :=
  ∀ (s : State) (args : List Byte) (c : Command) (rest : List Command),
    (∀ r ∈ [(0x07, 2, Instr.parkLane), (0x08, 1, .roveLane), (0x09, 1, .releaseLane), (0x0A, 3, .setLane)],
      Offers s r.1 args c rest → args.length = r.2.1 →
        (16 < byteAt args 0 → exec r.2.2 s = .next (refusedWith s c rest .badIndex)) ∧
        (byteAt args 0 = 16 → exec r.2.2 s = .next (refusedWith s c rest .inUse))) ∧
    (Offers s 0x07 args c rest → args.length = 2 → byteAt args 0 ≤ 15 →
      (63 < byteAt args 1 → exec .parkLane s = .next (refusedWith s c rest .badIndex)) ∧
      (byteAt args 1 ≤ 62 → (s.entry (byteAt args 1)).tuningWord = none →
        exec .parkLane s = .next (refusedWith s c rest .inUse)) ∧
      (∀ m, byteAt args 1 ≤ 63 → (byteAt args 1 ≤ 62 → (s.entry (byteAt args 1)).tuningWord ≠ none) →
        (s.entry (byteAt args 1)).parkedLane = some m → m ≠ byteAt args 0 →
        exec .parkLane s = .next (refusedWith s c rest .conflict))) ∧
    (Offers s 0x05 args c rest → args.length = 12 →
      (62 < byteAt args 0 → exec .setPlanEntry s = .next (refusedWith s c rest .badIndex)) ∧
      (byteAt args 0 ≤ 62 → (s.entry (byteAt args 0)).tuningWord ≠ some (BitVec.ofNat 64 (numberAt args 1 8)) →
        ((s.entry (byteAt args 0)).parkedLane.isSome ∨ (s.entry (byteAt args 0)).visitingLane.isSome) →
        exec .setPlanEntry s = .next (refusedWith s c rest .inUse))) ∧
    (Offers s 0x06 args c rest → args.length = 1 →
      (62 < byteAt args 0 → exec .clearPlanEntry s = .next (refusedWith s c rest .badIndex)) ∧
      (byteAt args 0 ≤ 62 → (s.entry (byteAt args 0)).parkedLane.isSome →
        exec .clearPlanEntry s = .next (refusedWith s c rest .inUse))) ∧
    (Offers s 0x0F args c rest → args.length = 6 → 31 < byteAt args 0 →
      exec .setWatch s = .next (refusedWith s c rest .badIndex)) ∧
    (Offers s 0x11 args c rest → args.length = 1 → 16 < byteAt args 0 →
      exec .readLane s = .next (refusedWith s c rest .badIndex)) ∧
    (Offers s 0x12 args c rest → args.length = 1 → 63 < byteAt args 0 →
      exec .readPlanEntry s = .next (refusedWith s c rest .badIndex)) ∧
    (∀ r ∈ [(0x14, Instr.readCarriage), (0x16, .flushCarriage), (0x17, .forgetCarriage)],
      Offers s r.1 args c rest → args.length = 2 →
        (1023 < numberAt args 0 2 → exec r.2 s = .next (refusedWith s c rest .badIndex)) ∧
        (numberAt args 0 2 ≤ 1023 → s.carriage (numberAt args 0 2) = none →
          exec r.2 s = .next (refusedWith s c rest .notFound))) ∧
    (Offers s 0x17 args c rest → args.length = 2 → numberAt args 0 2 ≤ 1023 →
      ∀ x, s.carriage (numberAt args 0 2) = some x →
      ((∃ v, s.service x.service = some v ∧ v.selected = some (numberAt args 0 2)) ∨
        ∃ k ∈ s.slots, (k.state = .armed ∨ k.state = .splicing) ∧ k.target = some (numberAt args 0 2)) →
      exec .forgetCarriage s = .next (refusedWith s c rest .inUse)) ∧
    (Offers s 0x13 args c rest → args.length = 4 → s.service (BitVec.ofNat 32 (numberAt args 0 4)) = none →
      exec .readService s = .next (refusedWith s c rest .notFound)) ∧
    (Offers s 0x1A args c rest → args.length = 2 → 511 < numberAt args 0 2 →
      exec .listServices s = .next (refusedWith s c rest .badIndex)) ∧
    (Offers s 0x1B args c rest → args.length = 3 →
      1023 < numberAt args 0 2 ∨ 63 < byteAt args 2 ∧ byteAt args 2 ≠ 0xFF →
      exec .listCarriages s = .next (refusedWith s c rest .badIndex))

/-! ## Slot commands -/

/-- SET SLOT when its seven checks pass: the slot's keys, channel, capacity and margin are written, clamped; a vacant
slot takes the base flow and enters DARK; the slot then forms its wanted carriage and moves by R130 (stated apart);
every other slot is as it was. A key that had no service record gets a new one; the references of each key newly named
rise by one, those of each key no longer named fall by one, and a record that so loses its last hold is freed; the
shares are worked out afresh; the reply carries the settings as taken. -/
def Obligations.SetSlotSetsTheSlot : Prop :=
  ∀ (s : State) (args : List Byte) (c : Command) (rest : List Command),
    Offers s 0x0B args c rest → args.length = 18 → s.LineupLawful →
    let k := byteAt args 0
    let primary : Key := BitVec.ofNat 32 (numberAt args 1 4)
    let fallback : Option Key := if byteAt args 5 = 0 then none else some (BitVec.ofNat 32 (numberAt args 6 4))
    let channel := max 1 (min 9999 (numberAt args 10 2))
    let base := numberAt args 12 2
    let cap := if numberAt args 14 2 = 0 then 0 else max 16 (min 4096 (numberAt args 14 2))
    let capacity : Capacity := if cap = 0 then .automatic else .cells cap
    let marg := if numberAt args 16 2 = 0xFFFF then 0xFFFF else min 4096 (numberAt args 16 2)
    let margin : Margin := if marg = 0xFFFF then .standard else .cells marg
    let written := s.slots.modify k fun x =>
      { x with state := if x.state = .vacant then .dark else x.state, primary := some primary, fallback := fallback,
               channel := some channel, baseFlow := some base, capacity := some capacity, margin := some margin }
    let automatic := written.countP fun x => decide (x.state ≠ .vacant) && decide (x.capacity = some .automatic)
    let explicit := (written.map fun x => match x.state, x.capacity with
      | .vacant, _ => 0
      | _, some (.cells n) => n
      | _, _ => 0).sum
    let share := if automatic = 0 then none else some ((8192 - explicit) / automatic)
    let keys := primary :: fallback.toList
    k ≤ 127 → fallback ≠ some primary → base ≤ 4026 →
    ((s.slot k).state ≠ .vacant → (s.slot k).baseFlow = some base) →
    (∀ j < 128, j ≠ k → ∀ b, (s.slot j).baseFlow = some b → b + 6 ≤ base ∨ base + 6 ≤ b) →
    (∀ n, share = some n → 16 ≤ n) →
    s.services.length + (keys.filter fun key => (s.service key).isNone).length ≤ 512 →
    ∃ t, exec .setSlot s = .next t ∧ t.slots = (reviewSlot { s with slots := written } k).slots ∧
      t.store.automaticShare = share ∧
      (∀ key ∈ keys, s.service key = none → t.service key = some
        { key := key, name := [], rankedList := [], selected := none, candidate := none, confirmCount := 0,
          pinned := none, bestProspect := none, selectableCount := 0, rankFlag := false, slotRefs := 1,
          prospectLead := false, rankCauses := { prospect := false, lastCopy := false } }) ∧
      (∀ v ∈ s.services, t.service v.2.key =
        let was := (s.slot k).primary = some v.2.key ∨ (s.slot k).fallback = some v.2.key
        if v.2.key ∈ keys then some (if was then v.2 else { v.2 with slotRefs := v.2.slotRefs + 1 })
        else if was then
          if v.2.slotRefs = 1 ∧ (∀ y ∈ s.carriages, y.2.service ≠ v.2.key) ∧ v.2.pinned = none ∧
            some v.2.key ∉ s.watch then none
          else some { v.2 with slotRefs := v.2.slotRefs - 1 }
        else some v.2) ∧
      t.store.controlQueue = s.store.controlQueue ++ [replyCell s c
        (if channel = numberAt args 10 2 ∧ cap = numberAt args 14 2 ∧ marg = numberAt args 16 2 then .done
          else .clamped)
        (bytesOf 1 k ++ bytesOf 1 (t.slot k).state.code ++ bytesOf 2 channel ++ bytesOf 2 cap ++ bytesOf 2 marg ++
          bytesOf 2 (if cap = 0 then share.getD 0xFFFF else cap))]

/-- CLEAR SLOT: a vacant slot is answered DONE and not changed; a non-vacant slot's cells are discarded and their
buffers freed, the slot takes the values of a vacant one, its keys' references fall by one each and a record without
a hold is freed, and the shares are worked out afresh. No carriage and no other slot changes. -/
def Obligations.ClearSlotEmptiesTheSlot : Prop :=
  ∀ (s : State) (args : List Byte) (c : Command) (rest : List Command),
    Offers s 0x0C args c rest → args.length = 1 → s.LineupLawful →
    let k := byteAt args 0
    let x := s.slot k
    let cleared := s.slots.set k Slot.vacant
    k ≤ 127 →
    (x.state = .vacant →
      exec .clearSlot s = .next (concluded s s c rest .done (bytesOf 1 k ++ [0#8, 0#8]))) ∧
    (x.state ≠ .vacant → ∃ t, exec .clearSlot s = .next t ∧ t.slots = cleared ∧ t.carriages = s.carriages ∧
      t.store.freeBuffers = s.store.freeBuffers + x.queue.length ∧ t.store.automaticShare = shareOf cleared ∧
      (∀ v ∈ s.services, t.service v.2.key =
        if x.primary = some v.2.key ∨ x.fallback = some v.2.key then
          if v.2.slotRefs = 1 ∧ (∀ y ∈ s.carriages, y.2.service ≠ v.2.key) ∧ v.2.pinned = none ∧
            some v.2.key ∉ s.watch then none
          else some { v.2 with slotRefs := v.2.slotRefs - 1 }
        else some v.2) ∧
      t.store.controlQueue = s.store.controlQueue ++
        [replyCell s c .done (bytesOf 1 k ++ bytesOf 2 x.queue.length)])

/-- EXCHANGE SLOTS on two non-vacant slots exchanges their keys and nothing else, and then each slot, the first named
first, forms its wanted carriage and moves by R130 (stated apart); one slot named twice is answered with its state and
not changed. -/
def Obligations.ExchangeSlotsSwapsTheKeys : Prop :=
  ∀ (s : State) (args : List Byte) (c : Command) (rest : List Command),
    Offers s 0x0D args c rest → args.length = 2 →
    let a := byteAt args 0
    let b := byteAt args 1
    let t := reviewSlot (reviewSlot
      { s with slots := (s.slots.modify a fun x =>
          { x with primary := (s.slot b).primary, fallback := (s.slot b).fallback }).modify b fun x =>
            { x with primary := (s.slot a).primary, fallback := (s.slot a).fallback } } a) b
    a ≤ 127 → b ≤ 127 → (s.slot a).state ≠ .vacant → (s.slot b).state ≠ .vacant →
    (a ≠ b → exec .exchangeSlots s = .next (concluded s t c rest .done
      (bytesOf 1 a ++ bytesOf 1 (t.slot a).state.code ++ bytesOf 1 b ++ bytesOf 1 (t.slot b).state.code))) ∧
    (a = b → exec .exchangeSlots s = .next (concluded s s c rest .done
      (bytesOf 1 a ++ bytesOf 1 (s.slot a).state.code)))

/-- The refusals of SET SLOT in the order of its seven checks, and those of CLEAR SLOT, EXCHANGE SLOTS and READ SLOT.
Where EXCHANGE SLOTS names one vacant slot twice, the refusal is THE MODEL'S CHOICE (log 30). -/
def Obligations.SlotCommandsAreRefused : Prop :=
  ∀ (s : State) (args : List Byte) (c : Command) (rest : List Command),
    (Offers s 0x0B args c rest → args.length = 18 →
      let k := byteAt args 0
      let primary : Key := BitVec.ofNat 32 (numberAt args 1 4)
      let fallback : Option Key := if byteAt args 5 = 0 then none else some (BitVec.ofNat 32 (numberAt args 6 4))
      let base := numberAt args 12 2
      let cap := if numberAt args 14 2 = 0 then 0 else max 16 (min 4096 (numberAt args 14 2))
      let written := s.slots.modify k fun x =>
        { x with state := if x.state = .vacant then .dark else x.state,
                 capacity := some (if cap = 0 then .automatic else .cells cap) }
      let check1 := k ≤ 127
      let check2 := fallback ≠ some primary
      let check3 := base ≤ 4026
      let check4 := (s.slot k).state ≠ .vacant → (s.slot k).baseFlow = some base
      let check5 := ∀ j < 128, j ≠ k → (s.slot j).state ≠ .vacant → ∀ b, (s.slot j).baseFlow = some b →
        b + 6 ≤ base ∨ base + 6 ≤ b
      let check6 := ∀ n, shareOf written = some n → 16 ≤ n
      let check7 := s.services.length +
        ((primary :: fallback.toList).filter fun key => (s.service key).isNone).length ≤ 512
      (¬ check1 → exec .setSlot s = .next (refusedWith s c rest .badIndex)) ∧
      (check1 → ¬ check2 → exec .setSlot s = .next (refusedWith s c rest .badIndex)) ∧
      (check1 → check2 → ¬ check3 → exec .setSlot s = .next (refusedWith s c rest .badIndex)) ∧
      (check1 → check2 → check3 → ¬ check4 → exec .setSlot s = .next (refusedWith s c rest .inUse)) ∧
      (check1 → check2 → check3 → check4 → ¬ check5 → exec .setSlot s = .next (refusedWith s c rest .conflict)) ∧
      (check1 → check2 → check3 → check4 → check5 → ¬ check6 →
        exec .setSlot s = .next (refusedWith s c rest .noRoom)) ∧
      (check1 → check2 → check3 → check4 → check5 → check6 → ¬ check7 →
        exec .setSlot s = .next (refusedWith s c rest .noRoom))) ∧
    (Offers s 0x0C args c rest → args.length = 1 → 127 < byteAt args 0 →
      exec .clearSlot s = .next (refusedWith s c rest .badIndex)) ∧
    (Offers s 0x0D args c rest → args.length = 2 →
      (127 < byteAt args 0 ∨ 127 < byteAt args 1 → exec .exchangeSlots s = .next (refusedWith s c rest .badIndex)) ∧
      (byteAt args 0 ≤ 127 → byteAt args 1 ≤ 127 →
        ((s.slot (byteAt args 0)).state = .vacant ∨ (s.slot (byteAt args 1)).state = .vacant) →
        exec .exchangeSlots s = .next (refusedWith s c rest .notFound))) ∧
    (Offers s 0x15 args c rest → args.length = 1 → 127 < byteAt args 0 →
      exec .readSlot s = .next (refusedWith s c rest .badIndex))

/-! ## The slot composer -/

/-- The wanted carriage (R129) and the moves of R130 to R132, for every state of the slot. The six feeds that a move
leaves are those the slot's state gives (R127); every other slot is as it was. -/
def Obligations.SlotsMoveByTheChangeoverTable : Prop :=
  ∀ (s : State) (k : Nat), s.Shaped → k < 128 →
    let x := s.slot k
    let t := reviewSlot s k
    let y := t.slot k
    let selected := fun key => (s.service key).bind (·.selected)
    let primary := x.primary.bind selected
    let w := primary.or (x.fallback.bind selected)
    let x' : Slot := { x with onFallback := primary.isNone && w.isSome }
    let dark : Slot :=
      { x' with state := .dark, onAir := none, target := none, switched := [], forcedPending := false,
                reviewPending := false, timer := none, changeFlag := true,
                changeCauses := { x.changeCauses with dark := true }, flows := y.flows }
    let back : Slot := { x' with state := .steady, target := none, timer := none, forcedPending := false,
                                 flows := y.flows }
    (∀ j, j ≠ k → t.slot j = s.slot j) ∧ (∀ i < 6, (y.flows.getD i OutFlow.fresh).run =
      (x.flows.getD i OutFlow.fresh).run) ∧
    (y.state ≠ .vacant → y.state ≠ x.state ∨ y.target ≠ x.target → ∀ i < 6,
      (y.flows.getD i OutFlow.fresh).feed = s.feedOf y i ∧
      (y.flows.getD i OutFlow.fresh).restart = ((x.flows.getD i OutFlow.fresh).restart ||
        ((s.feedOf y i).isSome && decide (s.feedOf y i ≠ (x.flows.getD i OutFlow.fresh).feed)))) ∧
    (x.state = .vacant → y = x') ∧
    (x.state = .dark → w = none → y = x') ∧
    (x.state = .steady → w = none → y = dark) ∧
    (x.state = .steady → w ≠ none → w = x.onAir → y = x') ∧
    (x.state = .armed → w ≠ none → w = x.target → y = x') ∧
    (x.state = .armed → w ≠ none → w ≠ x.target → w = x.onAir → y = back) ∧
    (x.state = .armed → w = none → (∃ c, x.onAir = some c ∧ s.delivering c = true) → y = back) ∧
    (x.state = .armed → w = none → (∀ c, x.onAir = some c → s.delivering c = false) → y = dark) ∧
    (x.state = .splicing → y = { x' with reviewPending := true }) ∧
    (∀ c, w = some c →
      x.state = .dark ∨ x.state = .steady ∧ x.onAir ≠ some c ∨
        x.state = .armed ∧ x.target ≠ some c ∧ x.onAir ≠ some c →
      y = { x' with state := .armed, target := some c, armedTime := some s.clock, forcedPending := false,
                    timer := some { start := s.clock, span := 1000 * s.policy.changeoverTimeout },
                    flows := y.flows })

/-- The clean and the forced splice (R133, R134), the switching of a later component (R135) and the end of SPLICING
(R136), each of which changes its own slot and nothing else but for the review that is applied when one is pending
(R136, step 4; the review is stated apart), and the two expiries of the changeover timer. The flows take the feeds that
the slot's new state gives, and each that is fed anew sets *restart pending* (R127). A rebinding, stated last, changes the
flows alone of each slot, as R194 says: they take the feeds that R127 gives them with the carriage's new list, and those
that the carriage fed, and in a slot that it fed those whose index the new list adds, set *restart pending*. THE MODEL'S
CHOICE: *forced pending* is left as it was by a forced splice and by the end of SPLICING (log 15); an expiry that is not
due, or that finds another state, does nothing (log 2). -/
def Obligations.SlotsSpliceAndSwitch : Prop :=
  (∀ (s : State) (k : Nat) (name : BindingName) (c : Machine.Cell) (target : Nat), s.Shaped → k < 128 →
    (s.slot k).target = some target →
    let x := s.slot k
    let timer : Option Timer := some { start := s.clock, span := 1000 * s.policy.changeoverTimeout }
    let js := (List.range (s.componentCount target)).filter fun j =>
      !x.switched.contains j && s.usesBinding target j name
    let fed := fun (y : Slot) => y.flows.length = 6 ∧ ∀ i < 6,
      let f := x.flows.getD i OutFlow.fresh
      let g := y.flows.getD i OutFlow.fresh
      g.run = f.run ∧ g.feed = s.feedOf y i ∧
        g.restart = (f.restart || ((s.feedOf y i).isSome && decide (s.feedOf y i ≠ f.feed)))
    let becomes := fun (t : State) (y : List OutFlow → Slot) =>
      ∃ flows, fed (y flows) ∧ t = { s with slots := s.slots.set k (y flows) }
    let ended : List OutFlow → Slot := fun flows =>
      { x with state := .steady, onAir := some target, target := none, switched := [], timer := none,
               lastChangeover := some s.clock, changeFlag := true, reviewPending := false,
               changeCauses := { x.changeCauses with changeover := true }, flows := flows }
    (x.state = .armed → s.usesBinding target 0 name = true → x.forcedPending = false → c.k = true →
      becomes (spliceStep s k name c) fun flows =>
        { x with state := .splicing, switched := [0], cleanSplices := min (x.cleanSplices + 1) 4294967295,
                 timer := timer, flows := flows }) ∧
    (x.state = .armed → s.usesBinding target 0 name = true → x.forcedPending = true →
      becomes (spliceStep s k name c) fun flows =>
        { x with state := .splicing, switched := [0], forcedSplices := min (x.forcedSplices + 1) 4294967295,
                 timer := timer, changeFlag := true, changeCauses := { x.changeCauses with forced := true },
                 flows := flows }) ∧
    (x.state ≠ .armed ∨ s.usesBinding target 0 name = false ∨ x.forcedPending = false ∧ c.k = false →
      spliceStep s k name c = s) ∧
    (x.state = .splicing → c.s = true → js ≠ [] →
      becomes (switchStep s k name c) fun flows => { x with switched := x.switched ++ js, flows := flows }) ∧
    (x.state ≠ .splicing ∨ c.s = false ∨ js = [] → switchStep s k name c = s) ∧
    (x.state = .splicing → x.reviewPending = false → becomes (endSplice s k) ended) ∧
    (x.state = .splicing → x.reviewPending = true → ∃ u, becomes u ended ∧ endSplice s k = reviewSlot u k) ∧
    (s.resetHeld = false → ∀ tm, x.timer = some tm →
      (x.state = .armed → tm.span ≤ (s.clock - tm.start).toNat →
        exec (.changeoverTimeout k) s = .next (settledEvent s
          { s with slots := s.slots.modify k fun x => { x with forcedPending := true, timer := none } })) ∧
      (x.state = .splicing → tm.span ≤ (s.clock - tm.start).toNat →
        exec (.splicingTimeout k) s = .next (settledEvent s (endSplice s k))) ∧
      (x.state ≠ .armed ∨ (s.clock - tm.start).toNat < tm.span → exec (.changeoverTimeout k) s = .next s) ∧
      (x.state ≠ .splicing ∨ (s.clock - tm.start).toNat < tm.span → exec (.splicingTimeout k) s = .next s))) ∧
  ∀ (s : State) (c l : Nat) (list : List (Kind × Nat)) (timing : Option Nat) (before : Carriage), s.Shaped →
    s.CatalogueOrdered → s.carriage c = some before →
    let t := rebind s c l list timing
    t.componentCount c = list.length ∧ (∀ d, d ≠ c → t.componentCount d = s.componentCount d) ∧
    ∀ k < 128,
      let x := s.slot k
      let y := t.slot k
      let fed := fun (i : Nat) => (x.flows.getD i OutFlow.fresh).feed.map (·.carriage) = some c
      y = { x with flows := y.flows } ∧ y.flows.length = 6 ∧ ∀ i < 6,
        let f := x.flows.getD i OutFlow.fresh
        let g := y.flows.getD i OutFlow.fresh
        g.run = f.run ∧ g.feed = t.feedOf x i ∧
          (g.restart = true ↔ f.restart = true ∨ g.feed ≠ none ∧ g.feed ≠ f.feed ∨ fed i ∨
            (∃ j < 6, fed j) ∧ before.components.length ≤ i ∧ i < list.length)

/-- A cell offered on an output flow takes the flow's number, its run and its discontinuity mark, and the flow's run
counter advances whether the cell is kept or not; the cell is stored when the queue is below the effective capacity and
a buffer is free, and is otherwise dropped and counted (R138, R139, R152). A slot that a bound cell concerns takes it in
the four steps of R137: it may splice, it may switch (both stated apart), it is offered on every flow that its binding
then feeds, in flow order, and it ends SPLICING when every component of the target is switched. A bound cell is handed
to every slot in this way, in slot order, lowest first, and to nothing else. -/
def Obligations.OfferedCellsAreRenumberedAndStored : Prop :=
  ∀ (s : State) (k i base cap : Nat) (c : Machine.Cell), s.Shaped → k < 128 → i < 6 → (s.slot k).baseFlow = some base →
    s.effectiveCapacity (s.slot k) = some cap →
    let x := s.slot k
    let f := x.flows.getD i OutFlow.fresh
    let flows := x.flows.modify i fun f => { f with run := f.run + 1, restart := false }
    let sent : Machine.Cell := { c with flow := base + i, run := f.run, d := f.restart || c.d }
    (x.queue.length < cap → 0 < s.store.freeBuffers →
      offerOnFlow s k i c =
        { s with
          slots := s.slots.set k { x with flows := flows, queue := x.queue ++ [sent] }
          store := { s.store with freeBuffers := s.store.freeBuffers - 1 } }) ∧
    (cap ≤ x.queue.length ∨ s.store.freeBuffers = 0 →
      offerOnFlow s k i c =
        { s with slots :=
            s.slots.set k { x with flows := flows, overflows := min (x.overflows + 1) 4294967295 } }) ∧
    (∀ name : BindingName,
      let feeds := fun (u : State) (i : Nat) => ((u.slot k).flows.getD i OutFlow.fresh).feed.any fun f =>
        u.usesBinding f.carriage f.component name
      let concerned := (∃ i < 6, feeds s i = true) ∨
        ∃ target, x.target = some target ∧ ∃ j < s.componentCount target, s.usesBinding target j name = true
      let ready := switchStep (spliceStep s k name c) k name c
      let offered := ((List.range 6).filter (feeds ready)).foldl (fun t i => offerOnFlow t k i c) ready
      let done := (offered.slot k).state = .splicing ∧ ∃ target, (offered.slot k).target = some target ∧
        ∀ j < s.componentCount target, j ∈ (offered.slot k).switched
      (¬ concerned → slotTakesCell s k name c = s ∧ (forwardCell s name c).slot k = s.slot k) ∧
      (concerned → done → slotTakesCell s k name c = endSplice offered k) ∧
      (concerned → ¬ done → slotTakesCell s k name c = offered) ∧
      (x.state = .steady ∨ x.state = .dark → x.target = none →
        slotTakesCell s k name c = ((List.range 6).filter (feeds s)).foldl (fun t i => offerOnFlow t k i c) s)) ∧
    ∀ name : BindingName, forwardCell s name c = (List.range 128).foldl (fun t k => slotTakesCell t k name c) s

/-! ## Ranking and selection -/

/-- An evaluation's ranking (R107 to R109), best prospect (R119) and rank flag (R120, R121): the ranked list is the first
eight placed carriages by the four keys, the selectable count covers the whole order, the best prospect is the shelved
carriage of the highest prospect value, the lower entry first, and the two conditions add their causes. An act hands on
the services of R110; as it ends each of them is evaluated once and no other, as a scored window's when the act held one
(R111), and then each slot that names a service whose selection changed is reviewed, and no other (R123). -/
def Obligations.EvaluationsRankTheService : Prop :=
  (∀ (s : State) (v : Service) (scored : Option Nat), s.CatalogueOrdered →
    let u := s.evaluated v scored
    let placed := s.carriages.filter fun x => x.2.service = v.key && x.2.state.holdsBindings
    let rank : Carriage → Option Int := fun x => x.merit.map fun f => (f : Int) + (s.entry x.entry).bias
    let value : Carriage → Option Int := fun x => x.surveyFigure.map fun f => (f : Int) + (s.entry x.entry).bias
    let before := fun (a b : Nat × Carriage) =>
      (a.2.selectable = true ∧ b.2.selectable = false) ∨
      (a.2.selectable = b.2.selectable ∧
        ((∃ f : Int, rank a.2 = some f ∧ ∀ g : Int, rank b.2 = some g → g < f) ∨
          (rank a.2 = rank b.2 ∧ (a.2.entry < b.2.entry ∨ a.2.entry = b.2.entry ∧ a.1 < b.1))))
    let shelved := s.carriages.filter fun x =>
      x.2.service = v.key && decide (x.2.state = .shelved) && x.2.surveyFigure.isSome
    let count := placed.countP fun x => x.2.selectable
    u.rankedList.length = min 8 placed.length ∧ u.rankedList.Nodup ∧
    (∀ c ∈ u.rankedList, ∃ x ∈ placed, x.1 = c) ∧
    (∀ i j a b : Nat, u.rankedList[i]? = some a → u.rankedList[j]? = some b → i < j →
      ∃ x ∈ placed, ∃ y ∈ placed, x.1 = a ∧ y.1 = b ∧ before x y) ∧
    (∀ x ∈ placed, ∀ y ∈ placed, x.1 ∈ u.rankedList → y.1 ∉ u.rankedList → before x y) ∧
    u.selectableCount = count ∧
    (u.bestProspect = none ↔ shelved = []) ∧
    (∀ c, u.bestProspect = some c → ∃ x ∈ shelved, x.1 = c ∧ ∀ y ∈ shelved, y.1 ≠ c →
      ∃ f g : Int, value x.2 = some f ∧ value y.2 = some g ∧ (g < f ∨ g = f ∧ x.2.entry < y.2.entry)) ∧
    (u.prospectLead = true ↔ ∃ c x f, u.bestProspect = some c ∧ s.carriage c = some x ∧ x.surveyFigure = some f ∧
      ((u.selected = none ∧ s.policy.failThreshold ≤ f) ∨
        ∃ (d : Nat) (y : Carriage) (r : Int), u.selected = some d ∧ s.carriage d = some y ∧ rank y = some r ∧
          r + s.policy.switchMargin ≤ (f : Int) + (s.entry x.entry).bias)) ∧
    u.rankCauses.prospect = (v.rankCauses.prospect || (u.prospectLead && !v.prospectLead)) ∧
    u.rankCauses.lastCopy = (v.rankCauses.lastCopy ||
      (decide (0 < v.slotRefs) && decide (2 ≤ v.selectableCount) && decide (count = 1))) ∧
    u.rankFlag = (v.rankFlag || (u.prospectLead && !v.prospectLead) ||
      (decide (0 < v.slotRefs) && decide (2 ≤ v.selectableCount) && decide (count = 1)))) ∧
  (∀ s0 s : State, s.CatalogueOrdered → s.Shaped →
    let scored := fun (key : Key) => s.handed.findSome? fun h => if h.key = key then h.scored else none
    let u : State :=
      { s with
        handed := []
        services := s.services.map fun v =>
          if ∃ h ∈ s.handed, h.key = v.2.key then (v.1, s.evaluated v.2 (scored v.2.key)) else v }
    let selection := fun (t : State) (key : Key) => (t.service key).bind (·.selected)
    let changed := fun (key : Option Key) => ∃ k, key = some k ∧ selection s0 k ≠ selection u k
    evaluateHanded s = u ∧ closeAct s0 s = { u with slots := (closeAct s0 s).slots } ∧
    ∀ k < 128,
      (changed (s.slot k).primary ∨ changed (s.slot k).fallback →
        (closeAct s0 s).slot k = (reviewSlot u k).slot k) ∧
      (¬ (changed (s.slot k).primary ∨ changed (s.slot k).fallback) → (closeAct s0 s).slot k = s.slot k)) ∧
  ∀ (s : State) (i l : Nat) (x : Carriage), s.carriage i = some x →
    let handsOn := fun (t : State) => t.handed = s.handed ++ [{ key := x.service, scored := none }]
    handsOn (shelve s i) ∧ handsOn (removeCarriage s i) ∧ handsOn (stallCarriage s i) ∧ handsOn (clearStall s i) ∧
      handsOn (surveyCarriage s l i) ∧
      (scoreCarriage s l i).handed = s.handed ++ [{ key := x.service, scored := some i }] ∧
      ∀ down : Bool,
        (x.state = .probation ∨ x.state = .usable ∨ x.state = .faulted → handsOn (setLaneDown s i down)) ∧
        (¬ (x.state = .probation ∨ x.state = .usable ∨ x.state = .faulted) →
          (setLaneDown s i down).handed = s.handed)

/-- The four steps of selection (R112 to R115): a selectable pinned carriage is selected; failing it, a selection that
cannot stand is replaced by the best selectable carriage of the service that is not on a degraded lane, or by the best
of all when every one is, or by none; a challenger that leads by the switch margin is confirmed by scored windows of
its own alone; any other evaluation keeps or clears the candidate. -/
def Obligations.SelectionFollowsTheFourSteps : Prop :=
  (∀ (s : State) (v : Service) (scored : Option Nat), s.CatalogueOrdered →
    (∀ p x, v.pinned = some p → s.carriage p = some x → x.selectable = true →
      s.select v scored = { selected := some p, candidate := none, confirmCount := 0 }) ∧
    ((∀ p x, v.pinned = some p → s.carriage p = some x → x.selectable = false) →
      (∀ d x, v.selected = some d → s.carriage d = some x → x.selectable = false) →
      (s.select v scored).candidate = none ∧ (s.select v scored).confirmCount = 0 ∧
      ((s.select v scored).selected = none → ∀ y ∈ s.carriages, y.2.service = v.key → y.2.selectable = false) ∧
      ∀ d, (s.select v scored).selected = some d →
        ∃ x, s.carriage d = some x ∧ x.service = v.key ∧ x.selectable = true ∧
          ∀ y ∈ s.carriages, y.2.service = v.key → y.2.selectable = true → y.1 ≠ d →
            (s.onDegraded x = false ∧ s.onDegraded y.2 = true) ∨
              (s.onDegraded x = s.onDegraded y.2 ∧ s.ranksBefore (d, x) y = true))) ∧
  (∀ (s : State) (v : Service) (scored : Option Nat) (d t : Nat) (x y : Carriage),
    (∀ p z, v.pinned = some p → s.carriage p = some z → z.selectable = false) →
    v.selected = some d → s.carriage d = some x → x.selectable = true →
    (s.firstHealthy (s.rankOrder v.key) = none →
      s.select v scored = { selected := some d, candidate := none, confirmCount := 0 }) ∧
    (s.firstHealthy (s.rankOrder v.key) = some (t, y) →
      let leads := t ≠ d ∧ ∃ f g, x.merit = some f ∧ y.merit = some g ∧
        (f : Int) + (s.entry x.entry).bias + s.policy.switchMargin ≤ (g : Int) + (s.entry y.entry).bias
      let count := if v.candidate = some t then min (v.confirmCount + 1) 15 else 1
      (¬ leads → s.select v scored = { selected := some d, candidate := none, confirmCount := 0 }) ∧
      (leads → scored = some t → s.policy.confirmCount ≤ count →
        s.select v scored = { selected := some t, candidate := none, confirmCount := 0 }) ∧
      (leads → scored = some t → count < s.policy.confirmCount →
        s.select v scored = { selected := some d, candidate := some t, confirmCount := count }) ∧
      (leads → scored ≠ some t → v.candidate = some t →
        s.select v scored = { selected := some d, candidate := some t, confirmCount := v.confirmCount }) ∧
      (leads → scored ≠ some t → v.candidate ≠ some t →
        s.select v scored = { selected := some d, candidate := none, confirmCount := 0 })))

/-- PIN SERVICE: the pin is recorded, or cleared with its hold; a selectable pinned carriage is selected at once, and a
selection in force is otherwise kept, also when the pin that made it is cleared (R116); the reply carries the selection.
Its refusals, in their order. -/
def Obligations.PinServicePinsAndEvaluates : Prop :=
  ∀ (s : State) (args : List Byte) (c : Command) (rest : List Command),
    Offers s 0x0E args c rest → args.length = 6 →
    let key : Key := BitVec.ofNat 32 (numberAt args 0 4)
    let i := numberAt args 4 2
    (s.service key = none → exec .pinService s = .next (refusedWith s c rest .notFound)) ∧
    (∀ v, s.service key = some v →
      (i ≠ 0xFFFF → 1023 < i → exec .pinService s = .next (refusedWith s c rest .badIndex)) ∧
      (i ≤ 1023 → (∀ x, s.carriage i = some x → x.service ≠ key) →
        exec .pinService s = .next (refusedWith s c rest .notFound)) ∧
      (s.RankingLawful → ∀ x, i ≤ 1023 → s.carriage i = some x → x.service = key →
        ∃ t v', exec .pinService s = .next t ∧ t.service key = some v' ∧ v'.pinned = some i ∧
          (x.state = .usable → x.laneDown = false → x.stalled = false →
            v'.selected = some i ∧ v'.candidate = none ∧ v'.confirmCount = 0) ∧
          (x.selectable = false → ∀ d, v.selected = some d → v'.selected = some d) ∧
          (∀ k, k ≠ key → t.service k = s.service k) ∧
          t.store.controlQueue = s.store.controlQueue ++
            [replyCell s c .done (bytesOf 2 (v'.selected.getD 0xFFFF))]) ∧
      (s.RankingLawful → i = 0xFFFF →
        (0 < v.slotRefs ∨ (∃ x ∈ s.carriages, x.2.service = key) ∨ some key ∈ s.watch) →
        ∃ t v', exec .pinService s = .next t ∧ t.service key = some v' ∧ v'.pinned = none ∧
          (∀ d, v.selected = some d → v'.selected = some d) ∧
          (∀ k, k ≠ key → t.service k = s.service k) ∧
          t.store.controlQueue = s.store.controlQueue ++
            [replyCell s c .done (bytesOf 2 (v'.selected.getD 0xFFFF))]) ∧
      (s.RankingLawful → i = 0xFFFF → v.slotRefs = 0 → (∀ x ∈ s.carriages, x.2.service ≠ key) →
        some key ∉ s.watch →
        ∃ t, exec .pinService s = .next t ∧ t.service key = none ∧
          t.store.controlQueue = s.store.controlQueue ++ [replyCell s c .done [0xFF#8, 0xFF#8]]))

/-! ## Reading commands, and commands on carriages -/

/-- The five reads of one record place its snapshot in the result and then make the changes of R173 and no others; FLUSH
CARRIAGE reports as READ CARRIAGE does and then clears the merit, the fault score, its peak and the last window, and
nothing else (R179). The layouts of the results are those of `laneReport` and its fellows (log 9, log 10). -/
def Obligations.ReadsReportOneRecordAndClearWhatTheyShow : Prop :=
  ∀ (s : State) (args : List Byte) (c : Command) (rest : List Command),
    (Offers s 0x11 args c rest → args.length = 1 → byteAt args 0 ≤ 16 →
      exec .readLane s = .next (concluded s
        { s with lanes := s.lanes.modify (byteAt args 0) fun n =>
            if n.laneFlag then { n with laneFlag := false, flagCauses := LaneCauses.empty } else n } c rest .done
        (laneReport (s.lane (byteAt args 0))))) ∧
    (Offers s 0x12 args c rest → args.length = 1 → byteAt args 0 ≤ 63 →
      exec .readPlanEntry s = .next (concluded s s c rest .done (planReport s (byteAt args 0)))) ∧
    (Offers s 0x13 args c rest → args.length = 4 → ∀ v, s.service (BitVec.ofNat 32 (numberAt args 0 4)) = some v →
      exec .readService s = .next (concluded s
        { s with services := s.services.map fun x =>
            if x.2.key = BitVec.ofNat 32 (numberAt args 0 4) ∧ x.2.rankFlag = true
            then (x.1, { x.2 with rankFlag := false, rankCauses := RankCauses.empty }) else x } c rest .done
        (serviceReport s v))) ∧
    (Offers s 0x14 args c rest → args.length = 2 → numberAt args 0 2 ≤ 1023 →
      ∀ x, s.carriage (numberAt args 0 2) = some x →
      exec .readCarriage s = .next (concluded s
        { s with carriages := s.carriages.map fun y =>
            if y.1 = numberAt args 0 2 then (y.1, { y.2 with peakFault := y.2.faultScore }) else y } c rest .done
        (carriageReport s x))) ∧
    (Offers s 0x16 args c rest → args.length = 2 → numberAt args 0 2 ≤ 1023 →
      ∀ x, s.carriage (numberAt args 0 2) = some x →
      exec .flushCarriage s = .next (concluded s
        { s with carriages := s.carriages.map fun y =>
            if y.1 = numberAt args 0 2
            then (y.1, { y.2 with merit := none, faultScore := 0, peakFault := 0, lastWindow := none }) else y } c
        rest .done (carriageReport s x))) ∧
    (Offers s 0x15 args c rest → args.length = 1 → byteAt args 0 ≤ 127 →
      exec .readSlot s = .next (concluded s
        { s with slots := s.slots.modify (byteAt args 0) fun k =>
            if k.changeFlag then { k with changeFlag := false, changeCauses := SlotCauses.empty } else k } c rest .done
        (slotReport s (s.slot (byteAt args 0)))))

/-- The due set, and the owed notice that follows it at the end of every act (R184, R185). NOTICE_PLACED places the owed
notice when the control queue has room. READ NOTICES reports the pending set, the highest pending class, the mask, the owed notice and the three counters,
and clears the counters alone; READ DISCOVERY LOG returns up to eight of the oldest records, their number, the number
left, the overflow flag and the watch-seen map, removes those records and clears the flag and the map. THE MODEL'S
CHOICE: the due set is compared over a whole act (log 13); a notice that is not owed, or has no room, is not placed
(log 2); the highest pending class of READ NOTICES is written as 0 when no class is pending (log 11); and the layouts of
the results (log 9). -/
def Obligations.NoticesAndTheLogAreReadAndCleared : Prop :=
  ∀ (s : State) (c : Command) (rest : List Command),
    (Offers s 0x18 [] c rest →
      let lane := s.lanes.any (·.laneFlag)
      let onAir := s.slots.any (·.changeFlag)
      let rank := s.services.any (·.2.rankFlag)
      let discovery := !s.mgmt.log.isEmpty
      let mask := s.output.mask
      exec .readNotices s = .next (concluded s
        { s with
          mgmt := { s.mgmt with badCheck := 0, dropped := 0 }
          store := { s.store with directorySkips := 0 } } c rest .done
        (bytesOf 1 (lane.toNat + 2 * onAir.toNat + 4 * rank.toNat + 8 * discovery.toNat) ++
          bytesOf 1 (if lane then 1 else if onAir then 2 else if rank then 3 else if discovery then 4 else 0) ++
          bytesOf 1 (mask.lane.toNat + 2 * mask.onAir.toNat + 4 * mask.rank.toNat + 8 * mask.discovery.toNat) ++
          bytesOf 1 s.mgmt.owed.toNat ++ bytesOf 4 s.mgmt.badCheck ++ bytesOf 4 s.mgmt.dropped ++
          bytesOf 4 s.store.directorySkips))) ∧
    (Offers s 0x19 [] c rest →
      exec .readDiscoveryLog s = .next (concluded s
        { s with
          mgmt := { s.mgmt with log := s.mgmt.log.drop 8, overflow := false }
          watchSeen := s.watchSeen.map fun _ => false } c rest .done
        (((s.mgmt.log.take 8).map recordReport).flatten ++ bytesOf 1 (min 8 s.mgmt.log.length) ++
          bytesOf 1 (s.mgmt.log.length - 8) ++ bytesOf 1 s.mgmt.overflow.toNat ++
          bytesOf 4 (((List.range 32).map fun i => if s.watchSeen.getD i false then 2 ^ i else 0).sum)))) ∧
    (s.resetHeld = false →
      let lane := s.lanes.any (·.laneFlag)
      let onAir := s.slots.any (·.changeFlag)
      let rank := s.services.any (·.2.rankFlag)
      let discovery := !s.mgmt.log.isEmpty
      (s.mgmt.owed = true → s.store.controlQueue.length < 64 → exec .noticePlaced s = .next
        { s with
          mgmt := { s.mgmt with owed := false }
          store := { s.store with
            controlQueue := s.store.controlQueue ++
              [{ address := BitVec.ofNat 8 s.mgmt.unitAddress, tag := 0, code := 0x80, status := .done
                 result := bytesOf 1 (lane.toNat + 2 * onAir.toNat + 4 * rank.toNat + 8 * discovery.toNat) ++
                   bytesOf 1 (if lane then 1 else if onAir then 2 else if rank then 3 else if discovery then 4
                     else 0) }] } }) ∧
      (s.mgmt.owed = false ∨ 64 ≤ s.store.controlQueue.length → exec .noticePlaced s = .next s)) ∧
    s.dueSet =
      { lane := s.lanes.any (·.laneFlag) && !s.output.mask.lane
        onAir := s.slots.any (·.changeFlag) && !s.output.mask.onAir
        rank := s.services.any (·.2.rankFlag) && !s.output.mask.rank
        discovery := !s.mgmt.log.isEmpty && !s.output.mask.discovery } ∧
    (∀ (a b : NoticeSet) (owed : Bool),
      (b = NoticeSet.empty → owedAfter a b owed = false) ∧
      ((a.lane = false ∧ b.lane = true ∨ a.onAir = false ∧ b.onAir = true ∨ a.rank = false ∧ b.rank = true ∨
          a.discovery = false ∧ b.discovery = true) → owedAfter a b owed = true) ∧
      (b ≠ NoticeSet.empty → (b.lane = true → a.lane = true) → (b.onAir = true → a.onAir = true) →
        (b.rank = true → a.rank = true) → (b.discovery = true → a.discovery = true) → owedAfter a b owed = owed))

/-- LIST SERVICES and LIST CARRIAGES list up to sixteen records in use from the starting index on, in index order, with
their number and the next index, and change nothing (R177, R178). -/
def Obligations.ListsShowSixteenRecords : Prop :=
  ∀ (s : State) (args : List Byte) (c : Command) (rest : List Command),
    (Offers s 0x1A args c rest → args.length = 2 → numberAt args 0 2 ≤ 511 →
      let listed := (s.services.filter fun x => decide (numberAt args 0 2 ≤ x.1)).take 16
      let next := (listed.getLast?.filter fun x => s.services.any fun y => decide (x.1 < y.1)).map fun x => x.1 + 1
      exec .listServices s = .next (concluded s s c rest .done
        ((listed.map fun x => bytesOf 2 x.1 ++ bytesOf 4 x.2.key.toNat ++ bytesOf 2 (x.2.selected.getD 0xFFFF)).flatten
          ++ bytesOf 1 listed.length ++ bytesOf 2 (next.getD 0xFFFF)))) ∧
    (Offers s 0x1B args c rest → args.length = 3 → numberAt args 0 2 ≤ 1023 →
      byteAt args 2 ≤ 63 ∨ byteAt args 2 = 0xFF →
      let named := s.carriages.filter fun x => decide (byteAt args 2 = 0xFF) || decide (x.2.entry = byteAt args 2)
      let listed := (named.filter fun x => decide (numberAt args 0 2 ≤ x.1)).take 16
      let next := (listed.getLast?.filter fun x => named.any fun y => decide (x.1 < y.1)).map fun x => x.1 + 1
      exec .listCarriages s = .next (concluded s s c rest .done
        ((listed.map fun x =>
            bytesOf 2 x.1 ++ bytesOf 1 x.2.entry ++ bytesOf 4 x.2.service.toNat ++ bytesOf 1 x.2.state.code).flatten
          ++ bytesOf 1 listed.length ++ bytesOf 2 (next.getD 0xFFFF))))

/-- FORGET CARRIAGE on a carriage that is neither its service's selected carriage nor a slot's target removes it, and
with it every reference to it in its service and its place on air, and writes no discovery record. -/
def Obligations.ForgetCarriageRemovesIt : Prop :=
  ∀ (s : State) (args : List Byte) (c : Command) (rest : List Command) (x : Carriage),
    Offers s 0x17 args c rest → args.length = 2 → s.RankingLawful → s.SlotsLawful → s.Shaped →
    let i := numberAt args 0 2
    i ≤ 1023 → s.carriage i = some x → (∀ v, s.service x.service = some v → v.selected ≠ some i) →
    (∀ k ∈ s.slots, k.state = .armed ∨ k.state = .splicing → k.target ≠ some i) →
    ∃ t, exec .forgetCarriage s = .next t ∧ (t.carriages = s.carriages.filter fun y => decide (y.1 ≠ i)) ∧
      (∀ v, t.service x.service = some v → i ∉ v.rankedList ∧ v.selected ≠ some i ∧ v.candidate ≠ some i ∧
        v.pinned ≠ some i ∧ v.bestProspect ≠ some i) ∧
      (∀ key, key ≠ x.service → t.service key = s.service key) ∧
      (∀ k ∈ t.slots, k.onAir ≠ some i) ∧ t.mgmt.log = s.mgmt.log ∧
      t.store.controlQueue = s.store.controlQueue ++
        [replyCell s c .done (bytesOf 1 x.entry ++ bytesOf 4 x.service.toNat)]

/-! ## Cells -/

/-- A cell that arrives is counted, and then: fails its header check; is discarded or taken for its status on an idle
lane; is counted as void, unexpected or unbound on a lane that dispatches by flow; or is discarded on a roving lane
outside its dwell. That a void cell on an idle lane raises the idle counter alone is THE MODEL'S CHOICE (log 40). -/
def Obligations.ArrivingCellsAreSortedAndCounted : Prop :=
  ∀ (s : State) (l : Nat) (bs : List Byte), s.resetHeld = false → s.Settled → l ≤ 16 → bs.length = 160 →
    let flow := byteAt bs 0 * 16 + byteAt bs 1 / 16
    let n := s.lane l
    let dispatching := n.mode = .parked ∨ n.mode = .roving ∧ n.visitState = some .dwelling
    let arrived := fun (f : Lane → Lane) => settledEvent s
      { s with
        lanes := s.lanes.modify l fun n =>
          f { n with counters := { n.counters with received := min (n.counters.received + 1) 4294967295 } } }
    let counted := fun (f : LaneCounters → LaneCounters) => arrived fun n => { n with counters := f n.counters }
    (headerCheck (bs.take 7) ≠ bs.getD 7 0 →
      exec (.cellArrival l bs) s = .next (arrived fun n =>
        { n with
          headerErrorSeen := true
          counters := { n.counters with headerError := min (n.counters.headerError + 1) 4294967295 } })) ∧
    (headerCheck (bs.take 7) = bs.getD 7 0 →
      (n.mode = .idle → flow ≠ 4094 → exec (.cellArrival l bs) s =
        .next (counted fun k => { k with idle := min (k.idle + 1) 4294967295 })) ∧
      (n.mode = .idle → flow = 4094 → exec (.cellArrival l bs) s = .next (arrived fun n =>
        { n with
          lastStatusTime := some s.clock
          latestLevel := if (byteAt bs 2).testBit 3 then n.latestLevel else some (bs.getD 11 0).toInt
          counters := { n.counters with
            status := min (n.counters.status + 1) 4294967295
            uncorrected := if (byteAt bs 2).testBit 3 then n.counters.uncorrected
              else min (n.counters.uncorrected + numberAt bs 12 2) 4294967295 } })) ∧
      (dispatching → flow = 4095 → exec (.cellArrival l bs) s =
        .next (counted fun k => { k with void := min (k.void + 1) 4294967295 })) ∧
      (dispatching → 4032 ≤ flow → flow ≠ 4095 → flow ≠ 4064 → (flow = 4094 → l = 16) → (flow = 4080 → l < 16) →
        exec (.cellArrival l bs) s =
          .next (counted fun k => { k with unexpected := min (k.unexpected + 1) 4294967295 })) ∧
      (dispatching → flow < 4032 → s.binding l flow = none → exec (.cellArrival l bs) s =
        .next (counted fun k => { k with unbound := min (k.unbound + 1) 4294967295 })) ∧
      (n.mode = .roving → n.visitState ≠ some .dwelling → flow ≠ 4094 →
        exec (.cellArrival l bs) s = .next (arrived id)))

/-- A cell on a binding's lane and flow: a duplicate is counted and goes no further; any other is accepted, its gap,
error mark, time and stamp taken into the binding, every stall it ends cleared, and handed to the slots. Every carriage
whose primary component uses the binding notes that its last cell is now later than its bind (log 39). Every stall
that ends hands its carriage's service on, and the evaluations come after the cell was handed to the slots (log 12). -/
def Obligations.BoundCellsAreCheckedCountedAndPaired : Prop :=
  ∀ (s : State) (l : Nat) (bs : List Byte) (b : Binding), s.resetHeld = false → s.Settled → s.CatalogueOrdered →
    l ≤ 16 → bs.length = 160 → headerPasses bs = true →
    let c := readCell bs
    let name : BindingName := { lane := l, flow := c.flow }
    let lanes := s.lanes.modify l fun n =>
      { n with counters := { n.counters with received := min (n.counters.received + 1) 4294967295 } }
    let gap := match b.expectedRun with
      | none => 0
      | some x => if c.d then 0 else (c.run - x).toNat
    let deviation : Binding → Option Nat := fun y => match y.pairing with
      | none => none
      | some p =>
        let ds := (c.stamp - p.stamp).toNat
        let dc := (s.clock - p.arrival).toNat
        if c.t = false ∨ c.d = true ∨ 1000000 < dc then none
        else if 2 ^ 31 ≤ ds ∨ 2 ^ 31 ≤ dc then some 65535
        else some (min 65535 (max ds dc - min ds dc))
    let bindings := s.bindings.map fun y =>
      if y.name = name then
        { y with
          n := min (y.n + 1) 16777215
          g := min (y.g + gap) 16777215
          x := if c.e then min (y.x + 1) 16777215 else y.x
          expectedRun := some (c.run + 1)
          lastCellTime := s.clock
          pairing := if c.t then some { stamp := c.stamp, arrival := s.clock } else y.pairing
          peakJ := max y.peakJ ((deviation y).getD 0)
          deviationSeen := y.deviationSeen || (deviation y).isSome }
      else y
    let hears := fun (x : Carriage) => decide ((x.components.head?.bind (·.binding)) = some name)
    let carriages := s.carriages.map fun x =>
      if hears x.2 then (x.1, { x.2 with stalled := false, heard := true }) else x
    c.flow < 4032 → s.binding l c.flow = some b →
    (s.lane l).mode = .parked ∨ (s.lane l).mode = .roving ∧ (s.lane l).visitState = some .dwelling →
    (c.d = false → b.expectedRun = some (c.run + 1) →
      exec (.cellArrival l bs) s = .next (settledEvent s
        { s with
          lanes := lanes.modify l fun n =>
            { n with counters := { n.counters with duplicate := min (n.counters.duplicate + 1) 4294967295 } }
          bindings := s.bindings.map fun y =>
            if y.name = name then { y with duplicates := min (y.duplicates + 1) 16777215 } else y })) ∧
    (c.d = true ∨ b.expectedRun ≠ some (c.run + 1) →
      (∃ t, exec (.cellArrival l bs) s = .next t ∧ t.lanes = lanes ∧ t.bindings = bindings ∧
        t.carriages = carriages) ∧
      ((∀ x ∈ s.carriages, hears x.2 = true → x.2.stalled = false) →
        exec (.cellArrival l bs) s = .next (settledEvent s
          (forwardCell { s with lanes := lanes, bindings := bindings, carriages := carriages } name c))) ∧
      exec (.cellArrival l bs) s = .next (settledEvent s (closeAct s
        (forwardCell
          { s with
            lanes := lanes, bindings := bindings, carriages := carriages
            handed := (s.carriages.filter fun x => hears x.2 && x.2.stalled).map fun x =>
              { key := x.2.service, scored := none } } name c))))

/-- A status cell on a parked feed lane: what every status cell does, the three ways its tag is taken, the lane's move
by the table of R36, and the lane-down flags that follow. What an E-marked status cell does is THE MODEL'S CHOICE
(log 17). -/
def Obligations.ParkedLanesFollowStatusCells : Prop :=
  ∀ (s : State) (l e : Nat) (word : BitVec 64) (bs : List Byte), s.resetHeld = false → s.Settled → s.Shaped →
    s.CatalogueOrdered → l < 16 → bs.length = 160 → headerPasses bs = true → (readCell bs).flow = 4094 →
    (s.lane l).mode = .parked → (s.lane l).entry = some e → (s.entry e).tuningWord = some word →
    let n := s.lane l
    let r := readStatus (readCell bs).payload
    let lock : Option Timer := some { start := s.clock, span := 1000 * s.survey.lockTimeout }
    let base : Lane :=
      { n with
        lastStatusTime := some s.clock, windowStatusCount := min (n.windowStatusCount + 1) 65535
        silenceTimer := some { start := s.clock, span := 3000 * n.statusInterval }
        counters := { n.counters with
          received := min (n.counters.received + 1) 4294967295, status := min (n.counters.status + 1) 4294967295 } }
    let m : Lane :=
      { base with
        latestLevel := some r.level, uncorrectedSeen := n.uncorrectedSeen || decide (0 < r.uncorrected)
        counters := { base.counters with
          uncorrected := min (n.counters.uncorrected + r.uncorrected) 4294967295 } }
    let p : Lane := { m with acknowledged := true, latestMargin := some r.margin, windowMargin := some r.margin }
    let restart := r.tag = 0 ∧ n.acknowledged = true
    let becomes := fun (n' : Lane) => ∃ t, exec (.cellArrival l bs) s = .next t ∧ t.lanes = s.lanes.set l n' ∧
      t.entries = s.entries ∧ t.bindings = s.bindings ∧
      t.carriages = s.carriages.map fun x =>
        if x.2.lane = some l ∧ x.2.state ≠ .shelved ∧ x.2.state ≠ .survey ∧
          ¬ (n.parkedState = some .locked ↔ n'.parkedState = some .locked) then
          (x.1, { x.2 with laneDown := decide (n'.parkedState ≠ some .locked) })
        else x
    ((readCell bs).e = true →
      exec (.cellArrival l bs) s = .next (settledEvent s { s with lanes := s.lanes.set l base })) ∧
    ((readCell bs).e = false →
      (restart → becomes
        { m with
          counters := { received := 0, headerError := 0, void := 0, unexpected := 0, unbound := 0, idle := 0,
                        duplicate := 0, status := 0, stale := 0, uncorrected := 0, resends := 0 }
          laneFlag := true, flagCauses := { n.flagCauses with restart := true }
          parkedState := some .await, lockTimer := lock
          pendingOrder := some { kind := .tune, tag := n.tagCounter, word := word }
          tagCounter := tagAfter n.tagCounter, currentTag := some n.tagCounter, acknowledged := false
          asm := { n.asm with capturing := false, cellsHeld := 0, bytesHeld := 0, declaredLength := none,
                              nextRun := none, held := [], firstPending := true } }) ∧
      (¬ restart → n.currentTag = some r.tag → r.lock = 2 →
        becomes { p with parkedState := some .locked, lockTimer := none }) ∧
      (¬ restart → n.currentTag = some r.tag → r.lock ≠ 2 → becomes
        { p with
          parkedState := some .unlocked
          lockTimer := if n.parkedState = some .locked ∨ n.parkedState = some .silent then lock else n.lockTimer
          laneFlag := n.laneFlag || decide (n.parkedState ≠ some .unlocked)
          flagCauses := { n.flagCauses with
            unlocked := n.flagCauses.unlocked || decide (n.parkedState ≠ some .unlocked) } }) ∧
      (¬ restart → n.currentTag ≠ some r.tag → becomes
        { m with
          counters := { m.counters with stale := min (n.counters.stale + 1) 4294967295 }
          parkedState := if n.parkedState = some .silent then some .await else n.parkedState
          lockTimer := if n.parkedState = some .silent then lock else n.lockTimer }))

/-- A status cell on a roving lane. With its E mark set it is counted, restarts the silence timer and gives nothing else
(THE MODEL'S CHOICE, log 17). On a paused lane it is stale. On a lane that visits an entry: lock in tuning takes the
visit on; a loss of lock in settling or dwelling ends it with NO-LOCK; a front-end restart abandons it; a stale cell is
counted, and as late when its tag is above 0; and in every other case the cell's counts and margins alone are taken. A
lane whose visit ends makes its next claim. -/
def Obligations.VisitsFollowStatusCells : Prop :=
  ∀ (s : State) (l : Nat) (rv : Rover) (bs : List Byte), s.resetHeld = false → s.Settled → s.Shaped →
    s.CatalogueOrdered → s.TenancyLawful → l < 16 → bs.length = 160 → headerPasses bs = true →
    (readCell bs).flow = 4094 → (s.lane l).mode = .roving → (s.lane l).rover = some rv →
    let n := s.lane l
    let r := readStatus (readCell bs).payload
    let base : Lane :=
      { n with
        lastStatusTime := some s.clock, windowStatusCount := min (n.windowStatusCount + 1) 65535
        silenceTimer := some { start := s.clock, span := 3000 * n.statusInterval }
        counters := { n.counters with
          received := min (n.counters.received + 1) 4294967295, status := min (n.counters.status + 1) 4294967295 } }
    let m : Lane :=
      { base with
        latestLevel := some r.level, uncorrectedSeen := n.uncorrectedSeen || decide (0 < r.uncorrected)
        counters := { base.counters with
          uncorrected := min (n.counters.uncorrected + r.uncorrected) 4294967295 } }
    let p : Lane := { m with acknowledged := true, latestMargin := some r.margin, windowMargin := some r.margin }
    let stale : Lane :=
      { m with
        counters := { m.counters with stale := min (n.counters.stale + 1) 4294967295 }
        rover := some { rv with late := if 0 < r.tag then min (rv.late + 1) 4294967295 else rv.late } }
    let restart := r.tag = 0 ∧ n.acknowledged = true
    let current := ¬ restart ∧ n.currentTag = some r.tag
    let measuring := rv.visitState = .settling ∨ rv.visitState = .dwelling
    let becomes := fun (n' : Lane) =>
      exec (.cellArrival l bs) s = .next (settledEvent s { s with lanes := s.lanes.set l n' })
    ((readCell bs).e = true → becomes base) ∧
    ((readCell bs).e = false → rv.visitState = .paused → becomes stale) ∧
    ((readCell bs).e = false → ∀ e, rv.claimedEntry = some e →
      (current → r.lock = 2 → rv.visitState = .tuning → 0 < s.survey.settleTime → becomes
        { p with rover := some { rv with
            visitState := .settling, visitTimer := some { start := s.clock, span := 1000 * s.survey.settleTime } } }) ∧
      (current → r.lock = 2 → rv.visitState = .tuning → s.survey.settleTime = 0 → becomes
        { p with
          windowMargin := none
          asm := { n.asm with capturing := false, cellsHeld := 0, bytesHeld := 0, declaredLength := none,
                              nextRun := none, held := [], firstPending := true }
          rover := some { rv with
            visitState := .dwelling, visitTimer := some { start := s.clock, span := 1000 * s.survey.dwellTime }
            directoryTaken := false, dwellServiceCount := 0 } }) ∧
      (current → (r.lock = 2 → rv.visitState ≠ .tuning) → (r.lock ≠ 2 → ¬ measuring) → becomes p) ∧
      (current → r.lock ≠ 2 → measuring → ∃ t, exec (.cellArrival l bs) s = .next t ∧
        (t.entry e).surveyOutcome = .noLock ∧ (t.entry e).surveyTime = some s.clock ∧
        (t.entry e).surveyMargin = none ∧ (t.entry e).serviceCount = 0 ∧
        (∀ x ∈ s.carriages, t.carriage x.1 = some (x.2.leftBy n)) ∧
        s.ClaimsNext t l ∧ ∃ rv', (t.lane l).rover = some rv' ∧ rv'.noLock = min (rv.noLock + 1) 4294967295) ∧
      (restart → ∃ t, exec (.cellArrival l bs) s = .next t ∧
        (t.entry e).surveyOutcome = (s.entry e).surveyOutcome ∧ (t.entry e).surveyTime = (s.entry e).surveyTime ∧
        (t.entry e).surveyMargin = (s.entry e).surveyMargin ∧ (t.entry e).serviceCount = (s.entry e).serviceCount ∧
        (∀ x ∈ s.carriages, t.carriage x.1 = some (x.2.leftBy n)) ∧
        (t.lane l).laneFlag = true ∧ (t.lane l).flagCauses = { n.flagCauses with restart := true } ∧
        s.ClaimsNext t l ∧ ∃ rv', (t.lane l).rover = some rv' ∧ rv'.abandoned = min (rv.abandoned + 1) 4294967295) ∧
      (¬ restart → n.currentTag ≠ some r.tag → becomes stale))

/-- The checks of R166 on a management cell of the house lane, in their order: a cell for another unit is discarded
without count; an E-marked or damaged one is counted in *bad-check*; one that finds the input queue full is counted in
*dropped*; and any other joins the queue. *restart waiting* is set when RESTART then stands at the head while the
control queue holds a cell (R181; when that is found is THE MODEL'S CHOICE, log 24). -/
def Obligations.CommandCellsAreAdmitted : Prop :=
  ∀ (s : State) (bs : List Byte), s.resetHeld = false → s.Settled → bs.length = 160 → headerPasses bs = true →
    (readCell bs).flow = 4080 → (s.lane 16).mode = .parked →
    let u := s.mgmt
    let a := byteAt bs 12
    let body := slice bs 8 (5 + a)
    let sound := a ≤ 140 ∧ messageCrc body = BitVec.ofNat 16 (numberAt bs (13 + a) 2)
    let command : Command := { tag := BitVec.ofNat 16 (numberAt bs 9 2), code := bs.getD 11 0, args := slice bs 13 a }
    let queue := u.inputQueue ++ [command]
    let leaves := fun (m : Management) => exec (.cellArrival 16 bs) s = .next (settledEvent s
      { s with
        mgmt := m
        lanes := s.lanes.modify 16 fun n =>
          { n with counters := { n.counters with received := min (n.counters.received + 1) 4294967295 } } })
    (byteAt bs 8 ≠ u.unitAddress → leaves u) ∧
    (byteAt bs 8 = u.unitAddress → (readCell bs).e = true ∨ ¬ sound →
      leaves { u with badCheck := min (u.badCheck + 1) 4294967295 }) ∧
    (byteAt bs 8 = u.unitAddress → (readCell bs).e = false → sound → 16 ≤ u.inputQueue.length →
      leaves { u with dropped := min (u.dropped + 1) 4294967295 }) ∧
    (byteAt bs 8 = u.unitAddress → (readCell bs).e = false → sound → u.inputQueue.length < 16 →
      leaves { u with
        inputQueue := queue
        restartWaiting := u.restartWaiting ||
          ((queue.head?.map fun c => decide (c.code = 0x01#8 ∧ c.args = [])).getD false &&
            !s.store.controlQueue.isEmpty) })

/-! ## Directories -/

/-- What is written by the formats of chapter 12 reads back: every cell, every bit of it but the spare one; and of every
directory message whose services meet the ten checks all but the channel numbers, which the part does not read (R196). -/
def Obligations.CellsAndDirectoriesReadBack : Prop :=
  (∀ c : Machine.Cell, c.flow < 4096 → c.payload.length = 152 →
    (cellToBytes c).length = 160 ∧ headerPasses (cellToBytes c) = true ∧ readCell (cellToBytes c) = c) ∧
  (∀ (id : BitVec 16) (version : Nat) (es : List LineupEntry), version < 32 → es.length ≤ 48 →
    (es.map (·.key)).Nodup →
    (∀ v ∈ es, v.name.length ≤ 24 ∧ (∀ b ∈ v.name, 0x20 ≤ b.toNat ∧ b.toNat ≤ 0x7E) ∧
      1 ≤ v.components.length ∧ v.components.length ≤ 6 ∧ (∀ d ∈ v.components, d.2 < 4032) ∧
      (v.components.map Prod.snd).Nodup ∧ ∀ t, v.timing = some t → t < v.components.length) →
    validate (sectionMessage id version 0 0 es) = .ok
      { multiplexId := id, version := version
        services := es.map fun v =>
          { key := v.key, name := v.name, components := v.components, timing := v.timing } })

/-- The checks of R53 in their order, each with its cause when those before it pass, and the message read from the bytes
when all ten pass. `entryStart msg i` is the place of the first byte of service entry `i`. -/
def Obligations.DirectoriesAreValidated : Prop :=
  ∀ msg : List Byte,
    let len := msg.length
    let intact := messageCrc (msg.take (len - 2)) = BitVec.ofNat 16 (numberAt msg (len - 2) 2)
    let count := byteAt msg 5
    let start := entryStart msg
    let key := fun (i : Nat) => numberAt msg (start i) 4
    let name := fun (i : Nat) => slice msg (start i + 7) (byteAt msg (start i + 6))
    let parts := fun (i : Nat) => byteAt msg (start i + 7 + byteAt msg (start i + 6))
    let timing := fun (i : Nat) => byteAt msg (start i + 8 + byteAt msg (start i + 6))
    let word := fun (i j : Nat) => numberAt msg (start i + 9 + byteAt msg (start i + 6) + 2 * j) 2
    let header := 10 ≤ len ∧ intact ∧ byteAt msg 3 = 0 ∧ byteAt msg 4 = 0 ∧ count ≤ 48
    let check4 := start count + 2 = len
    let check5 := ∀ i < count, 1 ≤ parts i ∧ parts i ≤ 6
    let check6 := ∀ i < count, ∀ j < parts i, word i j % 4096 < 4032
    let check7 := ∀ i < count, (name i).length ≤ 24 ∧ ∀ b ∈ name i, 0x20 ≤ b.toNat ∧ b.toNat ≤ 0x7E
    let check8 := ∀ i < count, ∀ j < i, key j ≠ key i
    let check9 := ∀ i < count, ∀ j < parts i, ∀ k < j, word i k % 4096 ≠ word i j % 4096
    let check10 := ∀ i < count, timing i = 0xFF ∨ timing i < parts i
    (∀ m, validate msg = .ok m →
      10 ≤ len ∧ intact ∧ byteAt msg 3 = 0 ∧ byteAt msg 4 = 0 ∧ byteAt msg 5 ≤ 48 ∧
      m.services.length = byteAt msg 5 ∧ m.multiplexId = BitVec.ofNat 16 (numberAt msg 0 2) ∧
      m.version = byteAt msg 2 % 32 ∧ (m.services.map (·.key)).Nodup ∧
      (m.services.map fun v => 9 + v.name.length + 2 * v.components.length).sum + 10 = len ∧
      ∀ v ∈ m.services, (1 ≤ v.components.length ∧ v.components.length ≤ 6) ∧
        (∀ d ∈ v.components, d.2 < 4032) ∧ v.name.length ≤ 24 ∧
        (∀ b ∈ v.name, 0x20 ≤ b.toNat ∧ b.toNat ≤ 0x7E) ∧ (v.components.map Prod.snd).Nodup ∧
        ∀ t, v.timing = some t → t < v.components.length) ∧
    (len < 10 → validate msg = .error .badLength) ∧
    (10 ≤ len → ¬ intact → validate msg = .error .badCheck) ∧
    (10 ≤ len → intact → byteAt msg 3 ≠ 0 ∨ byteAt msg 4 ≠ 0 → validate msg = .error .badSection) ∧
    (10 ≤ len → intact → byteAt msg 3 = 0 → byteAt msg 4 = 0 → 48 < count → validate msg = .error .badCount) ∧
    (header → ¬ check4 → validate msg = .error .badLength) ∧
    (header → check4 → ¬ check5 → validate msg = .error .badComponents) ∧
    (header → check4 → check5 → ¬ check6 → validate msg = .error .badFlow) ∧
    (header → check4 → check5 → check6 → ¬ check7 → validate msg = .error .badName) ∧
    (header → check4 → check5 → check6 → check7 → ¬ check8 → validate msg = .error .duplicateKey) ∧
    (header → check4 → check5 → check6 → check7 → check8 → ¬ check9 → validate msg = .error .duplicateFlow) ∧
    (header → check4 → check5 → check6 → check7 → check8 → check9 → ¬ check10 → validate msg = .error .badTiming) ∧
    (header → check4 → check5 → check6 → check7 → check8 → check9 → check10 → validate msg = .ok
      { multiplexId := BitVec.ofNat 16 (numberAt msg 0 2), version := byteAt msg 2 % 32
        services := (List.range count).map fun i =>
          { key := BitVec.ofNat 32 (key i), name := name i
            components := (List.range (parts i)).map fun j => (readKind (word i j / 4096), word i j % 4096)
            timing := if timing i = 0xFF then none else some (timing i) } })

/-- The assembler takes start and continuation cells as R49 to R51 give, and CELL_ARRIVAL does with the message it may
complete what R53 and R54 give: reject it, count it as unlocked, or accept it for the entry the lane holds. -/
def Obligations.AssemblersCaptureDirectories : Prop :=
  (∀ (a : Assembler) (c : Machine.Cell),
    let idle : Assembler := { a with capturing := false, cellsHeld := 0, bytesHeld := 0, declaredLength := none,
                                     nextRun := none, held := [] }
    let broke := min (a.broken + 1) 4294967295
    let len := numberAt c.payload 6 2
    let first : Assembler := if a.capturing then { idle with broken := broke } else idle
    (c.s = true → c.e = true ∨ 2432 < len →
      a.take c = ({ idle with broken := min (first.broken + 1) 4294967295 }, none)) ∧
    (c.s = true → c.e = false → len ≤ 152 → a.take c = (first, some (c.payload.take len))) ∧
    (c.s = true → c.e = false → 152 < len → len ≤ 2432 → a.take c =
      ({ first with capturing := true, cellsHeld := 1, bytesHeld := 152, declaredLength := some len,
                    nextRun := some (c.run + 1), held := c.payload }, none)) ∧
    (c.s = false → a.capturing = false → a.take c = ({ a with stray := min (a.stray + 1) 4294967295 }, none)) ∧
    (c.s = false → a.capturing = true → c.e = true ∨ c.d = true ∨ a.nextRun ≠ some c.run →
      a.take c = ({ idle with broken := broke }, none)) ∧
    (c.s = false → a.capturing = true → c.e = false → c.d = false → a.nextRun = some c.run →
      ∀ len, a.declaredLength = some len →
      (len ≤ a.bytesHeld + 152 → a.take c = (idle, some ((a.held ++ c.payload).take len))) ∧
      (a.bytesHeld + 152 < len → a.take c =
        ({ a with cellsHeld := a.cellsHeld + 1, bytesHeld := a.bytesHeld + 152, nextRun := some (c.run + 1),
                  held := a.held ++ c.payload }, none)))) ∧
  (∀ (s : State) (l : Nat) (bs : List Byte) (a : Assembler), s.resetHeld = false → s.Settled → s.Shaped →
    l ≤ 16 → bs.length = 160 → headerPasses bs = true → (readCell bs).flow = 4064 →
    let n := s.lane l
    let leaves := fun (b : Assembler) => exec (.cellArrival l bs) s = .next (settledEvent s
      { s with
        lanes := s.lanes.set l
          { n with asm := b, counters := { n.counters with
              received := min (n.counters.received + 1) 4294967295 } } })
    n.mode = .parked ∨ n.mode = .roving ∧ n.visitState = some .dwelling →
    (n.asm.take (readCell bs) = (a, none) → leaves a) ∧
    (∀ msg cause, n.asm.take (readCell bs) = (a, some msg) → validate msg = .error cause →
      leaves { a with rejected := min (a.rejected + 1) 4294967295, lastRejection := some cause }) ∧
    (∀ msg m, n.asm.take (readCell bs) = (a, some msg) → validate msg = .ok m →
      (n.mode = .parked → n.parkedState ≠ some .locked →
        leaves { a with unlocked := min (a.unlocked + 1) 4294967295 }) ∧
      (∀ e, (n.mode = .parked ∧ n.parkedState = some .locked ∧ n.entry = some e) ∨
          (n.mode = .roving ∧ n.visiting = some e) →
        let s1 : State :=
          { s with
            watchSeen := List.zipWith
              (fun w b => b || (match w with
                | none => false
                | some key => m.services.any fun v => decide (v.key = key))) s.watch s.watchSeen
            lanes := s.lanes.set l
              { n with
                asm := { a with accepted := min (a.accepted + 1) 4294967295, firstPending := false }
                rover := n.rover.map fun r =>
                  { r with directoryTaken := true, dwellServiceCount := m.services.length }
                counters := { n.counters with received := min (n.counters.received + 1) 4294967295 } } }
        let s2 := reconcile s1 l e m a.firstPending
        ∃ t, exec (.cellArrival l bs) s = .next t ∧ t.watchSeen = s1.watchSeen ∧ t.carriages = s2.carriages ∧
          t.entries = s2.entries ∧ t.bindings = s2.bindings ∧ t.lanes = s2.lanes ∧ t.mgmt.log = s2.mgmt.log)))

/-- The reconciliation of an accepted message (R55 to R60): a repeat counts what is missing; a full reconciliation
gives every listed key a carriage with the listed components, counts what is missing and takes the version; a
multiplex change first removes every carriage of the entry. Carriages of other entries are left as they were. The
records of R63 join the discovery log in the order of the reconciliation, as many as there are places for: ENTRY-CHANGED
and the VANISHED records of a multiplex change; for each listed key TABLE-FULL when it is left without a carriage on the
entry, NEW-SERVICE when it had none, RECOMPOSED when its list differed; then the VANISHED records of the keys no longer
listed. That a listed key's name is replaced also where its service record was there without a carriage on the entry is
THE MODEL'S CHOICE (R10, log 19). A listed key's carriage that is created, that is rebound with another list, or that was
SHELVED makes a bind attempt in the order of the listing, each in the state that the keys before it left and with the
whole-window mark clear (R12, R21, R77, R84); one listed as it was is left as it was. -/
def Obligations.DirectoriesAreReconciled : Prop :=
  ∀ (s : State) (l e : Nat) (m : DirectoryMessage) (first : Bool), s.CatalogueOrdered → s.Shaped → l < 17 → e < 64 →
    (m.services.map (·.key)).Nodup →
    let t := reconcile s l e m first
    let id := (s.entry e).multiplexId
    let listed := fun (x : Carriage) => m.services.any fun v => decide (v.key = x.service)
    let counted := fun (x : Carriage) => min (x.missing + 1) 15
    let change := id ≠ none ∧ id ≠ some m.multiplexId
    let recorded := fun (key : Key) =>
      s.output.logAll || s.watch.contains (some key) || (s.service key).any fun v => decide (0 < v.slotRefs)
    let record := fun (kind : RecordKind) (key : Key) (c : Option Nat) =>
      ({ kind := kind, entry := e, key := key, carriage := c, time := s.clock } : DiscoveryRecord)
    let carriageOf := fun (u : State) (key : Key) =>
      u.carriages.find? fun y => decide (y.2.entry = e) && decide (y.2.service = key)
    let vanished := fun (gone : Carriage → Bool) =>
      (s.carriages.filter fun x => decide (x.2.entry = e) && gone x.2 && recorded x.2.service).map fun x =>
        record .vanished x.2.service (some x.1)
    let unlisted := vanished fun x => !listed x && decide (s.policy.absenceLimit ≤ counted x)
    let offered := fun (v : Listed) => match carriageOf t v.key with
      | none => some (record .tableFull v.key none)
      | some y => match (if change then none else carriageOf s v.key) with
        | none => if recorded v.key then some (record .newService v.key (some y.1)) else none
        | some x =>
          if recorded v.key && decide ((x.2.components.map fun d => (d.kind, d.flow)) ≠ v.components ∨
            x.2.timing ≠ v.timing) then some (record .recomposed v.key (some x.1)) else none
    let changed := if s.output.logAll || s.carriages.any fun x => decide (x.2.entry = e) && recorded x.2.service
      then [record .entryChanged (id.getD 0 ++ m.multiplexId) none] else []
    let again := id = some m.multiplexId ∧ first = false ∧ (s.entry e).directoryVersion = some m.version
    (again →
      (t.carriages = s.carriages.filterMap fun x =>
        if x.2.entry ≠ e then some x
        else if listed x.2 then some (x.1, { x.2 with missing := 0 })
        else if s.policy.absenceLimit ≤ counted x.2 then none
        else some (x.1, { x.2 with missing := counted x.2 })) ∧
      t.entries = s.entries ∧
      (t.lane l).asm.repeats = min ((s.lane l).asm.repeats + 1) 4294967295) ∧
    (¬ again →
      (t.entry e).multiplexId = some m.multiplexId ∧ (t.entry e).directoryVersion = some m.version ∧
      (t.lane l).asm.repeats = (s.lane l).asm.repeats ∧
      (∀ x ∈ s.carriages, x.2.entry ≠ e → t.carriage x.1 = some x.2) ∧
      (id = none ∨ id = some m.multiplexId →
        (∀ x ∈ s.carriages, x.2.entry = e → listed x.2 = false → t.carriage x.1 =
          if s.policy.absenceLimit ≤ counted x.2 then none else some { x.2 with missing := counted x.2 }) ∧
        ∀ x ∈ s.carriages, x.2.entry = e → ∀ v ∈ m.services, v.key = x.2.service →
          ∃ y, t.carriage x.1 = some y ∧ y.entry = e ∧ y.service = v.key ∧ y.missing = 0 ∧ y.merit = x.2.merit ∧
            y.faultScore = x.2.faultScore ∧ (y.components.map fun d => (d.kind, d.flow)) = v.components ∧
            y.timing = v.timing) ∧
      (id ≠ none → id ≠ some m.multiplexId →
        ∀ y ∈ t.carriages, y.2.entry = e → listed y.2 = true ∧ y.2.merit = none ∧ y.2.missing = 0) ∧
      (s.services.length + m.services.length ≤ 512 → s.carriages.length + m.services.length ≤ 1024 →
        ∀ v ∈ m.services, (∃ y ∈ t.carriages, y.2.entry = e ∧ y.2.service = v.key ∧ y.2.missing = 0 ∧
            (y.2.components.map fun d => (d.kind, d.flow)) = v.components ∧ y.2.timing = v.timing) ∧
          ∃ w, t.service v.key = some w ∧ w.name = v.name) ∧
      (∀ i v y, m.services[i]? = some v → carriageOf t v.key = some y →
        let u := (m.services.take i).foldl (fun u v => reconcileKey u l e v)
          (if change then multiplexChange s e (id.getD 0) m.multiplexId else s)
        let unbound := v.components.map fun d => ({ kind := d.1, flow := d.2, binding := none } : Component)
        match carriageOf u v.key with
        | none => u.AttemptLeaves l false
            { entry := e, service := v.key, components := unbound, timing := v.timing, state := .incomplete,
              lane := none, laneDown := false, stalled := false, merit := none, faultScore := 0, peakFault := 0,
              probation := 0, missing := 0, lastWindow := none, surveyFigure := none, surveyTime := none,
              wholeWindow := none, boundTime := s.clock, heard := false } y.2
        | some x =>
          let same := (x.2.components.map fun d => (d.kind, d.flow)) = v.components ∧ x.2.timing = v.timing
          (same → x.2.state ≠ .shelved → y = (x.1, { x.2 with missing := 0 })) ∧
          (same → x.2.state = .shelved → u.AttemptLeaves l false { x.2 with missing := 0 } y.2) ∧
          (¬ same → (releaseBindings u x.1).AttemptLeaves l false
            { x.2 with missing := 0, components := unbound, timing := v.timing } y.2))) ∧
    let records :=
      if again then unlisted
      else if change then changed ++ vanished (fun _ => true) ++ m.services.filterMap offered
      else m.services.filterMap offered ++ unlisted
    t.mgmt.log = s.mgmt.log ++ records.take (32 - s.mgmt.log.length) ∧
      t.mgmt.overflow = (s.mgmt.overflow || decide (32 - s.mgmt.log.length < records.length))

/-! ## Timers -/

/-- The return path at a cell boundary, and the lock and silence timers of a lane. The header fields that R33 does not
give are free (log 7). ORDER_CELL_SEND is one cell boundary of a feed lane's return path, and on lane 16, which has none,
it does nothing (THE MODEL'S CHOICE, log 22). That an expiry whose timer has not run out does nothing is THE MODEL'S CHOICE (log 2). -/
def Obligations.OrdersAndLaneTimersAct : Prop :=
  ∀ (s : State) (l : Nat), s.resetHeld = false → s.Settled → s.Shaped → l ≤ 16 →
    let n := s.lane l
    let due := fun (tm : Option Timer) => ∃ r, tm = some r ∧ r.span ≤ (s.clock - r.start).toNat
    (l = 16 → exec (.orderCellSend l) s = .next s) ∧
    (l < 16 → ∃ c : Machine.Cell,
      exec (.orderCellSend l) s = .next
        { s with
          freeCount := s.freeCount + 1
          lanes := s.lanes.set l { n with returnOut := some (cellToBytes c), pendingOrder := none } } ∧
      (∀ o, n.pendingOrder = some o → c.flow = 4093 ∧ c.payload =
        bytesOf 1 (if o.kind = .tune then 1 else 2) ++ bytesOf 1 o.tag ++
          bytesOf 8 (if o.kind = .tune then o.word.toNat else 0)) ∧
      (n.pendingOrder = none → c.flow = 4095)) ∧
    (∀ e word, n.mode = .parked → n.parkedState = some .await ∨ n.parkedState = some .unlocked → due n.lockTimer →
      n.entry = some e → (s.entry e).tuningWord = some word →
      exec (.lockTimeout l) s = .next (settledEvent s
        { s with
          lanes := s.lanes.set l
            { n with
              pendingOrder := some { kind := .tune, tag := n.tagCounter, word := word }
              tagCounter := tagAfter n.tagCounter, currentTag := some n.tagCounter, acknowledged := false
              parkedState := some .await
              counters := { n.counters with resends := min (n.counters.resends + 1) 4294967295 }
              lockTimer := some { start := s.clock, span := 1000 * s.survey.lockTimeout } } })) ∧
    (¬ due n.lockTimer → exec (.lockTimeout l) s = .next s) ∧
    (due n.silenceTimer → n.mode = .parked → s.CatalogueOrdered → ∃ t, exec (.silenceExpiry l) s = .next t ∧
      t.lanes = s.lanes.set l
        { n with
          silenceTimer := none, parkedState := some .silent, lockTimer := none
          laneFlag := n.laneFlag || decide (n.parkedState ≠ some .silent)
          flagCauses := { n.flagCauses with
            silent := n.flagCauses.silent || decide (n.parkedState ≠ some .silent) } } ∧
      t.carriages = s.carriages.map fun x =>
        if x.2.lane = some l ∧ x.2.state ≠ .shelved ∧ x.2.state ≠ .survey ∧ n.parkedState = some .locked then
          (x.1, { x.2 with laneDown := true })
        else x) ∧
    (due n.silenceTimer → n.mode ≠ .parked → n.visitState ≠ some .settling → n.visitState ≠ some .dwelling →
      exec (.silenceExpiry l) s =
        .next (settledEvent s { s with lanes := s.lanes.set l { n with silenceTimer := none } })) ∧
    (¬ due n.silenceTimer → exec (.silenceExpiry l) s = .next s)

/-- A carriage in PROBATION, USABLE or FAULTED becomes stalled when the stall time has passed since the later of its
primary binding's last cell and its own binding, and not before. Which is the later is told by the carriage's own mark
and not by the two clock values, so that a wrap of the clock changes nothing (R47, log 39). That an expiry which is not
due does nothing is THE MODEL'S CHOICE (log 2). -/
def Obligations.SilentCarriagesStall : Prop :=
  ∀ (s : State) (i : Nat) (x : Carriage) (d : Component) (b : Binding), s.resetHeld = false → s.Settled →
    s.CatalogueOrdered → s.carriage i = some x → x.components.head? = some d →
    (∃ nm, d.binding = some nm ∧ s.binding nm.lane nm.flow = some b) →
    let later := if x.heard = true then b.lastCellTime else x.boundTime
    let passed := 1000 * s.policy.stallTime ≤ (s.clock - later).toNat
    let placed := x.state = .probation ∨ x.state = .usable ∨ x.state = .faulted
    (placed → x.stalled = false → passed →
      ∃ t, exec (.stallExpiry i) s = .next t ∧ t.carriages = s.carriages.map fun y =>
        if y.1 = i then (i, { x with stalled := true }) else y) ∧
    (¬ (placed ∧ x.stalled = false ∧ passed) → exec (.stallExpiry i) s = .next s)

/-- The timers of a visit: a lock timeout in tuning and a loss of lock by silence end it with NO-LOCK; the end of the
settle time begins the dwell; the end of the dwell gives SURVEYED when a directory was taken, with a figure for every
SURVEY carriage, and NO-DIRECTORY otherwise. The visit over, the lane's carriages of the entry are shelved and the
lane makes its next claim (R69). That an expiry whose timer has not run out does nothing is THE MODEL'S CHOICE
(log 2). -/
def Obligations.VisitTimersEndVisits : Prop :=
  ∀ (s : State) (l e : Nat) (rv : Rover), s.resetHeld = false → s.Settled → s.CatalogueOrdered → s.TenancyLawful →
    l < 16 → (s.lane l).mode = .roving → (s.lane l).rover = some rv → rv.claimedEntry = some e →
    let n := s.lane l
    let due := fun (tm : Option Timer) => ∃ r, tm = some r ∧ r.span ≤ (s.clock - r.start).toNat
    let ends := fun (i : Instr) (o : SurveyOutcome) (margin : Option Nat) (services : Nat)
        (carriage : Carriage → Carriage) (counts : Rover → Prop) =>
      ∃ t, exec i s = .next t ∧ (t.entry e).surveyOutcome = o ∧ (t.entry e).surveyTime = some s.clock ∧
        (t.entry e).surveyMargin = margin ∧ (t.entry e).serviceCount = services ∧
        (∀ x ∈ s.carriages, t.carriage x.1 = some (carriage x.2)) ∧
        (∀ j, j ≠ l → (s.lane j).mode ≠ .roving → t.lane j = s.lane j) ∧
        (∀ d, d ≠ e → { t.entry d with visitingLane := none } = { s.entry d with visitingLane := none }) ∧
        (t.lane l).asm.firstPending = false ∧ s.ClaimsNext t l ∧ ∃ rv', (t.lane l).rover = some rv' ∧ counts rv'
    (rv.visitState = .tuning → due rv.visitTimer → ends (.visitLockTimeout l) .noLock none 0
      (fun x => x.leftBy n) fun r => r.noLock = min (rv.noLock + 1) 4294967295) ∧
    (rv.visitState = .settling ∨ rv.visitState = .dwelling → due n.silenceTimer →
      ends (.silenceExpiry l) .noLock none 0 (fun x => x.leftBy n)
        fun r => r.noLock = min (rv.noLock + 1) 4294967295) ∧
    (rv.visitState = .settling → due rv.visitTimer → exec (.settleExpiry l) s = .next (settledEvent s
      { s with
        lanes := s.lanes.set l
          { n with
            windowMargin := none
            asm := { n.asm with capturing := false, cellsHeld := 0, bytesHeld := 0, declaredLength := none,
                                nextRun := none, held := [], firstPending := true }
            rover := some { rv with
              visitState := .dwelling, visitTimer := some { start := s.clock, span := 1000 * s.survey.dwellTime }
              directoryTaken := false, dwellServiceCount := 0 } } })) ∧
    (rv.visitState = .dwelling → due rv.visitTimer → rv.directoryTaken = false →
      ends (.dwellEnd l) .noDirectory n.windowMargin 0 (fun x => x.leftBy n)
        fun r => r.noDirectory = min (rv.noDirectory + 1) 4294967295) ∧
    (rv.visitState = .dwelling → due rv.visitTimer → rv.directoryTaken = true →
      ends (.dwellEnd l) .surveyed n.windowMargin rv.dwellServiceCount
        (fun x =>
          if x.entry = e ∧ x.state = .survey then
            { x.shelvedFrom with
              surveyFigure := some (windowScore (s.inputsOf x (n.windowMargin.getD 0)))
              surveyTime := some s.clock }
          else x.leftBy n)
        fun r => r.surveyed = min (rv.surveyed + 1) 4294967295) ∧
    (¬ due rv.visitTimer → ∀ i ∈ [Instr.visitLockTimeout l, .settleExpiry l, .dwellEnd l], exec i s = .next s)

/-! ## Window assessment -/

/-- Stages 1 to 5: the sums of R88, the timing input, the loss ratio and class, the margin credit and the timing
penalty, and the window score, which is 0 for a silent window. Where R92 says that P is 0 exactly when G and X are
both 0, its formula says otherwise for a window above 65536 cells; the formula is followed (log 32). The record of a
silent window has P and Q absent and W 0 (R91, R101). -/
def Obligations.WindowScoresFollowTheStages : Prop :=
  (∀ (s : State) (x : Carriage) (m : Nat) (bs : List Binding),
    (x.components.map fun d => d.binding.bind fun nm => s.binding nm.lane nm.flow) = bs.map some →
    (s.inputsOf x m).n = (bs.map (·.n)).sum ∧ (s.inputsOf x m).g = (bs.map (·.g)).sum ∧
    (s.inputsOf x m).x = (bs.map (·.x)).sum ∧ (s.inputsOf x m).m = m ∧
    (x.timing = none → (s.inputsOf x m).j = 0) ∧
    ∀ t b, x.timing = some t → bs[t]? = some b →
      (s.inputsOf x m).j = if b.deviationSeen then b.peakJ else if 0 < (bs.map (·.n)).sum then 1600 else 0) ∧
  (∀ i : Inputs, i.n = 0 → windowScore i = 0 ∧
    windowRecord i = { n := 0, g := i.g, x := i.x, m := i.m, j := i.j, p := none, q := none, w := 0 }) ∧
  (∀ i : Inputs, 0 < i.n → i.x ≤ i.n →
    ∃ p q : Nat, p * (i.n + i.g) ≤ 65536 * (i.g + i.x) ∧ 65536 * (i.g + i.x) < (p + 1) * (i.n + i.g) ∧ p ≤ 65536 ∧
      p < 2 ^ q ∧ (0 < q → 2 ^ (q - 1) ≤ p) ∧ q ≤ 17 ∧
      (windowScore i : Int) = max 0 (640 + 3 * (min i.m 120 : Nat) - 48 * q - (min (i.j / 16) 100 : Nat)) ∧
      windowScore i ≤ 1000 ∧ (windowScore i = 1000 ↔ p = 0 ∧ 120 ≤ i.m ∧ i.j < 16) ∧
      windowRecord i = { n := i.n, g := i.g, x := i.x, m := i.m, j := i.j, p := some p, q := some q,
                         w := windowScore i })

/-- A lane's window end: every carriage that held its bindings through the window is scored, stages 6 and 7, unless
the window is void; the window counters start again; the lane's own fault score and *degraded* flag follow; the marks
are set; and the next window starts with the length in force. The lane's INCOMPLETE carriages retry their binding in
index order, with the mark set; a retry that cannot succeed changes nothing (R17). THE MODEL'S CHOICE: a carriage without
the mark is not scored, nor are its window's counts given to it later (R84 against R14, log 38); the next window starts
from the clock as it stands at the step (log 28), and an expiry that is not due does nothing (log 2). -/
def Obligations.WindowEndsScoreTheLane : Prop :=
  (∀ (s : State) (l : Nat) (tm : Timer), s.resetHeld = false → s.Settled → s.Shaped → s.CatalogueOrdered → l ≤ 16 →
    (s.lane l).windowTimer = some tm → (s.lane l).mode = .parked →
    let n := s.lane l
    let p := s.policy
    let void := l < 16 ∧ n.parkedState ≠ some .locked
    let margin := if l = 16 then 120 else n.windowMargin.getD 0
    let held := fun (x : Carriage) => x.lane = some l ∧ (x.state = .probation ∨ x.state = .usable ∨ x.state = .faulted)
    let retried := ((s.carriages.filter fun x =>
      decide (x.2.lane = some l) && decide (x.2.state = .incomplete)).map Prod.fst).foldl
        (fun u i => retryBind u i l) s
    let fails := n.windowStatusCount < tm.span / 1000 / n.statusInterval ∨ n.uncorrectedSeen = true ∨
      n.headerErrorSeen = true ∨ n.parkedState ≠ some .locked
    (tm.span ≤ (s.clock - tm.start).toNat → ∃ t, exec (.windowEnd l) s = .next t ∧
      (∀ j, j ≠ l → t.lane j = s.lane j) ∧
      (∀ x ∈ s.carriages, ¬ held x.2 → x.2.state ≠ .incomplete ∨ x.2.lane ≠ some l →
        t.carriage x.1 = some x.2) ∧
      (∀ x ∈ s.carriages, held x.2 → void ∨ x.2.wholeWindow ≠ some true →
        t.carriage x.1 = some { x.2 with wholeWindow := some true }) ∧
      (∀ x ∈ s.carriages, held x.2 → ¬ void → x.2.wholeWindow = some true →
        let inputs := s.inputsOf x.2 margin
        let w := windowScore inputs
        let z := if w < p.failThreshold then min (x.2.faultScore + 8) 255 else x.2.faultScore - 1
        let count := if x.2.state ≠ .probation then x.2.probation
          else if w < p.failThreshold then 0 else min (x.2.probation + 1) 15
        ∃ f : Nat, t.carriage x.1 = some
          { x.2 with
            merit := some f, faultScore := z, peakFault := max x.2.peakFault z, probation := count
            lastWindow := some (windowRecord inputs), wholeWindow := some true
            state := match x.2.state with
              | .probation =>
                if p.failThreshold ≤ w ∧ p.probationWindows ≤ count then
                  if z < p.faultLimit then .usable else .faulted
                else .probation
              | .usable => if p.faultLimit ≤ z then .faulted else .usable
              | st => if z ≤ p.faultClear then .usable else st } ∧
          (x.2.merit = none → f = w) ∧
          ∀ g, x.2.merit = some g → (g = w → f = g) ∧ (p.smoothingShift = 0 → f = w) ∧
            (0 < p.smoothingShift → g < w → f = g + max 1 ((w - g) / 2 ^ p.smoothingShift)) ∧
            (0 < p.smoothingShift → w < g → f = g - max 1 ((g - w) / 2 ^ p.smoothingShift))) ∧
      (∀ x ∈ s.carriages, x.2.state = .incomplete → x.2.lane = some l →
        t.carriage x.1 = retried.carriage x.1) ∧
      (t.bindings.map fun b => (b.name, b.refCount)) = (retried.bindings.map fun b => (b.name, b.refCount)) ∧
      (∀ b ∈ t.bindings, b.name.lane = l → b.n = 0 ∧ b.g = 0 ∧ b.x = 0 ∧ b.peakJ = 0 ∧ b.deviationSeen = false) ∧
      (t.lane l).windowMargin = none ∧ (t.lane l).windowStatusCount = 0 ∧ (t.lane l).uncorrectedSeen = false ∧
      (t.lane l).headerErrorSeen = false ∧
      (t.lane l).windowTimer = some { start := s.clock, span := 250000 * p.windowLength } ∧
      (l < 16 →
        (t.lane l).faultScore = (if fails then min (n.faultScore + 8) 255 else n.faultScore - 1) ∧
        (n.degraded = false → (t.lane l).degraded = decide (p.faultLimit ≤ (t.lane l).faultScore)) ∧
        (n.degraded = true → (t.lane l).degraded = decide (p.faultClear < (t.lane l).faultScore)) ∧
        (t.lane l).laneFlag = (n.laneFlag || ((t.lane l).degraded != n.degraded)) ∧
        (t.lane l).flagCauses =
          { n.flagCauses with
            degraded := n.flagCauses.degraded || ((t.lane l).degraded && !n.degraded)
            recovered := n.flagCauses.recovered || (n.degraded && !(t.lane l).degraded) })) ∧
    ((s.clock - tm.start).toNat < tm.span → exec (.windowEnd l) s = .next s)) ∧
  ∀ (s : State) (i l : Nat) (x : Carriage), s.carriage i = some x →
    (s.Bindable l (x.components.map (·.flow)) → retryBind s i l = attemptBind s i l true) ∧
    (¬ s.Bindable l (x.components.map (·.flow)) → retryBind s i l = s)

/-! ## The lineup port -/

/-- At a cell opportunity the arbiter emits a control cell, the head of a pressured slot's queue, the head of another
slot's, or a void cell, in that order of preference; the cell's buffer is freed; and the schedule moves to the next
opportunity of the rate in force. THE MODEL'S CHOICE: how a rate that was set takes effect (log 18), that a void cell's
payload is of zeros (log 23), and that a step before the next opportunity does nothing (log 2). -/
def Obligations.OpportunitiesEmitOneCell : Prop :=
  ∀ s : State, s.resetHeld = false → s.Settled → s.Shaped → s.store.pressuredPtr < 128 → s.store.servicePtr < 128 →
    let u := s.store
    let sched := if u.rateSet then (s.clock, 1, s.output.portCellRate)
      else if u.oppRate ≤ u.oppIndex then (u.oppOrigin + 1000000, u.oppIndex - u.oppRate + 1, u.oppRate)
      else (u.oppOrigin, u.oppIndex + 1, u.oppRate)
    let timed := fun (v : Store) =>
      { v with oppOrigin := sched.1, oppIndex := sched.2.1, oppRate := sched.2.2, rateSet := false }
    let waits := u.controlQueue ≠ [] ∨ u.directoryQueue ≠ []
    let turn := waits ∧ ((∀ x ∈ s.slots, x.queue = []) ∨ u.spacingCount = 15)
    let spaced := min (u.spacingCount + 1) 15
    let served := fun (k : Nat) (c : Machine.Cell) (rest : List Machine.Cell) (ptr : Nat) =>
      exec .cellOpportunity s = .next (settledEvent s
        { s with
          slots := s.slots.modify k fun x => { x with queue := rest }
          store := timed { u with freeBuffers := u.freeBuffers + 1, spacingCount := spaced, servicePtr := k,
                                  pressuredPtr := ptr, portOut := some (cellToBytes c) } })
    (u.oppIndex * 1000000 / u.oppRate ≤ (s.clock - u.oppOrigin).toNat →
      (∀ c rest, turn → u.controlQueue = c :: rest →
        let body := [c.address] ++ bytesOf 2 c.tag.toNat ++ [c.code] ++ bytesOf 1 c.status.code ++
          bytesOf 4 s.clock.toNat ++ bytesOf 1 c.result.length ++ c.result
        exec .cellOpportunity s = .next (settledEvent s
          { s with store := timed { u with
              controlQueue := rest, spacingCount := 0, managementRun := u.managementRun + 1, managementBegun := true
              portOut := some (cellToBytes
                { flow := 4080, run := u.managementRun, s := true, k := false, e := false, t := false,
                  d := !u.managementBegun, stamp := 0
                  payload := body ++ bytesOf 2 (messageCrc body).toNat }) } })) ∧
      (∀ c rest, turn → u.controlQueue = [] → u.directoryQueue = c :: rest →
        exec .cellOpportunity s = .next (settledEvent s
          { s with store := timed { u with
              directoryQueue := rest, spacingCount := 0, directoryRun := u.directoryRun + 1, directoryBegun := true
              portOut := some (cellToBytes
                { flow := 4064, run := u.directoryRun, s := c.first, k := false, e := false, t := false,
                  d := !u.directoryBegun, stamp := 0, payload := c.payload }) } })) ∧
      (∀ k < 128, ¬ turn → s.pressured (s.slot k) = true →
        (∀ j < 128, s.pressured (s.slot j) = true →
          (k + 127 - u.pressuredPtr) % 128 ≤ (j + 127 - u.pressuredPtr) % 128) →
        ∀ c rest, (s.slot k).queue = c :: rest → served k c rest k) ∧
      (∀ k < 128, ¬ turn → (∀ j < 128, s.pressured (s.slot j) = false) →
        (∀ j < 128, (s.slot j).queue ≠ [] →
          (k + 127 - u.servicePtr) % 128 ≤ (j + 127 - u.servicePtr) % 128) →
        ∀ c rest, (s.slot k).queue = c :: rest → served k c rest u.pressuredPtr) ∧
      (¬ waits → (∀ x ∈ s.slots, x.queue = []) →
        exec .cellOpportunity s = .next (settledEvent s
          { s with store := timed { u with
              spacingCount := spaced
              portOut := some (cellToBytes
                { flow := 4095, run := 0, s := false, k := false, e := false, t := false, d := false, stamp := 0,
                  payload := [] }) } }))) ∧
    ((s.clock - u.oppOrigin).toNat < u.oppIndex * 1000000 / u.oppRate → exec .cellOpportunity s = .next s) ∧
    (∀ k < 128, ∀ cap margin, s.effectiveCapacity (s.slot k) = some cap →
      (s.slot k).margin = some (.cells margin) ∨ (s.slot k).margin = some .standard ∧ margin = cap / 8 →
      (s.pressured (s.slot k) = true ↔ (s.slot k).queue ≠ [] ∧ cap - margin ≤ (s.slot k).queue.length))

/-- A directory period's end: with the directory queue empty the lineup directory is composed, one entry for each slot
that is not vacant, in slot order, 48 to a section, each with its on-air carriage's components on the slot's flows, and
a version that advances when the content has changed; otherwise the period is skipped and counted. The next period
starts with the period in force. THE MODEL'S CHOICE: it starts from the clock as it stands at the step (log 28), and an
expiry that is not due does nothing (log 2). -/
def Obligations.DirectoryPeriodsCompose : Prop :=
  ∀ (s : State) (tm : Timer), s.resetHeld = false → s.Settled → s.store.directoryTimer = some tm →
    let u := s.store
    let next : Option Timer := some { start := s.clock, span := 1000 * s.output.directoryPeriod }
    let entries := (s.slots.filter fun x => decide (x.state ≠ .vacant)).map fun x =>
      let key := x.primary.getD 0
      match x.onAir.bind s.carriage with
      | some y =>
        ({ key := key, channel := x.channel.getD 0, name := ((s.service y.service).map (·.name)).getD []
           components := (y.components.zipIdx (x.baseFlow.getD 0)).map fun d => (d.1.kind, d.2)
           timing := y.timing } : LineupEntry)
      | none =>
        { key := key, channel := x.channel.getD 0, name := ((s.service key).map (·.name)).getD []
          components := [], timing := none }
    (tm.span ≤ (s.clock - tm.start).toNat →
      (u.directoryQueue ≠ [] → exec .directoryPeriodExpiry s = .next (settledEvent s
        { s with store :=
            { u with directorySkips := min (u.directorySkips + 1) 4294967295, directoryTimer := next } })) ∧
      (u.directoryQueue = [] → ∃ sections : List (List LineupEntry),
        let content : LineupContent := { multiplexId := s.output.lineupId, sections := sections }
        let version := if u.lastContent = none ∨ u.lastContent = some content then u.lineupVersion
          else (u.lineupVersion + 1) % 32
        sections ≠ [] ∧ sections.flatten = entries ∧ (∀ x ∈ sections, x.length ≤ 48) ∧
        (∀ i x, i + 1 < sections.length → sections[i]? = some x → x.length = 48) ∧
        (1 < sections.length → ∀ x ∈ sections, x ≠ []) ∧
        exec .directoryPeriodExpiry s = .next (settledEvent s
          { s with store :=
              { u with
                lineupVersion := version, lastContent := some content, directoryTimer := next
                directoryQueue := (sections.zipIdx.map fun x =>
                  sectionCells (sectionMessage s.output.lineupId version x.2 (sections.length - 1) x.1)).flatten } }))) ∧
    ((s.clock - tm.start).toNat < tm.span → exec .directoryPeriodExpiry s = .next s)
end

