-- ==== Sys2Proof/Laws/State.lean ====
section
/-! SUPPORT. What each named update of the state leaves in each field, one lemma per field per update. -/

namespace Sys2Proof.Machine

open Sys2Proof

/-! ## modEntry -/

@[simp] theorem State.modEntry_clock (s : State) (e : Nat) (f : PlanEntry → PlanEntry) :
    (s.modEntry e f).clock = s.clock := rfl
@[simp] theorem State.modEntry_pins (s : State) (e : Nat) (f : PlanEntry → PlanEntry) :
    (s.modEntry e f).pins = s.pins := rfl
@[simp] theorem State.modEntry_resetHeld (s : State) (e : Nat) (f : PlanEntry → PlanEntry) :
    (s.modEntry e f).resetHeld = s.resetHeld := rfl
@[simp] theorem State.modEntry_entries (s : State) (e : Nat) (f : PlanEntry → PlanEntry) :
    (s.modEntry e f).entries = s.entries.modify e f := rfl
@[simp] theorem State.modEntry_surveyPointer (s : State) (e : Nat) (f : PlanEntry → PlanEntry) :
    (s.modEntry e f).surveyPointer = s.surveyPointer := rfl
@[simp] theorem State.modEntry_promptSet (s : State) (e : Nat) (f : PlanEntry → PlanEntry) :
    (s.modEntry e f).promptSet = s.promptSet := rfl
@[simp] theorem State.modEntry_lanes (s : State) (e : Nat) (f : PlanEntry → PlanEntry) :
    (s.modEntry e f).lanes = s.lanes := rfl
@[simp] theorem State.modEntry_services (s : State) (e : Nat) (f : PlanEntry → PlanEntry) :
    (s.modEntry e f).services = s.services := rfl
@[simp] theorem State.modEntry_carriages (s : State) (e : Nat) (f : PlanEntry → PlanEntry) :
    (s.modEntry e f).carriages = s.carriages := rfl
@[simp] theorem State.modEntry_bindings (s : State) (e : Nat) (f : PlanEntry → PlanEntry) :
    (s.modEntry e f).bindings = s.bindings := rfl
@[simp] theorem State.modEntry_watch (s : State) (e : Nat) (f : PlanEntry → PlanEntry) :
    (s.modEntry e f).watch = s.watch := rfl
@[simp] theorem State.modEntry_watchSeen (s : State) (e : Nat) (f : PlanEntry → PlanEntry) :
    (s.modEntry e f).watchSeen = s.watchSeen := rfl
@[simp] theorem State.modEntry_policy (s : State) (e : Nat) (f : PlanEntry → PlanEntry) :
    (s.modEntry e f).policy = s.policy := rfl
@[simp] theorem State.modEntry_survey (s : State) (e : Nat) (f : PlanEntry → PlanEntry) :
    (s.modEntry e f).survey = s.survey := rfl
@[simp] theorem State.modEntry_output (s : State) (e : Nat) (f : PlanEntry → PlanEntry) :
    (s.modEntry e f).output = s.output := rfl
@[simp] theorem State.modEntry_slots (s : State) (e : Nat) (f : PlanEntry → PlanEntry) :
    (s.modEntry e f).slots = s.slots := rfl
@[simp] theorem State.modEntry_store (s : State) (e : Nat) (f : PlanEntry → PlanEntry) :
    (s.modEntry e f).store = s.store := rfl
@[simp] theorem State.modEntry_mgmt (s : State) (e : Nat) (f : PlanEntry → PlanEntry) :
    (s.modEntry e f).mgmt = s.mgmt := rfl
@[simp] theorem State.modEntry_handed (s : State) (e : Nat) (f : PlanEntry → PlanEntry) :
    (s.modEntry e f).handed = s.handed := rfl
@[simp] theorem State.modEntry_freeCount (s : State) (e : Nat) (f : PlanEntry → PlanEntry) :
    (s.modEntry e f).freeCount = s.freeCount := rfl
@[simp] theorem State.modEntry_pending (s : State) (e : Nat) (f : PlanEntry → PlanEntry) :
    (s.modEntry e f).pending = s.pending := rfl

/-! ## modLane -/

@[simp] theorem State.modLane_clock (s : State) (l : Nat) (f : Lane → Lane) :
    (s.modLane l f).clock = s.clock := rfl
@[simp] theorem State.modLane_pins (s : State) (l : Nat) (f : Lane → Lane) :
    (s.modLane l f).pins = s.pins := rfl
@[simp] theorem State.modLane_resetHeld (s : State) (l : Nat) (f : Lane → Lane) :
    (s.modLane l f).resetHeld = s.resetHeld := rfl
@[simp] theorem State.modLane_entries (s : State) (l : Nat) (f : Lane → Lane) :
    (s.modLane l f).entries = s.entries := rfl
@[simp] theorem State.modLane_surveyPointer (s : State) (l : Nat) (f : Lane → Lane) :
    (s.modLane l f).surveyPointer = s.surveyPointer := rfl
@[simp] theorem State.modLane_promptSet (s : State) (l : Nat) (f : Lane → Lane) :
    (s.modLane l f).promptSet = s.promptSet := rfl
@[simp] theorem State.modLane_lanes (s : State) (l : Nat) (f : Lane → Lane) :
    (s.modLane l f).lanes = s.lanes.modify l f := rfl
@[simp] theorem State.modLane_services (s : State) (l : Nat) (f : Lane → Lane) :
    (s.modLane l f).services = s.services := rfl
@[simp] theorem State.modLane_carriages (s : State) (l : Nat) (f : Lane → Lane) :
    (s.modLane l f).carriages = s.carriages := rfl
@[simp] theorem State.modLane_bindings (s : State) (l : Nat) (f : Lane → Lane) :
    (s.modLane l f).bindings = s.bindings := rfl
@[simp] theorem State.modLane_watch (s : State) (l : Nat) (f : Lane → Lane) :
    (s.modLane l f).watch = s.watch := rfl
@[simp] theorem State.modLane_watchSeen (s : State) (l : Nat) (f : Lane → Lane) :
    (s.modLane l f).watchSeen = s.watchSeen := rfl
@[simp] theorem State.modLane_policy (s : State) (l : Nat) (f : Lane → Lane) :
    (s.modLane l f).policy = s.policy := rfl
@[simp] theorem State.modLane_survey (s : State) (l : Nat) (f : Lane → Lane) :
    (s.modLane l f).survey = s.survey := rfl
@[simp] theorem State.modLane_output (s : State) (l : Nat) (f : Lane → Lane) :
    (s.modLane l f).output = s.output := rfl
@[simp] theorem State.modLane_slots (s : State) (l : Nat) (f : Lane → Lane) :
    (s.modLane l f).slots = s.slots := rfl
@[simp] theorem State.modLane_store (s : State) (l : Nat) (f : Lane → Lane) :
    (s.modLane l f).store = s.store := rfl
@[simp] theorem State.modLane_mgmt (s : State) (l : Nat) (f : Lane → Lane) :
    (s.modLane l f).mgmt = s.mgmt := rfl
@[simp] theorem State.modLane_handed (s : State) (l : Nat) (f : Lane → Lane) :
    (s.modLane l f).handed = s.handed := rfl
@[simp] theorem State.modLane_freeCount (s : State) (l : Nat) (f : Lane → Lane) :
    (s.modLane l f).freeCount = s.freeCount := rfl
@[simp] theorem State.modLane_pending (s : State) (l : Nat) (f : Lane → Lane) :
    (s.modLane l f).pending = s.pending := rfl

/-! ## modCounters -/

@[simp] theorem State.modCounters_clock (s : State) (l : Nat) (f : LaneCounters → LaneCounters) :
    (s.modCounters l f).clock = s.clock := rfl
@[simp] theorem State.modCounters_pins (s : State) (l : Nat) (f : LaneCounters → LaneCounters) :
    (s.modCounters l f).pins = s.pins := rfl
@[simp] theorem State.modCounters_resetHeld (s : State) (l : Nat) (f : LaneCounters → LaneCounters) :
    (s.modCounters l f).resetHeld = s.resetHeld := rfl
@[simp] theorem State.modCounters_entries (s : State) (l : Nat) (f : LaneCounters → LaneCounters) :
    (s.modCounters l f).entries = s.entries := rfl
@[simp] theorem State.modCounters_surveyPointer (s : State) (l : Nat) (f : LaneCounters → LaneCounters) :
    (s.modCounters l f).surveyPointer = s.surveyPointer := rfl
@[simp] theorem State.modCounters_promptSet (s : State) (l : Nat) (f : LaneCounters → LaneCounters) :
    (s.modCounters l f).promptSet = s.promptSet := rfl
@[simp] theorem State.modCounters_lanes (s : State) (l : Nat) (f : LaneCounters → LaneCounters) :
    (s.modCounters l f).lanes = s.lanes.modify l fun n => { n with counters := f n.counters } := rfl
@[simp] theorem State.modCounters_services (s : State) (l : Nat) (f : LaneCounters → LaneCounters) :
    (s.modCounters l f).services = s.services := rfl
@[simp] theorem State.modCounters_carriages (s : State) (l : Nat) (f : LaneCounters → LaneCounters) :
    (s.modCounters l f).carriages = s.carriages := rfl
@[simp] theorem State.modCounters_bindings (s : State) (l : Nat) (f : LaneCounters → LaneCounters) :
    (s.modCounters l f).bindings = s.bindings := rfl
@[simp] theorem State.modCounters_watch (s : State) (l : Nat) (f : LaneCounters → LaneCounters) :
    (s.modCounters l f).watch = s.watch := rfl
@[simp] theorem State.modCounters_watchSeen (s : State) (l : Nat) (f : LaneCounters → LaneCounters) :
    (s.modCounters l f).watchSeen = s.watchSeen := rfl
@[simp] theorem State.modCounters_policy (s : State) (l : Nat) (f : LaneCounters → LaneCounters) :
    (s.modCounters l f).policy = s.policy := rfl
@[simp] theorem State.modCounters_survey (s : State) (l : Nat) (f : LaneCounters → LaneCounters) :
    (s.modCounters l f).survey = s.survey := rfl
@[simp] theorem State.modCounters_output (s : State) (l : Nat) (f : LaneCounters → LaneCounters) :
    (s.modCounters l f).output = s.output := rfl
@[simp] theorem State.modCounters_slots (s : State) (l : Nat) (f : LaneCounters → LaneCounters) :
    (s.modCounters l f).slots = s.slots := rfl
@[simp] theorem State.modCounters_store (s : State) (l : Nat) (f : LaneCounters → LaneCounters) :
    (s.modCounters l f).store = s.store := rfl
@[simp] theorem State.modCounters_mgmt (s : State) (l : Nat) (f : LaneCounters → LaneCounters) :
    (s.modCounters l f).mgmt = s.mgmt := rfl
@[simp] theorem State.modCounters_handed (s : State) (l : Nat) (f : LaneCounters → LaneCounters) :
    (s.modCounters l f).handed = s.handed := rfl
@[simp] theorem State.modCounters_freeCount (s : State) (l : Nat) (f : LaneCounters → LaneCounters) :
    (s.modCounters l f).freeCount = s.freeCount := rfl
@[simp] theorem State.modCounters_pending (s : State) (l : Nat) (f : LaneCounters → LaneCounters) :
    (s.modCounters l f).pending = s.pending := rfl

/-! ## modAsm -/

@[simp] theorem State.modAsm_clock (s : State) (l : Nat) (f : Assembler → Assembler) :
    (s.modAsm l f).clock = s.clock := rfl
@[simp] theorem State.modAsm_pins (s : State) (l : Nat) (f : Assembler → Assembler) :
    (s.modAsm l f).pins = s.pins := rfl
@[simp] theorem State.modAsm_resetHeld (s : State) (l : Nat) (f : Assembler → Assembler) :
    (s.modAsm l f).resetHeld = s.resetHeld := rfl
@[simp] theorem State.modAsm_entries (s : State) (l : Nat) (f : Assembler → Assembler) :
    (s.modAsm l f).entries = s.entries := rfl
@[simp] theorem State.modAsm_surveyPointer (s : State) (l : Nat) (f : Assembler → Assembler) :
    (s.modAsm l f).surveyPointer = s.surveyPointer := rfl
@[simp] theorem State.modAsm_promptSet (s : State) (l : Nat) (f : Assembler → Assembler) :
    (s.modAsm l f).promptSet = s.promptSet := rfl
@[simp] theorem State.modAsm_lanes (s : State) (l : Nat) (f : Assembler → Assembler) :
    (s.modAsm l f).lanes = s.lanes.modify l fun n => { n with asm := f n.asm } := rfl
@[simp] theorem State.modAsm_services (s : State) (l : Nat) (f : Assembler → Assembler) :
    (s.modAsm l f).services = s.services := rfl
@[simp] theorem State.modAsm_carriages (s : State) (l : Nat) (f : Assembler → Assembler) :
    (s.modAsm l f).carriages = s.carriages := rfl
@[simp] theorem State.modAsm_bindings (s : State) (l : Nat) (f : Assembler → Assembler) :
    (s.modAsm l f).bindings = s.bindings := rfl
@[simp] theorem State.modAsm_watch (s : State) (l : Nat) (f : Assembler → Assembler) :
    (s.modAsm l f).watch = s.watch := rfl
@[simp] theorem State.modAsm_watchSeen (s : State) (l : Nat) (f : Assembler → Assembler) :
    (s.modAsm l f).watchSeen = s.watchSeen := rfl
@[simp] theorem State.modAsm_policy (s : State) (l : Nat) (f : Assembler → Assembler) :
    (s.modAsm l f).policy = s.policy := rfl
@[simp] theorem State.modAsm_survey (s : State) (l : Nat) (f : Assembler → Assembler) :
    (s.modAsm l f).survey = s.survey := rfl
@[simp] theorem State.modAsm_output (s : State) (l : Nat) (f : Assembler → Assembler) :
    (s.modAsm l f).output = s.output := rfl
@[simp] theorem State.modAsm_slots (s : State) (l : Nat) (f : Assembler → Assembler) :
    (s.modAsm l f).slots = s.slots := rfl
@[simp] theorem State.modAsm_store (s : State) (l : Nat) (f : Assembler → Assembler) :
    (s.modAsm l f).store = s.store := rfl
@[simp] theorem State.modAsm_mgmt (s : State) (l : Nat) (f : Assembler → Assembler) :
    (s.modAsm l f).mgmt = s.mgmt := rfl
@[simp] theorem State.modAsm_handed (s : State) (l : Nat) (f : Assembler → Assembler) :
    (s.modAsm l f).handed = s.handed := rfl
@[simp] theorem State.modAsm_freeCount (s : State) (l : Nat) (f : Assembler → Assembler) :
    (s.modAsm l f).freeCount = s.freeCount := rfl
@[simp] theorem State.modAsm_pending (s : State) (l : Nat) (f : Assembler → Assembler) :
    (s.modAsm l f).pending = s.pending := rfl

/-! ## modRover -/

@[simp] theorem State.modRover_clock (s : State) (l : Nat) (f : Rover → Rover) :
    (s.modRover l f).clock = s.clock := rfl
@[simp] theorem State.modRover_pins (s : State) (l : Nat) (f : Rover → Rover) :
    (s.modRover l f).pins = s.pins := rfl
@[simp] theorem State.modRover_resetHeld (s : State) (l : Nat) (f : Rover → Rover) :
    (s.modRover l f).resetHeld = s.resetHeld := rfl
@[simp] theorem State.modRover_entries (s : State) (l : Nat) (f : Rover → Rover) :
    (s.modRover l f).entries = s.entries := rfl
@[simp] theorem State.modRover_surveyPointer (s : State) (l : Nat) (f : Rover → Rover) :
    (s.modRover l f).surveyPointer = s.surveyPointer := rfl
@[simp] theorem State.modRover_promptSet (s : State) (l : Nat) (f : Rover → Rover) :
    (s.modRover l f).promptSet = s.promptSet := rfl
@[simp] theorem State.modRover_lanes (s : State) (l : Nat) (f : Rover → Rover) :
    (s.modRover l f).lanes = s.lanes.modify l fun n => { n with rover := n.rover.map f } := rfl
@[simp] theorem State.modRover_services (s : State) (l : Nat) (f : Rover → Rover) :
    (s.modRover l f).services = s.services := rfl
@[simp] theorem State.modRover_carriages (s : State) (l : Nat) (f : Rover → Rover) :
    (s.modRover l f).carriages = s.carriages := rfl
@[simp] theorem State.modRover_bindings (s : State) (l : Nat) (f : Rover → Rover) :
    (s.modRover l f).bindings = s.bindings := rfl
@[simp] theorem State.modRover_watch (s : State) (l : Nat) (f : Rover → Rover) :
    (s.modRover l f).watch = s.watch := rfl
@[simp] theorem State.modRover_watchSeen (s : State) (l : Nat) (f : Rover → Rover) :
    (s.modRover l f).watchSeen = s.watchSeen := rfl
@[simp] theorem State.modRover_policy (s : State) (l : Nat) (f : Rover → Rover) :
    (s.modRover l f).policy = s.policy := rfl
@[simp] theorem State.modRover_survey (s : State) (l : Nat) (f : Rover → Rover) :
    (s.modRover l f).survey = s.survey := rfl
@[simp] theorem State.modRover_output (s : State) (l : Nat) (f : Rover → Rover) :
    (s.modRover l f).output = s.output := rfl
@[simp] theorem State.modRover_slots (s : State) (l : Nat) (f : Rover → Rover) :
    (s.modRover l f).slots = s.slots := rfl
@[simp] theorem State.modRover_store (s : State) (l : Nat) (f : Rover → Rover) :
    (s.modRover l f).store = s.store := rfl
@[simp] theorem State.modRover_mgmt (s : State) (l : Nat) (f : Rover → Rover) :
    (s.modRover l f).mgmt = s.mgmt := rfl
@[simp] theorem State.modRover_handed (s : State) (l : Nat) (f : Rover → Rover) :
    (s.modRover l f).handed = s.handed := rfl
@[simp] theorem State.modRover_freeCount (s : State) (l : Nat) (f : Rover → Rover) :
    (s.modRover l f).freeCount = s.freeCount := rfl
@[simp] theorem State.modRover_pending (s : State) (l : Nat) (f : Rover → Rover) :
    (s.modRover l f).pending = s.pending := rfl

/-! ## modSlot -/

@[simp] theorem State.modSlot_clock (s : State) (k : Nat) (f : Slot → Slot) :
    (s.modSlot k f).clock = s.clock := rfl
@[simp] theorem State.modSlot_pins (s : State) (k : Nat) (f : Slot → Slot) :
    (s.modSlot k f).pins = s.pins := rfl
@[simp] theorem State.modSlot_resetHeld (s : State) (k : Nat) (f : Slot → Slot) :
    (s.modSlot k f).resetHeld = s.resetHeld := rfl
@[simp] theorem State.modSlot_entries (s : State) (k : Nat) (f : Slot → Slot) :
    (s.modSlot k f).entries = s.entries := rfl
@[simp] theorem State.modSlot_surveyPointer (s : State) (k : Nat) (f : Slot → Slot) :
    (s.modSlot k f).surveyPointer = s.surveyPointer := rfl
@[simp] theorem State.modSlot_promptSet (s : State) (k : Nat) (f : Slot → Slot) :
    (s.modSlot k f).promptSet = s.promptSet := rfl
@[simp] theorem State.modSlot_lanes (s : State) (k : Nat) (f : Slot → Slot) :
    (s.modSlot k f).lanes = s.lanes := rfl
@[simp] theorem State.modSlot_services (s : State) (k : Nat) (f : Slot → Slot) :
    (s.modSlot k f).services = s.services := rfl
@[simp] theorem State.modSlot_carriages (s : State) (k : Nat) (f : Slot → Slot) :
    (s.modSlot k f).carriages = s.carriages := rfl
@[simp] theorem State.modSlot_bindings (s : State) (k : Nat) (f : Slot → Slot) :
    (s.modSlot k f).bindings = s.bindings := rfl
@[simp] theorem State.modSlot_watch (s : State) (k : Nat) (f : Slot → Slot) :
    (s.modSlot k f).watch = s.watch := rfl
@[simp] theorem State.modSlot_watchSeen (s : State) (k : Nat) (f : Slot → Slot) :
    (s.modSlot k f).watchSeen = s.watchSeen := rfl
@[simp] theorem State.modSlot_policy (s : State) (k : Nat) (f : Slot → Slot) :
    (s.modSlot k f).policy = s.policy := rfl
@[simp] theorem State.modSlot_survey (s : State) (k : Nat) (f : Slot → Slot) :
    (s.modSlot k f).survey = s.survey := rfl
@[simp] theorem State.modSlot_output (s : State) (k : Nat) (f : Slot → Slot) :
    (s.modSlot k f).output = s.output := rfl
@[simp] theorem State.modSlot_slots (s : State) (k : Nat) (f : Slot → Slot) :
    (s.modSlot k f).slots = s.slots.modify k f := rfl
@[simp] theorem State.modSlot_store (s : State) (k : Nat) (f : Slot → Slot) :
    (s.modSlot k f).store = s.store := rfl
@[simp] theorem State.modSlot_mgmt (s : State) (k : Nat) (f : Slot → Slot) :
    (s.modSlot k f).mgmt = s.mgmt := rfl
@[simp] theorem State.modSlot_handed (s : State) (k : Nat) (f : Slot → Slot) :
    (s.modSlot k f).handed = s.handed := rfl
@[simp] theorem State.modSlot_freeCount (s : State) (k : Nat) (f : Slot → Slot) :
    (s.modSlot k f).freeCount = s.freeCount := rfl
@[simp] theorem State.modSlot_pending (s : State) (k : Nat) (f : Slot → Slot) :
    (s.modSlot k f).pending = s.pending := rfl

/-! ## modCarriage -/

@[simp] theorem State.modCarriage_clock (s : State) (c : Nat) (f : Carriage → Carriage) :
    (s.modCarriage c f).clock = s.clock := rfl
@[simp] theorem State.modCarriage_pins (s : State) (c : Nat) (f : Carriage → Carriage) :
    (s.modCarriage c f).pins = s.pins := rfl
@[simp] theorem State.modCarriage_resetHeld (s : State) (c : Nat) (f : Carriage → Carriage) :
    (s.modCarriage c f).resetHeld = s.resetHeld := rfl
@[simp] theorem State.modCarriage_entries (s : State) (c : Nat) (f : Carriage → Carriage) :
    (s.modCarriage c f).entries = s.entries := rfl
@[simp] theorem State.modCarriage_surveyPointer (s : State) (c : Nat) (f : Carriage → Carriage) :
    (s.modCarriage c f).surveyPointer = s.surveyPointer := rfl
@[simp] theorem State.modCarriage_promptSet (s : State) (c : Nat) (f : Carriage → Carriage) :
    (s.modCarriage c f).promptSet = s.promptSet := rfl
@[simp] theorem State.modCarriage_lanes (s : State) (c : Nat) (f : Carriage → Carriage) :
    (s.modCarriage c f).lanes = s.lanes := rfl
@[simp] theorem State.modCarriage_services (s : State) (c : Nat) (f : Carriage → Carriage) :
    (s.modCarriage c f).services = s.services := rfl
@[simp] theorem State.modCarriage_carriages (s : State) (c : Nat) (f : Carriage → Carriage) :
    (s.modCarriage c f).carriages = tableModify s.carriages c f := rfl
@[simp] theorem State.modCarriage_bindings (s : State) (c : Nat) (f : Carriage → Carriage) :
    (s.modCarriage c f).bindings = s.bindings := rfl
@[simp] theorem State.modCarriage_watch (s : State) (c : Nat) (f : Carriage → Carriage) :
    (s.modCarriage c f).watch = s.watch := rfl
@[simp] theorem State.modCarriage_watchSeen (s : State) (c : Nat) (f : Carriage → Carriage) :
    (s.modCarriage c f).watchSeen = s.watchSeen := rfl
@[simp] theorem State.modCarriage_policy (s : State) (c : Nat) (f : Carriage → Carriage) :
    (s.modCarriage c f).policy = s.policy := rfl
@[simp] theorem State.modCarriage_survey (s : State) (c : Nat) (f : Carriage → Carriage) :
    (s.modCarriage c f).survey = s.survey := rfl
@[simp] theorem State.modCarriage_output (s : State) (c : Nat) (f : Carriage → Carriage) :
    (s.modCarriage c f).output = s.output := rfl
@[simp] theorem State.modCarriage_slots (s : State) (c : Nat) (f : Carriage → Carriage) :
    (s.modCarriage c f).slots = s.slots := rfl
@[simp] theorem State.modCarriage_store (s : State) (c : Nat) (f : Carriage → Carriage) :
    (s.modCarriage c f).store = s.store := rfl
@[simp] theorem State.modCarriage_mgmt (s : State) (c : Nat) (f : Carriage → Carriage) :
    (s.modCarriage c f).mgmt = s.mgmt := rfl
@[simp] theorem State.modCarriage_handed (s : State) (c : Nat) (f : Carriage → Carriage) :
    (s.modCarriage c f).handed = s.handed := rfl
@[simp] theorem State.modCarriage_freeCount (s : State) (c : Nat) (f : Carriage → Carriage) :
    (s.modCarriage c f).freeCount = s.freeCount := rfl
@[simp] theorem State.modCarriage_pending (s : State) (c : Nat) (f : Carriage → Carriage) :
    (s.modCarriage c f).pending = s.pending := rfl

/-! ## modService -/

@[simp] theorem State.modService_clock (s : State) (key : Key) (f : Service → Service) :
    (s.modService key f).clock = s.clock := rfl
@[simp] theorem State.modService_pins (s : State) (key : Key) (f : Service → Service) :
    (s.modService key f).pins = s.pins := rfl
@[simp] theorem State.modService_resetHeld (s : State) (key : Key) (f : Service → Service) :
    (s.modService key f).resetHeld = s.resetHeld := rfl
@[simp] theorem State.modService_entries (s : State) (key : Key) (f : Service → Service) :
    (s.modService key f).entries = s.entries := rfl
@[simp] theorem State.modService_surveyPointer (s : State) (key : Key) (f : Service → Service) :
    (s.modService key f).surveyPointer = s.surveyPointer := rfl
@[simp] theorem State.modService_promptSet (s : State) (key : Key) (f : Service → Service) :
    (s.modService key f).promptSet = s.promptSet := rfl
@[simp] theorem State.modService_lanes (s : State) (key : Key) (f : Service → Service) :
    (s.modService key f).lanes = s.lanes := rfl
@[simp] theorem State.modService_services (s : State) (key : Key) (f : Service → Service) :
    (s.modService key f).services = s.services.map fun x => if x.2.key = key then (x.1, f x.2) else x := rfl
@[simp] theorem State.modService_carriages (s : State) (key : Key) (f : Service → Service) :
    (s.modService key f).carriages = s.carriages := rfl
@[simp] theorem State.modService_bindings (s : State) (key : Key) (f : Service → Service) :
    (s.modService key f).bindings = s.bindings := rfl
@[simp] theorem State.modService_watch (s : State) (key : Key) (f : Service → Service) :
    (s.modService key f).watch = s.watch := rfl
@[simp] theorem State.modService_watchSeen (s : State) (key : Key) (f : Service → Service) :
    (s.modService key f).watchSeen = s.watchSeen := rfl
@[simp] theorem State.modService_policy (s : State) (key : Key) (f : Service → Service) :
    (s.modService key f).policy = s.policy := rfl
@[simp] theorem State.modService_survey (s : State) (key : Key) (f : Service → Service) :
    (s.modService key f).survey = s.survey := rfl
@[simp] theorem State.modService_output (s : State) (key : Key) (f : Service → Service) :
    (s.modService key f).output = s.output := rfl
@[simp] theorem State.modService_slots (s : State) (key : Key) (f : Service → Service) :
    (s.modService key f).slots = s.slots := rfl
@[simp] theorem State.modService_store (s : State) (key : Key) (f : Service → Service) :
    (s.modService key f).store = s.store := rfl
@[simp] theorem State.modService_mgmt (s : State) (key : Key) (f : Service → Service) :
    (s.modService key f).mgmt = s.mgmt := rfl
@[simp] theorem State.modService_handed (s : State) (key : Key) (f : Service → Service) :
    (s.modService key f).handed = s.handed := rfl
@[simp] theorem State.modService_freeCount (s : State) (key : Key) (f : Service → Service) :
    (s.modService key f).freeCount = s.freeCount := rfl
@[simp] theorem State.modService_pending (s : State) (key : Key) (f : Service → Service) :
    (s.modService key f).pending = s.pending := rfl

/-! ## modBinding -/

@[simp] theorem State.modBinding_clock (s : State) (name : BindingName) (f : Binding → Binding) :
    (s.modBinding name f).clock = s.clock := rfl
@[simp] theorem State.modBinding_pins (s : State) (name : BindingName) (f : Binding → Binding) :
    (s.modBinding name f).pins = s.pins := rfl
@[simp] theorem State.modBinding_resetHeld (s : State) (name : BindingName) (f : Binding → Binding) :
    (s.modBinding name f).resetHeld = s.resetHeld := rfl
@[simp] theorem State.modBinding_entries (s : State) (name : BindingName) (f : Binding → Binding) :
    (s.modBinding name f).entries = s.entries := rfl
@[simp] theorem State.modBinding_surveyPointer (s : State) (name : BindingName) (f : Binding → Binding) :
    (s.modBinding name f).surveyPointer = s.surveyPointer := rfl
@[simp] theorem State.modBinding_promptSet (s : State) (name : BindingName) (f : Binding → Binding) :
    (s.modBinding name f).promptSet = s.promptSet := rfl
@[simp] theorem State.modBinding_lanes (s : State) (name : BindingName) (f : Binding → Binding) :
    (s.modBinding name f).lanes = s.lanes := rfl
@[simp] theorem State.modBinding_services (s : State) (name : BindingName) (f : Binding → Binding) :
    (s.modBinding name f).services = s.services := rfl
@[simp] theorem State.modBinding_carriages (s : State) (name : BindingName) (f : Binding → Binding) :
    (s.modBinding name f).carriages = s.carriages := rfl
@[simp] theorem State.modBinding_bindings (s : State) (name : BindingName) (f : Binding → Binding) :
    (s.modBinding name f).bindings = s.bindings.map fun b => if b.name = name then f b else b := rfl
@[simp] theorem State.modBinding_watch (s : State) (name : BindingName) (f : Binding → Binding) :
    (s.modBinding name f).watch = s.watch := rfl
@[simp] theorem State.modBinding_watchSeen (s : State) (name : BindingName) (f : Binding → Binding) :
    (s.modBinding name f).watchSeen = s.watchSeen := rfl
@[simp] theorem State.modBinding_policy (s : State) (name : BindingName) (f : Binding → Binding) :
    (s.modBinding name f).policy = s.policy := rfl
@[simp] theorem State.modBinding_survey (s : State) (name : BindingName) (f : Binding → Binding) :
    (s.modBinding name f).survey = s.survey := rfl
@[simp] theorem State.modBinding_output (s : State) (name : BindingName) (f : Binding → Binding) :
    (s.modBinding name f).output = s.output := rfl
@[simp] theorem State.modBinding_slots (s : State) (name : BindingName) (f : Binding → Binding) :
    (s.modBinding name f).slots = s.slots := rfl
@[simp] theorem State.modBinding_store (s : State) (name : BindingName) (f : Binding → Binding) :
    (s.modBinding name f).store = s.store := rfl
@[simp] theorem State.modBinding_mgmt (s : State) (name : BindingName) (f : Binding → Binding) :
    (s.modBinding name f).mgmt = s.mgmt := rfl
@[simp] theorem State.modBinding_handed (s : State) (name : BindingName) (f : Binding → Binding) :
    (s.modBinding name f).handed = s.handed := rfl
@[simp] theorem State.modBinding_freeCount (s : State) (name : BindingName) (f : Binding → Binding) :
    (s.modBinding name f).freeCount = s.freeCount := rfl
@[simp] theorem State.modBinding_pending (s : State) (name : BindingName) (f : Binding → Binding) :
    (s.modBinding name f).pending = s.pending := rfl

/-! ## hand -/

@[simp] theorem State.hand_clock (s : State) (key : Key) :
    (s.hand key).clock = s.clock := rfl
@[simp] theorem State.hand_pins (s : State) (key : Key) :
    (s.hand key).pins = s.pins := rfl
@[simp] theorem State.hand_resetHeld (s : State) (key : Key) :
    (s.hand key).resetHeld = s.resetHeld := rfl
@[simp] theorem State.hand_entries (s : State) (key : Key) :
    (s.hand key).entries = s.entries := rfl
@[simp] theorem State.hand_surveyPointer (s : State) (key : Key) :
    (s.hand key).surveyPointer = s.surveyPointer := rfl
@[simp] theorem State.hand_promptSet (s : State) (key : Key) :
    (s.hand key).promptSet = s.promptSet := rfl
@[simp] theorem State.hand_lanes (s : State) (key : Key) :
    (s.hand key).lanes = s.lanes := rfl
@[simp] theorem State.hand_services (s : State) (key : Key) :
    (s.hand key).services = s.services := rfl
@[simp] theorem State.hand_carriages (s : State) (key : Key) :
    (s.hand key).carriages = s.carriages := rfl
@[simp] theorem State.hand_bindings (s : State) (key : Key) :
    (s.hand key).bindings = s.bindings := rfl
@[simp] theorem State.hand_watch (s : State) (key : Key) :
    (s.hand key).watch = s.watch := rfl
@[simp] theorem State.hand_watchSeen (s : State) (key : Key) :
    (s.hand key).watchSeen = s.watchSeen := rfl
@[simp] theorem State.hand_policy (s : State) (key : Key) :
    (s.hand key).policy = s.policy := rfl
@[simp] theorem State.hand_survey (s : State) (key : Key) :
    (s.hand key).survey = s.survey := rfl
@[simp] theorem State.hand_output (s : State) (key : Key) :
    (s.hand key).output = s.output := rfl
@[simp] theorem State.hand_slots (s : State) (key : Key) :
    (s.hand key).slots = s.slots := rfl
@[simp] theorem State.hand_store (s : State) (key : Key) :
    (s.hand key).store = s.store := rfl
@[simp] theorem State.hand_mgmt (s : State) (key : Key) :
    (s.hand key).mgmt = s.mgmt := rfl
@[simp] theorem State.hand_handed (s : State) (key : Key) :
    (s.hand key).handed = s.handed ++ [{ key := key, scored := none }] := rfl
@[simp] theorem State.hand_freeCount (s : State) (key : Key) :
    (s.hand key).freeCount = s.freeCount := rfl
@[simp] theorem State.hand_pending (s : State) (key : Key) :
    (s.hand key).pending = s.pending := rfl

/-! ## handScored -/

@[simp] theorem State.handScored_clock (s : State) (key : Key) (c : Nat) :
    (s.handScored key c).clock = s.clock := rfl
@[simp] theorem State.handScored_pins (s : State) (key : Key) (c : Nat) :
    (s.handScored key c).pins = s.pins := rfl
@[simp] theorem State.handScored_resetHeld (s : State) (key : Key) (c : Nat) :
    (s.handScored key c).resetHeld = s.resetHeld := rfl
@[simp] theorem State.handScored_entries (s : State) (key : Key) (c : Nat) :
    (s.handScored key c).entries = s.entries := rfl
@[simp] theorem State.handScored_surveyPointer (s : State) (key : Key) (c : Nat) :
    (s.handScored key c).surveyPointer = s.surveyPointer := rfl
@[simp] theorem State.handScored_promptSet (s : State) (key : Key) (c : Nat) :
    (s.handScored key c).promptSet = s.promptSet := rfl
@[simp] theorem State.handScored_lanes (s : State) (key : Key) (c : Nat) :
    (s.handScored key c).lanes = s.lanes := rfl
@[simp] theorem State.handScored_services (s : State) (key : Key) (c : Nat) :
    (s.handScored key c).services = s.services := rfl
@[simp] theorem State.handScored_carriages (s : State) (key : Key) (c : Nat) :
    (s.handScored key c).carriages = s.carriages := rfl
@[simp] theorem State.handScored_bindings (s : State) (key : Key) (c : Nat) :
    (s.handScored key c).bindings = s.bindings := rfl
@[simp] theorem State.handScored_watch (s : State) (key : Key) (c : Nat) :
    (s.handScored key c).watch = s.watch := rfl
@[simp] theorem State.handScored_watchSeen (s : State) (key : Key) (c : Nat) :
    (s.handScored key c).watchSeen = s.watchSeen := rfl
@[simp] theorem State.handScored_policy (s : State) (key : Key) (c : Nat) :
    (s.handScored key c).policy = s.policy := rfl
@[simp] theorem State.handScored_survey (s : State) (key : Key) (c : Nat) :
    (s.handScored key c).survey = s.survey := rfl
@[simp] theorem State.handScored_output (s : State) (key : Key) (c : Nat) :
    (s.handScored key c).output = s.output := rfl
@[simp] theorem State.handScored_slots (s : State) (key : Key) (c : Nat) :
    (s.handScored key c).slots = s.slots := rfl
@[simp] theorem State.handScored_store (s : State) (key : Key) (c : Nat) :
    (s.handScored key c).store = s.store := rfl
@[simp] theorem State.handScored_mgmt (s : State) (key : Key) (c : Nat) :
    (s.handScored key c).mgmt = s.mgmt := rfl
@[simp] theorem State.handScored_handed (s : State) (key : Key) (c : Nat) :
    (s.handScored key c).handed = s.handed ++ [{ key := key, scored := some c }] := rfl
@[simp] theorem State.handScored_freeCount (s : State) (key : Key) (c : Nat) :
    (s.handScored key c).freeCount = s.freeCount := rfl
@[simp] theorem State.handScored_pending (s : State) (key : Key) (c : Nat) :
    (s.handScored key c).pending = s.pending := rfl

end Sys2Proof.Machine
end

