-- ==== Sys2Proof/Laws/Access.lean ====
section
/-! SUPPORT. Reading the tables after each named update: the record that was changed, and every other one. -/

namespace Sys2Proof.Machine

open Sys2Proof

/-! ## Lists -/

theorem getD_modify_same {α : Type} (l : List α) (i : Nat) (f : α → α) (d : α) (h : i < l.length) :
    (l.modify i f).getD i d = f (l.getD i d) := by
  simp [List.getD, h]

theorem getD_modify_other {α : Type} (l : List α) (i j : Nat) (f : α → α) (d : α) (h : i ≠ j) :
    (l.modify i f).getD j d = l.getD j d := by
  simp [List.getD, h]

theorem modify_modify_same {α : Type} (l : List α) (i : Nat) (f g : α → α) :
    (l.modify i f).modify i g = l.modify i fun a => g (f a) := by
  apply List.ext_getElem?
  intro j
  by_cases h : i = j <;> simp [h, Function.comp_def]

theorem modify_congr_at {α : Type} (l : List α) (i : Nat) (f g : α → α) (h : ∀ a, l[i]? = some a → f a = g a) :
    l.modify i f = l.modify i g := by
  apply List.ext_getElem?
  intro j
  by_cases hj : i = j
  · subst hj
    cases hi : l[i]? with
    | none => simp [hi]
    | some a => simp [hi, h a hi]
  · simp [hj]

/-! ## Lanes, plan entries and slots -/

theorem State.lane_modLane (s : State) (l : Nat) (f : Lane → Lane) (h : l < s.lanes.length) :
    (s.modLane l f).lane l = f (s.lane l) := getD_modify_same s.lanes l f _ h

theorem State.lane_modLane_other (s : State) (l m : Nat) (f : Lane → Lane) (h : l ≠ m) :
    (s.modLane l f).lane m = s.lane m := getD_modify_other s.lanes l m f _ h

theorem State.entry_modEntry (s : State) (e : Nat) (f : PlanEntry → PlanEntry) (h : e < s.entries.length) :
    (s.modEntry e f).entry e = f (s.entry e) := getD_modify_same s.entries e f _ h

theorem State.entry_modEntry_other (s : State) (e m : Nat) (f : PlanEntry → PlanEntry) (h : e ≠ m) :
    (s.modEntry e f).entry m = s.entry m := getD_modify_other s.entries e m f _ h

theorem State.slot_modSlot (s : State) (k : Nat) (f : Slot → Slot) (h : k < s.slots.length) :
    (s.modSlot k f).slot k = f (s.slot k) := getD_modify_same s.slots k f _ h

theorem State.slot_modSlot_other (s : State) (k m : Nat) (f : Slot → Slot) (h : k ≠ m) :
    (s.modSlot k f).slot m = s.slot m := getD_modify_other s.slots k m f _ h

theorem State.modLane_modLane (s : State) (l : Nat) (f g : Lane → Lane) :
    (s.modLane l f).modLane l g = s.modLane l fun n => g (f n) := by
  simp [State.modLane, modify_modify_same]

theorem State.modSlot_modSlot (s : State) (k : Nat) (f g : Slot → Slot) :
    (s.modSlot k f).modSlot k g = s.modSlot k fun x => g (f x) := by
  simp [State.modSlot, modify_modify_same]

theorem State.modEntry_modEntry (s : State) (e : Nat) (f g : PlanEntry → PlanEntry) :
    (s.modEntry e f).modEntry e g = s.modEntry e fun x => g (f x) := by
  simp [State.modEntry, modify_modify_same]

/-! ## The tables of services and carriages -/

theorem tableGet_map {α : Type} (t : List (Nat × α)) (g : Nat × α → α) (i : Nat) :
    tableGet (t.map fun x => (x.1, g x)) i = (tableGet t i).map fun a => g (i, a) := by
  induction t with
  | nil => rfl
  | cons x t ih =>
    obtain ⟨j, a⟩ := x
    by_cases h : j = i
    · subst h; simp [tableGet]
    · simpa [tableGet, h] using ih

theorem tableGet_modify_same {α : Type} (t : List (Nat × α)) (i : Nat) (f : α → α) :
    tableGet (tableModify t i f) i = (tableGet t i).map f := by
  induction t with
  | nil => rfl
  | cons x t ih =>
    obtain ⟨j, a⟩ := x
    by_cases h : j = i
    · subst h; simp [tableGet, tableModify]
    · simpa [tableGet, tableModify, h] using ih

theorem tableGet_modify_other {α : Type} (t : List (Nat × α)) (i j : Nat) (f : α → α) (h : i ≠ j) :
    tableGet (tableModify t i f) j = tableGet t j := by
  induction t with
  | nil => rfl
  | cons x t ih =>
    obtain ⟨k, a⟩ := x
    by_cases hk : k = i
    · subst hk; simpa [tableGet, tableModify, h] using ih
    · by_cases hj : k = j
      · subst hj; simp [tableGet, tableModify, hk]
      · simpa [tableGet, tableModify, hk, hj] using ih

theorem tableGet_mem {α : Type} {t : List (Nat × α)} {i : Nat} {a : α} (h : tableGet t i = some a) : (i, a) ∈ t := by
  induction t with
  | nil => simp [tableGet] at h
  | cons x t ih =>
    obtain ⟨j, b⟩ := x
    by_cases hj : j = i
    · subst hj
      simp [tableGet] at h
      simp [h]
    · simp only [tableGet, hj, if_false] at h
      exact List.mem_cons_of_mem _ (ih h)

/-- In a table in rising order of index, each record listed is the one read at its index. -/
theorem tableGet_of_mem {α : Type} {t : List (Nat × α)} {i : Nat} {a : α}
    (ho : t.Pairwise fun x y => x.1 < y.1) (h : (i, a) ∈ t) : tableGet t i = some a := by
  induction t with
  | nil => simp at h
  | cons x t ih =>
    obtain ⟨j, b⟩ := x
    rw [List.pairwise_cons] at ho
    rcases List.mem_cons.1 h with heq | hm
    · cases heq; simp [tableGet]
    · have := ho.1 _ hm
      have hne : j ≠ i := by
        intro he
        simp only [he] at this
        omega
      simp [tableGet, hne, ih ho.2 hm]

theorem State.carriage_modCarriage (s : State) (c : Nat) (f : Carriage → Carriage) :
    (s.modCarriage c f).carriage c = (s.carriage c).map f := tableGet_modify_same s.carriages c f

theorem State.carriage_modCarriage_other (s : State) (c d : Nat) (f : Carriage → Carriage) (h : c ≠ d) :
    (s.modCarriage c f).carriage d = s.carriage d := tableGet_modify_other s.carriages c d f h

theorem find_map_key (t : List (Nat × Service)) (key k : Key) (f : Service → Service) (hf : ∀ v, (f v).key = v.key) :
    ((t.map fun x => if x.2.key = key then (x.1, f x.2) else x).find? fun x => x.2.key = k)
      = (t.find? fun x => x.2.key = k).map fun x => if x.2.key = key then (x.1, f x.2) else x := by
  induction t with
  | nil => rfl
  | cons x t ih =>
    have hkey : (if x.2.key = key then (x.1, f x.2) else x).2.key = x.2.key := by
      split <;> simp [hf]
    by_cases hx : x.2.key = k
    · simp only [List.map_cons, List.find?_cons, hkey, decide_eq_true hx, Option.map_some]
    · simp only [List.map_cons, List.find?_cons, hkey, decide_eq_false hx]
      exact ih

theorem State.service_modService (s : State) (key : Key) (f : Service → Service) (hf : ∀ v, (f v).key = v.key) :
    (s.modService key f).service key = (s.service key).map f := by
  simp only [State.service, State.modService, find_map_key s.services key key f hf]
  cases h : s.services.find? fun x => x.2.key = key with
  | none => rfl
  | some x =>
    have hx : x.2.key = key := by simpa using List.find?_some h
    simp [hx]

theorem State.service_modService_other (s : State) (key k : Key) (f : Service → Service)
    (hf : ∀ v, (f v).key = v.key) (hk : key ≠ k) : (s.modService key f).service k = s.service k := by
  simp only [State.service, State.modService, find_map_key s.services key k f hf]
  cases h : s.services.find? fun x => x.2.key = k with
  | none => rfl
  | some x =>
    have hx : x.2.key = k := by simpa using List.find?_some h
    have hne : ¬ k = key := fun he => hk he.symm
    simp [hx, hne]

end Sys2Proof.Machine
end

