-- ==== Sys2Proof/Laws/Within.lean ====
section
/-! SUPPORT. What each shared operation may touch: one lemma per operation, in the terms of Safety.lean. -/

namespace Sys2Proof.Machine

open Sys2Proof

/-! ## The relation -/

theorem Part.alike_refl (s : State) (p : Part) : p.alike s s := by
  cases p <;> simp [Part.alike]

theorem Part.alike_trans {s t u : State} {p : Part} (h : p.alike s t) (g : p.alike t u) : p.alike s u := by
  cases p <;> simp_all [Part.alike]

theorem Within.refl (ps : List Part) (s : State) : Within ps s s := fun p _ => p.alike_refl s

theorem Within.trans {ps : List Part} {s t u : State} (h : Within ps s t) (g : Within ps t u) : Within ps s u :=
  fun p hp => Part.alike_trans (h p hp) (g p hp)

theorem Within.mono {ps qs : List Part} {s t : State} (h : Within ps s t) (hs : ps ⊆ qs) :
    Within qs s t := fun p hp => h p fun hq => hp (hs hq)

/-- A fold touches what one round of it touches. -/
theorem Within.foldl {α : Type} {ps : List Part} (f : State → α → State) (h : ∀ s a, Within ps s (f s a))
    (l : List α) (s : State) : Within ps s (l.foldl f s) := by
  induction l generalizing s with
  | nil => exact Within.refl ps s
  | cons a l ih => exact (h s a).trans (ih (f s a))

theorem Within.ite {ps : List Part} {s t u : State} {b : Prop} [Decidable b] (h : Within ps s t)
    (g : Within ps s u) : Within ps s (if b then t else u) := by
  split <;> assumption

/-! ## One field at a time -/

theorem entries_within (s : State) (x) : Within [.entries] s { s with entries := x } := by
  intro p hp; cases p <;> first | exact rfl | exact ⟨rfl, rfl⟩ | exact ⟨rfl, rfl, rfl, rfl⟩ |
    exact ⟨rfl, rfl, rfl, rfl, rfl, rfl, rfl, rfl, rfl, rfl, rfl⟩ | exact absurd (by decide) hp

theorem lanes_within (s : State) (x) : Within [.lanes] s { s with lanes := x } := by
  intro p hp; cases p <;> first | exact rfl | exact ⟨rfl, rfl⟩ | exact ⟨rfl, rfl, rfl, rfl⟩ |
    exact ⟨rfl, rfl, rfl, rfl, rfl, rfl, rfl, rfl, rfl, rfl, rfl⟩ | exact absurd (by decide) hp

theorem slots_within (s : State) (x) : Within [.slots] s { s with slots := x } := by
  intro p hp; cases p <;> first | exact rfl | exact ⟨rfl, rfl⟩ | exact ⟨rfl, rfl, rfl, rfl⟩ |
    exact ⟨rfl, rfl, rfl, rfl, rfl, rfl, rfl, rfl, rfl, rfl, rfl⟩ | exact absurd (by decide) hp

theorem carriages_within (s : State) (x) : Within [.carriages] s { s with carriages := x } := by
  intro p hp; cases p <;> first | exact rfl | exact ⟨rfl, rfl⟩ | exact ⟨rfl, rfl, rfl, rfl⟩ |
    exact ⟨rfl, rfl, rfl, rfl, rfl, rfl, rfl, rfl, rfl, rfl, rfl⟩ | exact absurd (by decide) hp

theorem services_within (s : State) (x) : Within [.services] s { s with services := x } := by
  intro p hp; cases p <;> first | exact rfl | exact ⟨rfl, rfl⟩ | exact ⟨rfl, rfl, rfl, rfl⟩ |
    exact ⟨rfl, rfl, rfl, rfl, rfl, rfl, rfl, rfl, rfl, rfl, rfl⟩ | exact absurd (by decide) hp

theorem bindings_within (s : State) (x) : Within [.bindings] s { s with bindings := x } := by
  intro p hp; cases p <;> first | exact rfl | exact ⟨rfl, rfl⟩ | exact ⟨rfl, rfl, rfl, rfl⟩ |
    exact ⟨rfl, rfl, rfl, rfl, rfl, rfl, rfl, rfl, rfl, rfl, rfl⟩ | exact absurd (by decide) hp

theorem handed_within (s : State) (x) : Within [.handed] s { s with handed := x } := by
  intro p hp; cases p <;> first | exact rfl | exact ⟨rfl, rfl⟩ | exact ⟨rfl, rfl, rfl, rfl⟩ |
    exact ⟨rfl, rfl, rfl, rfl, rfl, rfl, rfl, rfl, rfl, rfl, rfl⟩ | exact absurd (by decide) hp

theorem watchSeen_within (s : State) (x) : Within [.watchSeen] s { s with watchSeen := x } := by
  intro p hp; cases p <;> first | exact rfl | exact ⟨rfl, rfl⟩ | exact ⟨rfl, rfl, rfl, rfl⟩ |
    exact ⟨rfl, rfl, rfl, rfl, rfl, rfl, rfl, rfl, rfl, rfl, rfl⟩ | exact absurd (by decide) hp

theorem promptSet_within (s : State) (x) : Within [.survey] s { s with promptSet := x } := by
  intro p hp; cases p <;> first | exact rfl | exact ⟨rfl, rfl⟩ | exact ⟨rfl, rfl, rfl, rfl⟩ |
    exact ⟨rfl, rfl, rfl, rfl, rfl, rfl, rfl, rfl, rfl, rfl, rfl⟩ | exact absurd (by decide) hp

theorem surveyPointer_within (s : State) (x) : Within [.survey] s { s with surveyPointer := x } := by
  intro p hp; cases p <;> first | exact rfl | exact ⟨rfl, rfl⟩ | exact ⟨rfl, rfl, rfl, rfl⟩ |
    exact ⟨rfl, rfl, rfl, rfl, rfl, rfl, rfl, rfl, rfl, rfl, rfl⟩ | exact absurd (by decide) hp

/-- A change of the store touches the parts of the store it changes. -/
theorem store_within {ps : List Part} (s : State) (y : Store)
    (h1 : .buffers ∈ ps ∨ y.freeBuffers = s.store.freeBuffers)
    (h2 : .share ∈ ps ∨ y.automaticShare = s.store.automaticShare)
    (h3 : .controlQueue ∈ ps ∨ y.controlQueue = s.store.controlQueue)
    (h4 : .directory ∈ ps ∨ Part.alike s { s with store := y } .directory)
    (h5 : .skips ∈ ps ∨ y.directorySkips = s.store.directorySkips)
    (h6 : .port ∈ ps ∨ Part.alike s { s with store := y } .port)
    (h7 : .rateSet ∈ ps ∨ y.rateSet = s.store.rateSet) : Within ps s { s with store := y } := by
  intro p hp
  cases p
  case buffers => exact h1.resolve_left hp
  case share => exact h2.resolve_left hp
  case controlQueue => exact h3.resolve_left hp
  case directory => exact h4.resolve_left hp
  case skips => exact h5.resolve_left hp
  case port => exact h6.resolve_left hp
  case rateSet => exact h7.resolve_left hp
  all_goals first | exact rfl | exact ⟨rfl, rfl⟩

/-- A change of the management unit touches the parts of it that change. -/
theorem mgmt_within {ps : List Part} (s : State) (y : Management)
    (h1 : .unitAddress ∈ ps ∨ y.unitAddress = s.mgmt.unitAddress)
    (h2 : .inputQueue ∈ ps ∨ y.inputQueue = s.mgmt.inputQueue)
    (h3 : .restartWaiting ∈ ps ∨ y.restartWaiting = s.mgmt.restartWaiting)
    (h4 : .counts ∈ ps ∨ Part.alike s { s with mgmt := y } .counts)
    (h5 : .owed ∈ ps ∨ y.owed = s.mgmt.owed)
    (h6 : .log ∈ ps ∨ Part.alike s { s with mgmt := y } .log) : Within ps s { s with mgmt := y } := by
  intro p hp
  cases p
  case unitAddress => exact h1.resolve_left hp
  case inputQueue => exact h2.resolve_left hp
  case restartWaiting => exact h3.resolve_left hp
  case counts => exact h4.resolve_left hp
  case owed => exact h5.resolve_left hp
  case log => exact h6.resolve_left hp
  all_goals first | exact rfl | exact ⟨rfl, rfl⟩ | exact ⟨rfl, rfl, rfl, rfl⟩ |
    exact ⟨rfl, rfl, rfl, rfl, rfl, rfl, rfl, rfl, rfl, rfl, rfl⟩

/-! ## Named updates -/

theorem modEntry_within (s : State) (e : Nat) (f : PlanEntry → PlanEntry) : Within [.entries] s (s.modEntry e f) := by
  exact entries_within s _

theorem modLane_within (s : State) (l : Nat) (f : Lane → Lane) : Within [.lanes] s (s.modLane l f) := by
  exact lanes_within s _

theorem modCounters_within (s : State) (l : Nat) (f : LaneCounters → LaneCounters) :
    Within [.lanes] s (s.modCounters l f) := modLane_within s l _

theorem modAsm_within (s : State) (l : Nat) (f : Assembler → Assembler) : Within [.lanes] s (s.modAsm l f) :=
  modLane_within s l _

theorem modRover_within (s : State) (l : Nat) (f : Rover → Rover) : Within [.lanes] s (s.modRover l f) :=
  modLane_within s l _

theorem modSlot_within (s : State) (k : Nat) (f : Slot → Slot) : Within [.slots] s (s.modSlot k f) := by
  exact slots_within s _

theorem modCarriage_within (s : State) (c : Nat) (f : Carriage → Carriage) :
    Within [.carriages] s (s.modCarriage c f) := by
  exact carriages_within s _

theorem modService_within (s : State) (key : Key) (f : Service → Service) :
    Within [.services] s (s.modService key f) := by
  exact services_within s _

theorem modBinding_within (s : State) (name : BindingName) (f : Binding → Binding) :
    Within [.bindings] s (s.modBinding name f) := by
  exact bindings_within s _

theorem hand_within (s : State) (key : Key) : Within [.handed] s (s.hand key) := by
  exact handed_within s _

theorem handScored_within (s : State) (key : Key) (c : Nat) : Within [.handed] s (s.handScored key c) := by
  exact handed_within s _

/-! ## Output store (Store.lean) -/

theorem recomputeShare_within (s : State) : Within [.share] s (recomputeShare s) := by
  exact store_within _ _ (.inr rfl) (.inl (by decide)) (.inr rfl) (.inr ⟨rfl, rfl, rfl, rfl⟩)
    (.inr rfl) (.inr ⟨rfl, rfl, rfl, rfl, rfl, rfl, rfl, rfl, rfl, rfl, rfl⟩) (.inr rfl)

theorem offerCell_within (s : State) (k : Nat) (c : Cell) : Within [.slots, .buffers] s (offerCell s k c) := by
  unfold offerCell
  split
  · exact ((modSlot_within s k _).mono (by decide)).trans (store_within _ _ (.inl (by decide)) (.inr rfl) (.inr rfl) (.inr ⟨rfl, rfl, rfl, rfl⟩)
    (.inr rfl) (.inr ⟨rfl, rfl, rfl, rfl, rfl, rfl, rfl, rfl, rfl, rfl, rfl⟩) (.inr rfl))
  · exact (modSlot_within s k _).mono (by decide)

theorem discardQueue_within (s : State) (k : Nat) : Within [.slots, .buffers] s (discardQueue s k) := by
  exact ((modSlot_within s k _).mono (by decide)).trans (store_within _ _ (.inl (by decide)) (.inr rfl) (.inr rfl) (.inr ⟨rfl, rfl, rfl, rfl⟩)
    (.inr rfl) (.inr ⟨rfl, rfl, rfl, rfl, rfl, rfl, rfl, rfl, rfl, rfl, rfl⟩) (.inr rfl))

theorem serveSlot_within (s : State) (k : Nat) : Within [.slots, .buffers, .port] s (serveSlot s k) := by
  unfold serveSlot
  split
  · exact Within.refl _ s
  · exact ((modSlot_within s k _).mono (by decide)).trans (store_within _ _ (.inl (by decide)) (.inr rfl) (.inr rfl)
      (.inr ⟨rfl, rfl, rfl, rfl⟩) (.inr rfl) (.inl (by decide)) (.inr rfl))

theorem serve_within (s : State) (c : Choice) :
    Within [.slots, .buffers, .controlQueue, .directory, .port] s (serve s c) := by
  cases c with
  | control =>
    simp only [serve, serveControl]
    split
    · exact store_within s _ (.inr rfl) (.inr rfl) (.inl (by decide)) (.inr ⟨rfl, rfl, rfl, rfl⟩) (.inr rfl)
        (.inl (by decide)) (.inr rfl)
    · exact store_within s _ (.inr rfl) (.inr rfl) (.inr rfl) (.inl (by decide)) (.inr rfl) (.inl (by decide))
        (.inr rfl)
    · exact Within.refl _ s
  | pressuredSlot k =>
    exact ((serveSlot_within s k).mono (by decide)).trans (store_within (serveSlot s k) _ (.inr rfl) (.inr rfl)
      (.inr rfl) (.inr ⟨rfl, rfl, rfl, rfl⟩) (.inr rfl) (.inl (by decide)) (.inr rfl))
  | otherSlot k => exact (serveSlot_within s k).mono (by decide)
  | void =>
    exact store_within s _ (.inr rfl) (.inr rfl) (.inr rfl) (.inr ⟨rfl, rfl, rfl, rfl⟩) (.inr rfl)
      (.inl (by decide)) (.inr rfl)

theorem schedule_within (s : State) (a : Clock) (b c : Nat) (d : Bool) : Within [.port, .rateSet] s
    { s with store := { s.store with oppOrigin := a, oppIndex := b, oppRate := c, rateSet := d } } :=
  store_within s _ (.inr rfl) (.inr rfl) (.inr rfl) (.inr ⟨rfl, rfl, rfl, rfl⟩) (.inr rfl) (.inl (by decide))
    (.inl (by decide))

theorem advanceSchedule_within (s : State) : Within [.port, .rateSet] s (advanceSchedule s) :=
  Within.ite (schedule_within s s.clock 1 s.output.portCellRate false)
    (Within.ite (schedule_within s _ _ s.store.oppRate s.store.rateSet)
      (schedule_within s s.store.oppOrigin _ s.store.oppRate s.store.rateSet))

theorem directoryPeriod_within (s : State) : Within [.directory, .skips] s (directoryPeriod s) := by
  unfold directoryPeriod
  split
  · exact store_within _ _ (.inr rfl) (.inr rfl) (.inr rfl) (.inl (by decide)) (.inr rfl) (.inr ⟨rfl, rfl, rfl, rfl, rfl, rfl, rfl, rfl, rfl, rfl, rfl⟩) (.inr rfl)
  · exact store_within _ _ (.inr rfl) (.inr rfl) (.inr rfl) (.inr ⟨rfl, rfl, rfl, rfl⟩) (.inl (by decide)) (.inr ⟨rfl, rfl, rfl, rfl, rfl, rfl, rfl, rfl, rfl, rfl, rfl⟩) (.inr rfl)

/-! ## Slot composer (Slots.lean) -/

theorem refeedMarking_within (s : State) (k : Nat) (marks : Nat → Bool) :
    Within [.slots] s (refeedMarking s k marks) := modSlot_within s k _

theorem refeed_within (s : State) (k : Nat) : Within [.slots] s (refeed s k) := refeedMarking_within s k _

theorem refeedAll_within (s : State) (c had : Nat) : Within [.slots] s (refeedAll s c had) :=
  Within.foldl _ (fun s k => refeedMarking_within s k _) slotOrder s

theorem enterDark_within (s : State) (k : Nat) : Within [.slots] s (enterDark s k) :=
  (modSlot_within s k _).trans (refeed_within _ k)

theorem armSlot_within (s : State) (k w : Nat) : Within [.slots] s (armSlot s k w) :=
  (modSlot_within s k _).trans (refeed_within _ k)

theorem cancelChangeover_within (s : State) (k : Nat) : Within [.slots] s (cancelChangeover s k) :=
  (modSlot_within s k _).trans (refeed_within _ k)

theorem moveTo_within (s : State) (k : Nat) (w : Option Nat) : Within [.slots] s (moveTo s k w) := by
  unfold moveTo
  split
  · exact Within.refl _ s
  · exact Within.refl _ s
  · exact armSlot_within s k _
  · exact enterDark_within s k
  · exact Within.ite (Within.refl _ s) (armSlot_within s k _)
  · exact Within.ite (Within.refl _ s) (Within.ite (cancelChangeover_within s k) (armSlot_within s k _))
  · exact Within.ite (cancelChangeover_within s k) (enterDark_within s k)
  · exact modSlot_within s k _

theorem reviewSlot_within (s : State) (k : Nat) : Within [.slots] s (reviewSlot s k) :=
  (modSlot_within s k _).trans (moveTo_within _ k _)

theorem completeSplice_within (s : State) (k : Nat) : Within [.slots] s (completeSplice s k) :=
  (modSlot_within s k _).trans (refeed_within _ k)

theorem endSplice_within (s : State) (k : Nat) : Within [.slots] s (endSplice s k) :=
  Within.ite (((completeSplice_within s k).trans (modSlot_within _ k _)).trans (reviewSlot_within _ k))
    (completeSplice_within s k)

theorem spliceStep_within (s : State) (k : Nat) (name : BindingName) (c : Cell) :
    Within [.slots] s (spliceStep s k name c) := by
  unfold spliceStep
  refine Within.ite (Within.ite ?_ (Within.ite ?_ (Within.refl _ s))) (Within.refl _ s)
  · exact (modSlot_within s k _).trans (refeed_within _ k)
  · exact (modSlot_within s k _).trans (refeed_within _ k)

theorem switchStep_within (s : State) (k : Nat) (name : BindingName) (c : Cell) :
    Within [.slots] s (switchStep s k name c) := by
  unfold switchStep
  exact Within.ite ((modSlot_within s k _).trans (refeed_within _ k)) (Within.refl _ s)

theorem offerOnFlow_within (s : State) (k i : Nat) (c : Cell) :
    Within [.slots, .buffers] s (offerOnFlow s k i c) :=
  ((modSlot_within s k _).mono (by decide)).trans (offerCell_within _ k _)

theorem offerStep_within (s : State) (k : Nat) (name : BindingName) (c : Cell) :
    Within [.slots, .buffers] s (offerStep s k name c) :=
  Within.foldl _ (fun s i => Within.ite (offerOnFlow_within s k i c) (Within.refl _ s)) _ s

theorem endStep_within (s : State) (k : Nat) : Within [.slots] s (endStep s k) :=
  Within.ite (endSplice_within s k) (Within.refl _ s)

theorem slotTakesCell_within (s : State) (k : Nat) (name : BindingName) (c : Cell) :
    Within [.slots, .buffers] s (slotTakesCell s k name c) := by
  unfold slotTakesCell
  refine Within.ite ?_ (Within.refl _ s)
  refine Within.trans ?_ ((endStep_within _ k).mono (by decide))
  refine Within.trans ?_ (offerStep_within _ k name c)
  exact (((spliceStep_within s k name c).trans (switchStep_within _ k name c))).mono (by decide)

/-- A bound cell handed to the composer touches slots and buffers (R137, R152). -/
theorem forwardCell_within (s : State) (name : BindingName) (c : Cell) :
    Within [.slots, .buffers] s (forwardCell s name c) :=
  Within.foldl _ (fun s k => slotTakesCell_within s k name c) slotOrder s

theorem slotLosesCarriage_within (s : State) (c k : Nat) : Within [.slots] s (slotLosesCarriage s c k) := by
  have hm : ∀ f, Within [.slots] s (refeed (s.modSlot k f) k) := fun f =>
    (modSlot_within s k f).trans (refeed_within _ k)
  unfold slotLosesCarriage
  simp only
  split
  · exact Within.refl _ s
  · exact Within.refl _ s
  · exact Within.ite (enterDark_within s k) (Within.refl _ s)
  · exact Within.ite (Within.ite (hm _) (enterDark_within s k)) (Within.ite (hm _) (Within.refl _ s))
  · exact Within.ite (enterDark_within s k) (Within.ite (hm _) (Within.refl _ s))

theorem slotsLoseCarriage_within (s : State) (c : Nat) : Within [.slots] s (slotsLoseCarriage s c) :=
  Within.foldl _ (fun s k => slotLosesCarriage_within s c k) slotOrder s

/-! ## Catalogue (Catalogue.lean) -/

theorem freeIfUnheld_within (s : State) (key : Key) : Within [.services] s (freeIfUnheld s key) := by
  unfold freeIfUnheld
  split
  · exact Within.refl _ s
  · exact services_within _ _

theorem createService_within {s t : State} {key : Key} {name : List Byte} (h : createService s key name = some t) :
    Within [.services] s t := by
  unfold createService at h
  cases hf : lowestFree s.services Config.maxServices with
  | none => simp [hf] at h
  | some i =>
    simp only [hf, Option.map_some, Option.some.injEq] at h
    subst h
    exact services_within _ _

theorem joinBinding_within (s : State) (name : BindingName) : Within [.bindings] s (joinBinding s name) := by
  unfold joinBinding
  split
  · exact modBinding_within s name _
  · exact bindings_within _ _

theorem leaveBinding_within (s : State) (name : BindingName) : Within [.bindings] s (leaveBinding s name) := by
  unfold leaveBinding
  split
  · exact Within.refl _ s
  · refine Within.ite ?_ (modBinding_within s name _)
    exact bindings_within _ _

theorem putBound_within (s : State) (c : Nat) (y : Carriage) : Within [.carriages, .handed] s (putBound s c y) :=
  ((modCarriage_within s c _).mono (by decide)).trans ((hand_within _ _).mono (by decide))

theorem attemptBind_within (s : State) (c l : Nat) (mark : Bool) :
    Within [.carriages, .bindings, .handed] s (attemptBind s c l mark) := by
  unfold attemptBind
  split
  · exact Within.refl _ s
  · rename_i x _
    refine Within.ite ?_ ((putBound_within s c _).mono (by decide))
    exact ((Within.foldl (ps := [.bindings]) _ (fun s d => joinBinding_within s _) x.components s).mono (by decide)).trans
      ((putBound_within _ c _).mono (by decide))

theorem retryBind_within (s : State) (c l : Nat) : Within [.carriages, .bindings, .handed] s (retryBind s c l) := by
  unfold retryBind
  split
  · exact Within.refl _ s
  · exact Within.ite (attemptBind_within s c l true) (Within.refl _ s)

theorem releaseBindings_within (s : State) (c : Nat) : Within [.carriages, .bindings] s (releaseBindings s c) := by
  unfold releaseBindings
  split
  · exact Within.refl _ s
  · refine Within.trans ?_ ((modCarriage_within _ c _).mono (by decide))
    exact (Within.foldl (ps := [.bindings]) _ (fun s n => leaveBinding_within s n) _ s).mono (by decide)

theorem shelve_within (s : State) (c : Nat) : Within [.carriages, .bindings, .handed] s (shelve s c) := by
  unfold shelve
  split
  · exact Within.refl _ s
  · refine Within.trans ?_ ((hand_within _ _).mono (by decide))
    refine Within.trans ?_ ((modCarriage_within _ c _).mono (by decide))
    exact (releaseBindings_within s c).mono (by decide)

theorem rebind_within (s : State) (c l : Nat) (comps : List (Kind × Nat)) (timing : Option Nat) :
    Within [.carriages, .bindings, .handed, .slots] s (rebind s c l comps timing) := by
  unfold rebind
  refine Within.trans ?_ ((refeedAll_within _ _ _).mono (by decide))
  refine Within.trans ?_ ((attemptBind_within _ c l false).mono (by decide))
  exact ((releaseBindings_within s c).mono (by decide)).trans ((modCarriage_within _ c _).mono (by decide))

/-- Removal touches the carriage, its bindings, its service record and the slots that named it (R22). -/
theorem removeCarriage_within (s : State) (c : Nat) :
    Within [.carriages, .bindings, .handed, .slots, .services] s (removeCarriage s c) := by
  unfold removeCarriage
  split
  · exact Within.refl _ s
  · rename_i x _
    have h1 : Within [.carriages, .bindings, .handed, .slots, .services] s
        (slotsLoseCarriage ((releaseBindings s c).modService x.service fun v => v.forget c) c) :=
      (((releaseBindings_within s c).mono (by decide)).trans ((modService_within _ _ _).mono (by decide))).trans
        ((slotsLoseCarriage_within _ c).mono (by decide))
    refine Within.trans ?_ ((hand_within _ _).mono (by decide))
    refine Within.trans ?_ ((freeIfUnheld_within _ _).mono (by decide))
    refine h1.trans ?_
    exact (carriages_within _ _).mono (by decide)

theorem writeRecord_within (s : State) (kind : RecordKind) (e : Nat) (key : Key) (c : Option Nat) :
    Within [.log] s (writeRecord s kind e key c) := by
  unfold writeRecord
  split <;> (exact mgmt_within _ _ (.inr rfl) (.inr rfl) (.inr rfl) (.inr ⟨rfl, rfl⟩) (.inr rfl) (.inl (by decide)))

theorem offerRecord_within (s : State) (kind : RecordKind) (e : Nat) (key : Key) (c : Nat) :
    Within [.log] s (offerRecord s kind e key c) :=
  Within.ite (writeRecord_within s kind e key _) (Within.refl _ s)

/-- What discovery may touch besides the entry and the assembler: the catalogue, the slots and the log. -/
def catalogueParts : List Part := [.carriages, .bindings, .handed, .slots, .services, .log]

theorem vanish_within (s : State) (c : Nat) : Within catalogueParts s (vanish s c) := by
  unfold vanish
  split
  · exact Within.refl _ s
  · exact ((offerRecord_within s _ _ _ _).mono (by decide)).trans
      ((removeCarriage_within _ c).mono (by decide))

/-! ## Ranking engine (Ranking.lean) -/

theorem evaluateHanded_within (s : State) : Within [.services, .handed] s (evaluateHanded s) := by
  unfold evaluateHanded
  have h0 : Within [.services, .handed] s { s with handed := [] } := by
    exact (handed_within _ _).mono (by decide)
  exact h0.trans ((Within.foldl (ps := [.services]) _ (fun t key => modService_within t key _) _ _).mono (by decide))

theorem deliver_within (s0 s : State) : Within [.slots] s (deliver s0 s) :=
  Within.foldl _ (fun t k => Within.ite (reviewSlot_within t k) (Within.refl _ t)) slotOrder s

/-- The end of an act touches services and slots, and leaves nothing handed (R111, R123). -/
theorem closeAct_within (s0 s : State) : Within [.services, .slots, .handed] s (closeAct s0 s) :=
  ((evaluateHanded_within s).mono (by decide)).trans ((deliver_within s0 _).mono (by decide))

theorem settleNotice_within (s0 s : State) : Within [.owed] s (settleNotice s0 s) := by
  exact mgmt_within _ _ (.inr rfl) (.inr rfl) (.inr rfl) (.inr ⟨rfl, rfl⟩) (.inl (by decide)) (.inr ⟨rfl, rfl⟩)

/-! ## Lanes (Lanes.lean) -/

theorem sendTune_within (s : State) (l e : Nat) : Within [.lanes] s (sendTune s l e) := modLane_within s l _

theorem setLaneDown_within (s : State) (c : Nat) (down : Bool) :
    Within [.carriages, .handed] s (setLaneDown s c down) := by
  unfold setLaneDown
  split
  · exact Within.refl _ s
  · exact Within.ite (((modCarriage_within s c _).mono (by decide)).trans ((hand_within _ _).mono (by decide)))
      ((modCarriage_within s c _).mono (by decide))

theorem laneDownAll_within (s : State) (l : Nat) (down : Bool) :
    Within [.carriages, .handed] s (laneDownAll s l down) :=
  Within.foldl _ (fun s c => setLaneDown_within s c down) _ s

theorem moveParked_within (s : State) (l : Nat) (new : ParkedState) :
    Within [.lanes, .carriages, .handed] s (moveParked s l new) := by
  unfold moveParked
  exact Within.ite ((modLane_within s l _).mono (by decide))
    (((modLane_within s l _).mono (by decide)).trans ((laneDownAll_within _ l _).mono (by decide)))

theorem startLock_within (s : State) (l : Nat) : Within [.lanes] s (startLock s l) := modLane_within s l _
theorem stopLock_within (s : State) (l : Nat) : Within [.lanes] s (stopLock s l) := modLane_within s l _
theorem startSilence_within (s : State) (l : Nat) : Within [.lanes] s (startSilence s l) := modLane_within s l _
theorem stopSilence_within (s : State) (l : Nat) : Within [.lanes] s (stopSilence s l) := modLane_within s l _
theorem startWindow_within (s : State) (l : Nat) : Within [.lanes] s (startWindow s l) := modLane_within s l _

/-- What a change of a parked lane's state may touch (R36, R39). -/
def laneParts : List Part := [.lanes, .carriages, .handed]

theorem lockSeen_within (s : State) (l : Nat) : Within laneParts s (lockSeen s l) :=
  (moveParked_within s l _).trans ((stopLock_within _ l).mono (by decide))

theorem lockMissing_within (s : State) (l : Nat) : Within laneParts s (lockMissing s l) := by
  unfold lockMissing
  split
  · exact (moveParked_within s l _).trans ((startLock_within _ l).mono (by decide))
  · exact (moveParked_within s l _).trans ((startLock_within _ l).mono (by decide))
  · exact moveParked_within s l _

theorem staleSeen_within (s : State) (l : Nat) : Within laneParts s (staleSeen s l) := by
  unfold staleSeen
  split
  · exact (moveParked_within s l _).trans ((startLock_within _ l).mono (by decide))
  · exact Within.refl _ s

theorem parkedSilence_within (s : State) (l : Nat) : Within laneParts s (parkedSilence s l) :=
  (moveParked_within s l _).trans ((stopLock_within _ l).mono (by decide))

theorem lockExpired_within (s : State) (l : Nat) : Within laneParts s (lockExpired s l) := by
  unfold lockExpired retune
  refine Within.trans ?_ ((startLock_within _ l).mono (by decide))
  refine Within.trans ?_ ((modCounters_within _ l _).mono (by decide))
  exact ((sendTune_within s l _).mono (by decide)).trans (moveParked_within _ l _)

theorem countStatus_within (s : State) (l : Nat) (r : StatusReport) : Within [.lanes] s (countStatus s l r) :=
  (modLane_within s l _).trans (startSilence_within _ l)

theorem errorStatus_within (s : State) (l : Nat) : Within [.lanes] s (errorStatus s l) :=
  (modLane_within s l _).trans (startSilence_within _ l)

theorem takeMargin_within (s : State) (l : Nat) (r : StatusReport) : Within [.lanes] s (takeMargin s l r) :=
  modLane_within s l _

theorem parkedRestart_within (s : State) (l : Nat) : Within laneParts s (parkedRestart s l) := by
  unfold parkedRestart retune
  refine Within.trans ?_ ((modAsm_within _ l _).mono (by decide))
  refine Within.trans ?_ ((startLock_within _ l).mono (by decide))
  exact ((sendTune_within s l _).mono (by decide)).trans (moveParked_within _ l _)

theorem parkedStatus_within (s : State) (l : Nat) (r : StatusReport) : Within laneParts s (parkedStatus s l r) := by
  have h1 : Within laneParts s (countStatus s l r) := (countStatus_within s l r).mono (by decide)
  have h2 : Within laneParts s (takeMargin (countStatus s l r) l r) :=
    h1.trans ((takeMargin_within _ l r).mono (by decide))
  unfold parkedStatus
  split
  · exact (h1.trans ((modLane_within _ l _).mono (by decide))).trans (parkedRestart_within _ l)
  · exact Within.ite (h2.trans (lockSeen_within _ l)) (h2.trans (lockMissing_within _ l))
  · exact (h1.trans ((modCounters_within _ l _).mono (by decide))).trans (staleSeen_within _ l)

/-! ## Window ends (Assessment.lean) -/

theorem scoreCarriage_within (s : State) (l c : Nat) : Within [.carriages, .handed] s (scoreCarriage s l c) := by
  unfold scoreCarriage
  split
  · exact Within.refl _ s
  · exact ((modCarriage_within s c _).mono (by decide)).trans ((handScored_within _ _ c).mono (by decide))

theorem scoreLane_within (s : State) (l : Nat) : Within [.carriages, .handed] s (scoreLane s l) :=
  Within.ite (Within.refl _ s) (Within.foldl _ (fun s c => scoreCarriage_within s l c) _ s)

theorem resetCounters_within (s : State) (l : Nat) : Within [.bindings] s (resetCounters s l) := by
  exact bindings_within _ _

theorem retryAll_within (s : State) (l : Nat) : Within [.carriages, .bindings, .handed] s (retryAll s l) :=
  Within.foldl _ (fun s c => retryBind_within s c l) _ s

theorem laneHealth_within (s : State) (l : Nat) : Within [.lanes] s (laneHealth s l) :=
  Within.ite (modLane_within s l _) (Within.refl _ s)

theorem setMarks_within (s : State) (l : Nat) : Within [.carriages] s (setMarks s l) := by
  exact carriages_within _ _

theorem windowEnd_within (s : State) (l : Nat) :
    Within [.lanes, .carriages, .bindings, .handed] s (windowEnd s l) := by
  unfold windowEnd
  refine Within.trans ?_ ((startWindow_within _ l).mono (by decide))
  refine Within.trans ?_ ((setMarks_within _ l).mono (by decide))
  refine Within.trans ?_ ((modLane_within _ l _).mono (by decide))
  refine Within.trans ?_ ((laneHealth_within _ l).mono (by decide))
  refine Within.trans ?_ ((retryAll_within _ l).mono (by decide))
  exact ((scoreLane_within s l).mono (by decide)).trans ((resetCounters_within _ l).mono (by decide))

theorem surveyCarriage_within (s : State) (l c : Nat) : Within [.carriages, .handed] s (surveyCarriage s l c) := by
  unfold surveyCarriage
  split
  · exact Within.refl _ s
  · exact ((modCarriage_within s c _).mono (by decide)).trans ((hand_within _ _).mono (by decide))

theorem surveyFigures_within (s : State) (l e : Nat) : Within [.carriages, .handed] s (surveyFigures s l e) :=
  Within.foldl _ (fun s c => surveyCarriage_within s l c) _ s

/-! ## Rover control (Rover.lean) -/

/-- What a claim may touch (R69). -/
def claimParts : List Part := [.entries, .survey, .lanes]

theorem leavePrompt_within (s : State) (e : Nat) : Within [.survey] s (leavePrompt s e) := by
  exact promptSet_within _ _

theorem takeEntry_within (s : State) (l e : Nat) : Within claimParts s (takeEntry s l e) := by
  unfold takeEntry
  refine Within.trans ?_ ((modRover_within _ l _).mono (by decide))
  refine Within.trans ?_ ((sendTune_within _ l e).mono (by decide))
  have h : Within claimParts s (leavePrompt (s.modEntry e fun p => { p with visitingLane := some l }) e) :=
    ((modEntry_within s e _).mono (by decide)).trans ((leavePrompt_within _ e).mono (by decide))
  refine h.trans ?_
  exact (surveyPointer_within _ _).mono (by decide)

theorem claim_within (s : State) (l : Nat) : Within claimParts s (claim s l) := by
  unfold claim
  refine Within.ite ?_ (Within.refl _ s)
  split
  · exact takeEntry_within s l _
  · exact (modRover_within s l _).mono (by decide)

theorem pausedClaims_within (s : State) : Within claimParts s (pausedClaims s) :=
  Within.foldl _ (fun s l => Within.ite (claim_within s l) (Within.refl _ s)) _ s

theorem closeWithClaims_within (s0 s : State) (ls : List Nat) :
    Within (claimParts ++ [.services, .slots, .handed]) s (closeWithClaims s0 s ls) := by
  unfold closeWithClaims
  refine Within.trans ?_ ((pausedClaims_within _).mono (by decide))
  exact ((closeAct_within s0 s).mono (by decide)).trans
    ((Within.foldl (ps := claimParts) _ (fun s l => claim_within s l) ls _).mono (by decide))

theorem shelveVisit_within (s : State) (e : Nat) : Within [.carriages, .bindings, .handed] s (shelveVisit s e) :=
  Within.foldl _ (fun s c => shelve_within s c) _ s

/-- What the end of a visit may touch (R80). -/
def endParts : List Part := [.entries, .lanes, .carriages, .bindings, .handed]

theorem endVisitTo_within (s : State) (l e : Nat) (o : Option SurveyOutcome) :
    Within endParts s (endVisitTo s l e o) := by
  have h1 : Within endParts s (if o = some .surveyed then surveyFigures s l e else s) :=
    Within.ite ((surveyFigures_within s l e).mono (by decide)) (Within.refl _ s)
  have h2 := h1.trans ((shelveVisit_within _ e).mono (by decide))
  have h3 := fun f => h2.trans ((modLane_within _ l f).mono (by decide))
  have h4 := fun f g => (h3 f).trans ((modEntry_within _ e g).mono (by decide))
  unfold endVisitTo
  cases o with
  | none => exact h4 _ _
  | some o => exact (h4 _ _).trans ((modEntry_within _ e _).mono (by decide))

theorem endVisit_within (s : State) (l : Nat) (o : Option SurveyOutcome) : Within endParts s (endVisit s l o) := by
  unfold endVisit
  split
  · exact Within.refl _ s
  · exact endVisitTo_within s l _ o

theorem enterDwelling_within (s : State) (l : Nat) : Within [.lanes] s (enterDwelling s l) :=
  (modLane_within s l _).trans (modRover_within _ l _)

theorem roveLock_within (s : State) (l : Nat) : Within [.lanes] s (roveLock s l) :=
  Within.ite (modRover_within s l _) (enterDwelling_within s l)

theorem rovingStatus_within (s : State) (l : Nat) (r : StatusReport) :
    Within endParts s (rovingStatus s l r).1 := by
  have h1 : Within endParts s (countStatus s l r) := (countStatus_within s l r).mono (by decide)
  have h2 : Within endParts s (takeMargin (countStatus s l r) l r) :=
    h1.trans ((takeMargin_within _ l r).mono (by decide))
  unfold rovingStatus
  split
  · exact (h1.trans ((modLane_within _ l _).mono (by decide))).trans (endVisit_within _ l none)
  · split
    · split
      · exact h2.trans ((roveLock_within _ l).mono (by decide))
      · exact h2
    · split
      · exact h2.trans (endVisit_within _ l _)
      · exact h2
  · have h3 : Within endParts s (countStale (countStatus s l r) l) :=
      h1.trans ((modCounters_within _ l _).mono (by decide))
    exact h3.trans (Within.ite ((modRover_within _ l _).mono (by decide)) (Within.refl _ _))

theorem parkRelease_within (s : State) (l : Nat) : Within endParts s (parkRelease s l) := by
  unfold parkRelease
  split
  · exact ((Within.foldl (ps := [.carriages, .bindings, .handed]) _ (fun s c => shelve_within s c) _ s).mono (by decide)).trans ((modEntry_within _ _ _).mono (by decide))
  · exact Within.refl _ s

theorem leaveLane_within (s : State) (l : Nat) : Within endParts s (leaveLane s l) :=
  (parkRelease_within s l).trans (endVisit_within _ l none)

theorem bindParked_within (s : State) (l e : Nat) : Within [.carriages, .bindings, .handed] s (bindParked s l e) :=
  Within.foldl _ (fun s c => attemptBind_within s c l true) _ s

/-! ## Directories (Directory.lean) -/

theorem resetMissing_within (s : State) (c : Nat) : Within [.carriages] s (resetMissing s c) :=
  modCarriage_within s c _

theorem countMissing_within (s : State) (c : Nat) : Within catalogueParts s (countMissing s c) := by
  unfold countMissing
  split
  · exact Within.refl _ s
  · have h : ∀ f, Within catalogueParts s (s.modCarriage c f) := fun f =>
      (modCarriage_within s c f).mono (by decide)
    exact Within.ite ((h _).trans (vanish_within _ c)) (h _)

/-- What reconciliation may touch (R55 to R61). -/
def reconcileParts : List Part := .entries :: .lanes :: catalogueParts

theorem multiplexChange_within (s : State) (e : Nat) (old new : BitVec 16) :
    Within reconcileParts s (multiplexChange s e old new) := by
  have h1 : Within reconcileParts s (if s.changeRecorded e then writeRecord s .entryChanged e (old ++ new) none else s) :=
    Within.ite ((writeRecord_within s _ _ _ _).mono (by decide)) (Within.refl _ s)
  unfold multiplexChange
  refine Within.trans ?_ ((modEntry_within _ e _).mono (by decide))
  refine h1.trans ?_
  exact (Within.foldl (ps := catalogueParts) _ (fun s c => vanish_within s c) _ _).mono (by decide)

theorem repeatDirectory_within (s : State) (l e : Nat) (m : DirectoryMessage) :
    Within reconcileParts s (repeatDirectory s l e m) := by
  have h1 : ∀ cs : List Nat, Within reconcileParts s (cs.foldl resetMissing s) := fun cs =>
    (Within.foldl (ps := [.carriages]) _ (fun s c => resetMissing_within s c) cs s).mono (by decide)
  unfold repeatDirectory
  refine Within.trans ?_ ((modAsm_within _ l _).mono (by decide))
  refine (h1 (s.carriagesListed e m true)).trans ?_
  exact (Within.foldl (ps := catalogueParts) _ (fun s c => countMissing_within s c) _ _).mono (by decide)

theorem serviceFor_within {s t : State} {v : Listed} (h : serviceFor s v = some t) : Within [.services] s t := by
  unfold serviceFor at h
  split at h
  · simp only [Option.some.injEq] at h
    subst h
    exact modService_within s v.key _
  · exact createService_within h

theorem newKey_within (s : State) (l e : Nat) (v : Listed) : Within catalogueParts s (newKey s l e v) := by
  unfold newKey
  split
  · exact (writeRecord_within s _ _ _ _).mono (by decide)
  · rename_i s1 h
    have h1 : Within catalogueParts s s1 := (serviceFor_within h).mono (by decide)
    split
    · exact (h1.trans ((writeRecord_within s1 _ _ _ _).mono (by decide))).trans
        ((freeIfUnheld_within _ _).mono (by decide))
    · rename_i c _
      have h2 : Within catalogueParts s1
          { s1 with carriages := tableSet s1.carriages c (Carriage.created e v s1.clock) } := by
        exact (carriages_within _ _).mono (by decide)
      exact (((h1.trans h2).trans ((attemptBind_within _ c l false).mono (by decide))).trans
        ((hand_within _ _).mono (by decide))).trans ((offerRecord_within _ _ _ _ _).mono (by decide))

theorem listedKey_within (s : State) (l e c : Nat) (v : Listed) : Within catalogueParts s (listedKey s l e c v) := by
  unfold listedKey
  split
  · exact Within.refl _ s
  · have h1 : Within catalogueParts s (rename (resetMissing s c) v) :=
      ((resetMissing_within s c).mono (by decide)).trans
        ((modService_within _ v.key _).mono (by decide))
    refine Within.ite (Within.ite (h1.trans ((attemptBind_within _ c l false).mono (by decide))) h1) ?_
    exact (h1.trans ((rebind_within _ c l _ _).mono (by decide))).trans
      ((offerRecord_within _ _ _ _ _).mono (by decide))

theorem reconcileKey_within (s : State) (l e : Nat) (v : Listed) : Within catalogueParts s (reconcileKey s l e v) := by
  unfold reconcileKey
  split
  · exact newKey_within s l e v
  · exact listedKey_within s l e _ v

theorem fullReconciliation_within (s : State) (l e : Nat) (m : DirectoryMessage) :
    Within reconcileParts s (fullReconciliation s l e m) := by
  unfold fullReconciliation
  refine Within.trans ?_ ((modEntry_within _ e _).mono (by decide))
  refine Within.trans ((Within.foldl (ps := catalogueParts) _ (fun s v => reconcileKey_within s l e v) m.services s).mono (by decide)) ?_
  exact (Within.foldl (ps := catalogueParts) _ (fun s c => countMissing_within s c) _ _).mono (by decide)

theorem reconcile_within (s : State) (l e : Nat) (m : DirectoryMessage) (first : Bool) :
    Within reconcileParts s (reconcile s l e m first) := by
  unfold reconcile
  split
  · exact ((modEntry_within s e _).mono (by decide)).trans (fullReconciliation_within _ l e m)
  · exact Within.ite ((multiplexChange_within s e _ _).trans (fullReconciliation_within _ l e m))
      (Within.ite (repeatDirectory_within s l e m) (fullReconciliation_within s l e m))

theorem directoryCell_within (s : State) (l : Nat) (c : Cell) :
    Within (.watchSeen :: reconcileParts) s (directoryCell s l c) := by
  have h0 : ∀ (s : State) f, Within (.watchSeen :: reconcileParts) s (s.modAsm l f) := fun s f =>
    (modAsm_within s l f).mono (by decide)
  have hacc : ∀ (s : State) e m, Within (.watchSeen :: reconcileParts) s (acceptDirectory s l e m) := by
    intro s e m
    unfold acceptDirectory
    refine Within.trans ?_ ((reconcile_within _ l e m _).mono (by decide))
    exact ((h0 s _).trans ((modRover_within _ l _).mono (by decide))).trans ((watchSeen_within _ _).mono (by decide))
  unfold directoryCell
  simp only
  split
  · exact h0 s _
  · unfold completeMessage
    split
    · exact (h0 s _).trans (h0 _ _)
    · split
      · exact (h0 s _).trans (h0 _ _)
      · exact (h0 s _).trans (hacc _ _ _)

/-! ## Cells (Cells.lean) -/

theorem markHeard_within (s : State) (name : BindingName) : Within [.carriages] s (markHeard s name) :=
  carriages_within s _

theorem clearStalls_within (s : State) (name : BindingName) : Within [.carriages, .handed] s (clearStalls s name) := by
  refine Within.foldl _ (fun s c => ?_) _ s
  unfold clearStall
  split
  · exact Within.refl _ s
  · exact ((modCarriage_within s c _).mono (by decide)).trans ((hand_within _ _).mono (by decide))

theorem stallCarriage_within (s : State) (c : Nat) : Within [.carriages, .handed] s (stallCarriage s c) := by
  unfold stallCarriage
  split
  · exact Within.refl _ s
  · exact ((modCarriage_within s c _).mono (by decide)).trans ((hand_within _ _).mono (by decide))

theorem stallAll_within (s : State) : Within [.carriages, .handed] s (stallAll s) :=
  Within.foldl _ (fun s c => stallCarriage_within s c) _ s

/-- What a programme cell may touch (R28, R30, R31). -/
def boundParts : List Part := [.lanes, .carriages, .bindings, .handed, .slots, .buffers]

theorem programmeCell_within (s : State) (l : Nat) (c : Cell) : Within boundParts s (programmeCell s l c) := by
  unfold programmeCell
  split
  · unfold boundCell
    split
    · exact ((modBinding_within s _ _).mono (by decide)).trans
        ((modCounters_within _ _ _).mono (by decide))
    · exact (((modBinding_within s _ _).mono (by decide)).trans
        (((markHeard_within _ _).mono (by decide)).trans ((clearStalls_within _ _).mono (by decide)))).trans
        ((forwardCell_within _ _ c).mono (by decide))
  · exact (modCounters_within s l _).mono (by decide)

theorem noteRestart_within (s : State) : Within [.restartWaiting] s (noteRestart s) := by
  unfold noteRestart
  split
  · exact Within.refl _ s
  · refine Within.ite ?_ (Within.refl _ s)
    exact mgmt_within _ _ (.inr rfl) (.inr rfl) (.inl (by decide)) (.inr ⟨rfl, rfl⟩) (.inr rfl) (.inr ⟨rfl, rfl⟩)

theorem admitCommand_within (s : State) (c : Cell) :
    Within [.inputQueue, .restartWaiting, .counts] s (admitCommand s c) := by
  unfold admitCommand
  refine Within.ite (Within.refl _ s) (Within.ite ?_ (Within.ite ?_ ?_))
  · exact mgmt_within _ _ (.inr rfl) (.inr rfl) (.inr rfl) (.inl (by decide)) (.inr rfl) (.inr ⟨rfl, rfl⟩)
  · exact mgmt_within _ _ (.inr rfl) (.inr rfl) (.inr rfl) (.inl (by decide)) (.inr rfl) (.inr ⟨rfl, rfl⟩)
  · refine Within.trans (t := { s with mgmt := { s.mgmt with inputQueue := s.mgmt.inputQueue ++ [readCommand c.payload] } })
      ?_ ((noteRestart_within _).mono (by decide))
    exact mgmt_within _ _ (.inr rfl) (.inl (by decide)) (.inr rfl) (.inr ⟨rfl, rfl⟩) (.inr rfl) (.inr ⟨rfl, rfl⟩)

/-- What a cell may touch before the evaluations of its act. -/
def arrivalParts : List Part :=
  [.entries, .lanes, .carriages, .bindings, .handed, .slots, .services, .log, .watchSeen, .buffers, .inputQueue,
   .restartWaiting, .counts]

theorem statusCell_within (s : State) (l : Nat) (c : Cell) : Within arrivalParts s (statusCell s l c).1 := by
  unfold statusCell
  split
  · exact (errorStatus_within s l).mono (by decide)
  · split
    · exact (rovingStatus_within s l _).mono (by decide)
    · exact (parkedStatus_within s l _).mono (by decide)

theorem dispatchCell_within (s : State) (l : Nat) (c : Cell) : Within arrivalParts s (dispatchCell s l c).1 := by
  unfold dispatchCell
  split
  · exact (programmeCell_within s l c).mono (by decide)
  split
  · exact (modCounters_within s l _).mono (by decide)
  split
  · exact (directoryCell_within s l c).mono (by decide)
  split
  · exact statusCell_within s l c
  split
  · exact (admitCommand_within s c).mono (by decide)
  · exact (modCounters_within s l _).mono (by decide)

/-- A cell on a lane touches what its dispatch touches, and never a setting, an output, the clock or a queue of the
port (R27 to R29). -/
theorem arriveCell_within (s : State) (l : Nat) (bytes : List Byte) :
    Within arrivalParts s (arriveCell s l bytes).1 := by
  have h0 : ∀ (s : State) f, Within arrivalParts s (s.modLane l f) := fun s f =>
    (modLane_within s l f).mono (by decide)
  unfold arriveCell
  dsimp only
  refine Within.trans (t := s.modCounters l fun n => { n with received := saturate Config.counter32 (n.received + 1) })
    (h0 s _) ?_
  split
  · unfold checkedCell
    split
    · unfold idleCell
      split <;> exact h0 _ _
    · exact dispatchCell_within _ l _
    · split
      · exact dispatchCell_within _ l _
      · split
        · exact statusCell_within _ l _
        · exact Within.refl _ _
  · exact h0 _ _

end Sys2Proof.Machine
end

