-- ==== Sys2Proof/Laws/Acts.lean ====
section
/-! SUPPORT. The shared shapes of a step, once each: what an event and a taken command leave, and when the end of an
act changes nothing. -/

namespace Sys2Proof.Machine

open Sys2Proof

/-! ## The end of an act that hands nothing on -/

theorem evaluateHanded_nothing {s : State} (h : s.handed = []) : evaluateHanded s = s := by
  simp [evaluateHanded, h, handedKeys]
  cases s; simp_all

theorem foldl_id {α β : Type} (f : β → α → β) (l : List α) (b : β) (h : ∀ a, f b a = b) : l.foldl f b = b := by
  induction l with
  | nil => rfl
  | cons a l ih => simpa [h] using ih

theorem selectionChanged_same {s t : State} (h : t.services = s.services) (key : Option Key) :
    selectionChanged s t key = false := by
  cases key <;> simp [selectionChanged, State.selectedOf, State.service, h]

theorem deliver_nothing {s t : State} (h : t.services = s.services) : deliver s t = t := by
  unfold deliver
  exact foldl_id _ _ _ fun k => by simp [selectionChanged_same h]

/-- An act that hands nothing to the ranking engine and leaves the services ends as it stands. -/
theorem closeAct_nothing {s t : State} (h : t.handed = []) (hs : t.services = s.services) : closeAct s t = t := by
  rw [closeAct, evaluateHanded_nothing h, deliver_nothing hs]

/-- No lane is paused: the paused lanes claim nothing. -/
theorem pausedClaims_nothing {s : State} (h : ∀ l, (s.lane l).paused = false) : pausedClaims s = s := by
  unfold pausedClaims
  exact foldl_id _ _ _ fun l => by simp [h]

theorem closeEvent_settled {s t : State} (h : t.handed = []) (hs : t.services = s.services) :
    closeEvent s (t, []) = settledEvent s t := by
  simp [closeEvent, closeAct_nothing h hs, settleNotice, settledEvent]

/-! ## Events -/

theorem event_off {s : State} {enabled : Bool} (act : State → State × List Nat)
    (h : enabled = false ∨ s.resetHeld = true) : event s enabled act = s := by
  rcases h with h | h <;> simp [event, h]

theorem event_on {s : State} {enabled : Bool} (act : State → State × List Nat) (he : enabled = true)
    (hr : s.resetHeld = false) : event s enabled act = closeEvent s (act s) := by
  simp [event, he, hr]

theorem quietEvent_off {s : State} {enabled : Bool} (act : State → State)
    (h : enabled = false ∨ s.resetHeld = true) : quietEvent s enabled act = s := by
  rcases h with h | h <;> simp [quietEvent, h]

theorem quietEvent_on {s : State} {enabled : Bool} (act : State → State) (he : enabled = true)
    (hr : s.resetHeld = false) : quietEvent s enabled act = settledEvent s (act s) := by
  simp [quietEvent, he, hr, settleNotice, settledEvent]

/-! ## Commands -/

theorem takeIf_waits {p : Command → Bool} {s : State} (act : State → List Byte → Reply)
    (h : s.headCommand p = none) : takeIf p s act = s := by
  simp [takeIf, h]

theorem headCommand_some {p : Command → Bool} {s : State} {c : Command} {rest : List Command}
    (hq : s.mgmt.inputQueue = c :: rest) (hp : p c = true) (ht : s.canTake = true) :
    s.headCommand p = some (c, rest) := by
  simp [State.headCommand, hq, hp, ht]

/-- What taking a command leaves, when its act commutes with the removal of the head. -/
theorem takeIf_taken {p : Command → Bool} {s t : State} {c : Command} {rest : List Command}
    {act : State → List Byte → Reply} {status : Status} {result : List Byte}
    (hq : s.mgmt.inputQueue = c :: rest) (hp : p c = true) (ht : s.canTake = true)
    (ha : act (dropHead s rest) c.args = { state := dropHead t rest, status := status, result := result }) :
    takeIf p s act = concluded s t c rest status result := by
  unfold takeIf
  rw [headCommand_some hq hp ht]
  simp only [ha]
  cases rest with
  | nil => simp [noteRestart, placeControl, settleNotice, replyTo, dropHead, concluded]; rfl
  | cons d rest =>
    by_cases hd : isCommand codeRestart 0 d = true
    · simp [noteRestart, placeControl, settleNotice, replyTo, dropHead, concluded, hd]; rfl
    · simp [noteRestart, placeControl, settleNotice, replyTo, dropHead, concluded, hd]; rfl

theorem Offers.canTake {s : State} {code : Nat} {args : List Byte} {c : Command} {rest : List Command}
    (h : Offers s code args c rest) : s.canTake = true := by
  obtain ⟨-, -, -, h1, h2, h3⟩ := h
  simp [State.canTake, h1, h2, h3]

/-- A command of 12.4 that is taken. -/
theorem takeCommand_taken {s t : State} {code len : Nat} {args : List Byte} {c : Command} {rest : List Command}
    {act : State → List Byte → Reply} {status : Status} {result : List Byte} (h : Offers s code args c rest)
    (hlen : args.length = len)
    (ha : act (dropHead s rest) args = { state := dropHead t rest, status := status, result := result }) :
    takeCommand code len s act = concluded s t c rest status result := by
  have hp : isCommand code len c = true := by simp [isCommand, h.2.1, h.2.2.1, hlen]
  exact takeIf_taken h.1 hp h.canTake (by rw [h.2.2.1]; exact ha)

theorem takeCommand_refused {s : State} {code len : Nat} {args : List Byte} {c : Command} {rest : List Command}
    {act : State → List Byte → Reply} {status : Status} (h : Offers s code args c rest) (hlen : args.length = len)
    (ha : act (dropHead s rest) args = refuse (dropHead s rest) status) :
    takeCommand code len s act = refusedWith s c rest status :=
  takeCommand_taken h hlen ha

theorem takeCommand_answered {s t : State} {code len : Nat} {args : List Byte} {c : Command} {rest : List Command}
    {act : State → List Byte → Reply} {result : List Byte} (h : Offers s code args c rest) (hlen : args.length = len)
    (ha : act (dropHead s rest) args = answer (dropHead t rest) result) :
    takeCommand code len s act = concluded s t c rest .done result :=
  takeCommand_taken h hlen ha

/-- What taking a command leaves in general: the head is gone and one reply stands at the tail (R167, R168). -/
theorem takeIf_of_head {p : Command → Bool} {s : State} {c : Command} {rest : List Command}
    (act : State → List Byte → Reply) (hq : s.mgmt.inputQueue = c :: rest) (hp : p c = true)
    (ht : s.canTake = true) :
    takeIf p s act = noteRestart (placeControl (settleNotice s (act (dropHead s rest) c.args).state)
      (replyTo (act (dropHead s rest) c.args).state c (act (dropHead s rest) c.args).status
        (act (dropHead s rest) c.args).result)) := by
  simp [takeIf, headCommand_some hq hp ht]

@[simp] theorem dropHead_handed (s : State) (rest : List Command) : (dropHead s rest).handed = s.handed := rfl
@[simp] theorem dropHead_services (s : State) (rest : List Command) : (dropHead s rest).services = s.services := rfl
@[simp] theorem dropHead_carriages (s : State) (rest : List Command) :
    (dropHead s rest).carriages = s.carriages := rfl
@[simp] theorem dropHead_entries (s : State) (rest : List Command) : (dropHead s rest).entries = s.entries := rfl
@[simp] theorem dropHead_lanes (s : State) (rest : List Command) : (dropHead s rest).lanes = s.lanes := rfl
@[simp] theorem dropHead_slots (s : State) (rest : List Command) : (dropHead s rest).slots = s.slots := rfl
@[simp] theorem dropHead_watch (s : State) (rest : List Command) : (dropHead s rest).watch = s.watch := rfl
@[simp] theorem dropHead_watchSeen (s : State) (rest : List Command) :
    (dropHead s rest).watchSeen = s.watchSeen := rfl
@[simp] theorem dropHead_promptSet (s : State) (rest : List Command) :
    (dropHead s rest).promptSet = s.promptSet := rfl
@[simp] theorem dropHead_policy (s : State) (rest : List Command) : (dropHead s rest).policy = s.policy := rfl
@[simp] theorem dropHead_store (s : State) (rest : List Command) : (dropHead s rest).store = s.store := rfl
@[simp] theorem dropHead_output (s : State) (rest : List Command) : (dropHead s rest).output = s.output := rfl
@[simp] theorem dropHead_lane (s : State) (rest : List Command) (l : Nat) : (dropHead s rest).lane l = s.lane l := rfl
@[simp] theorem dropHead_entry (s : State) (rest : List Command) (e : Nat) :
    (dropHead s rest).entry e = s.entry e := rfl
@[simp] theorem dropHead_slot (s : State) (rest : List Command) (k : Nat) : (dropHead s rest).slot k = s.slot k := rfl
@[simp] theorem dropHead_service (s : State) (rest : List Command) (key : Key) :
    (dropHead s rest).service key = s.service key := rfl
@[simp] theorem dropHead_carriage (s : State) (rest : List Command) (c : Nat) :
    (dropHead s rest).carriage c = s.carriage c := rfl

/-! ## What they may touch -/

theorem settleNotice_of_within {ps : List Part} {s t : State} (h : Within ps s t) :
    Within (.owed :: ps) s (settleNotice s t) :=
  (h.mono (List.subset_cons_self _ _)).trans
    ((settleNotice_within s t).mono (by intro p hp; simp at hp; simp [hp]))

theorem quietEvent_within {ps : List Part} {s : State} {enabled : Bool} {act : State → State}
    (h : Within ps s (act s)) : Within (.owed :: ps) s (quietEvent s enabled act) := by
  unfold quietEvent
  split
  · exact settleNotice_of_within h
  · exact Within.refl _ _

/-! ## The mark of the later time, and a flow's feed -/

/-- An accepted cell sets the mark of exactly the carriages whose primary component uses its binding. -/
theorem carriage_markHeard (s : State) (name : BindingName) (c : Nat) :
    (markHeard s name).carriage c =
      (s.carriage c).map fun x => if x.primaryUses name then { x with heard := true } else x := by
  unfold markHeard State.carriage
  induction s.carriages with
  | nil => rfl
  | cons y rest ih =>
    obtain ⟨j, x⟩ := y
    by_cases hj : j = c <;> by_cases hx : x.primaryUses name = true <;> simp_all [tableGet]

@[simp] theorem OutFlow.take_run (f : OutFlow) (feed : Option Feed) (mark : Bool) :
    (f.take feed mark).run = f.run := rfl

@[simp] theorem OutFlow.take_feed (f : OutFlow) (feed : Option Feed) (mark : Bool) :
    (f.take feed mark).feed = feed := rfl

/-- Outside a rebinding, a flow's restart mark is set exactly by a new feed (R127). -/
theorem OutFlow.take_restart_unmarked (f : OutFlow) (feed : Option Feed) :
    (f.take feed false).restart = (f.restart || (feed.isSome && decide (feed ≠ f.feed))) := by
  simp [OutFlow.take]

/-- A flow that keeps its feed, and that the act does not mark, is left as it was. -/
theorem OutFlow.take_same (f : OutFlow) : f.take f.feed false = f := by simp [OutFlow.take]

/-- In a slot that carriage `c` feeds, a rebinding marks every flow whose index the new list adds (R194). -/
theorem Slot.rebindingMarks_added (x : Slot) (c had has i j : Nat) (hj : j < 6) (fed : x.fedBy c j = true)
    (old : had ≤ i) (new : i < has) : x.rebindingMarks c had has i = true := by
  have any : (List.range 6).any (x.fedBy c) = true := List.any_eq_true.2 ⟨j, List.mem_range.2 hj, fed⟩
  simp [Slot.rebindingMarks, any, old, new]

/-- A slot that carriage `c` feeds nothing of has no flow marked by a rebinding of `c` (R194). -/
theorem Slot.rebindingMarks_unfed (x : Slot) (c had has i : Nat) (hi : i < 6)
    (unfed : ∀ j < 6, x.fedBy c j = false) : x.rebindingMarks c had has i = false := by
  have any : (List.range 6).any (x.fedBy c) = false := by
    simpa [List.any_eq_false] using unfed
  simp [Slot.rebindingMarks, any, unfed i hi]

end Sys2Proof.Machine
end

