-- ==== Sys2Proof/Tests/Slice0.lean ====
section
/-! SUPPORT. The model's own tests: the checks of WellFormed, the manual's worked figures, one small state that meets
every law, and for each statement a state and operands that meet its hypotheses. -/

namespace Sys2Proof.Tests

-- Proofs one at a time: each thread holds a stack of its own.
set_option Elab.async false

open Sys2Proof Sys2Proof.Machine Host

/-! ## WellFormed: each check refuses an ill-formed command -/

def zeros (n : Nat) : List Byte := List.replicate n 0

theorem test_wellFormed_takes_bounds :
    [Instr.cellArrival 16 (zeros 160), .orderCellSend 16, .lockTimeout 16, .silenceExpiry 16, .stallExpiry 1023,
      .windowEnd 16, .visitLockTimeout 16, .settleExpiry 16, .dwellEnd 16, .changeoverTimeout 127,
      .splicingTimeout 127].all Instr.WellFormed = true := by decide +kernel

theorem test_wellFormed_refuses_lane_17 :
    [Instr.cellArrival 17 (zeros 160), .orderCellSend 17, .lockTimeout 17, .silenceExpiry 17, .windowEnd 17,
      .visitLockTimeout 17, .settleExpiry 17, .dwellEnd 17].any Instr.WellFormed = false := by decide +kernel

theorem test_wellFormed_refuses_short_cell : (Instr.cellArrival 3 (zeros 159)).WellFormed = false := by decide +kernel

theorem test_wellFormed_refuses_long_cell : (Instr.cellArrival 3 (zeros 161)).WellFormed = false := by decide +kernel

theorem test_wellFormed_refuses_carriage_1024 : (Instr.stallExpiry 1024).WellFormed = false := by decide +kernel

theorem test_wellFormed_refuses_slot_128 :
    [Instr.changeoverTimeout 128, .splicingTimeout 128].any Instr.WellFormed = false := by decide +kernel

/-- No row of the opcode table gives bits (log 33). -/
theorem test_no_word_spells_a_command : decodeTableWord 8 0 = none := by decide +kernel

/-! ## The manual's worked figures -/

/-- 12.1's example: flow 200, run 38, marks S K T D, stamp 0x00012345. -/
def exampleCell : Machine.Cell :=
  { flow := 200, run := 38, s := true, k := true, e := false, t := true, d := true, stamp := 0x00012345, payload := [] }

theorem test_header_bytes_of_12_1 :
    headerBytes exampleCell = [0x0C#8, 0x89#8, 0xB6#8, 0x00#8, 0x01#8, 0x23#8, 0x45#8] := by decide +kernel

theorem test_header_reads_back :
    readCell ([0x0C#8, 0x89#8, 0xB6#8, 0x00#8, 0x01#8, 0x23#8, 0x45#8, 0xFF#8] ++ zeros 152) =
      { exampleCell with payload := zeros 152 } := by decide +kernel

/-- The published check value of the CRC of R197's message check: the nine digits 1 to 9 give 0x29B1. -/
theorem test_message_crc_of_digits :
    messageCrc [0x31#8, 0x32#8, 0x33#8, 0x34#8, 0x35#8, 0x36#8, 0x37#8, 0x38#8, 0x39#8] = 0x29B1#16 := by
  decide +kernel

/-- 5.8's two window ends, 11.3's three, a window at the cap of R95 and a silent one. -/
theorem test_window_scores :
    [windowScore ⟨2400, 6, 2, 90, 180⟩, windowScore ⟨2410, 0, 0, 48, 40⟩, windowScore ⟨2000, 10, 30, 40, 20⟩,
      windowScore ⟨1500, 80, 120, 20, 200⟩, windowScore ⟨900, 300, 200, 8, 400⟩, windowScore ⟨1, 0, 0, 255, 15⟩,
      windowScore ⟨0, 5, 0, 255, 0⟩] = [515, 782, 231, 16, 0, 1000, 0] := by decide +kernel

theorem test_loss_ratios_and_classes :
    [lossRatio ⟨2400, 6, 2, 90, 180⟩, lossRatio ⟨2000, 10, 30, 40, 20⟩, lossRatio ⟨1500, 80, 120, 20, 200⟩,
        lossRatio ⟨900, 300, 200, 8, 400⟩] = [217, 1304, 8295, 27306] ∧
      [0, 1, 2, 217, 655, 65535, 65536].map lossClass = [0, 1, 2, 8, 10, 16, 17] := by decide +kernel

/-- 5.8 (both carriages), 6.9 (the four window ends) and the bounds of R96. -/
theorem test_merit_steps :
    [nextMerit (some 700) 515 2, nextMerit (some 760) 782 2, nextMerit (some 654) 520 2, nextMerit (some 621) 530 2,
      nextMerit (some 765) 782 2, nextMerit (some 999) 1000 2, nextMerit (some 1000) 999 4, nextMerit none 231 2,
      nextMerit (some 400) 910 0] = [654, 765, 621, 599, 769, 1000, 999, 231, 910] := by decide +kernel

/-- R98: eight up and one down, between 0 and 255; 5.8's carriage 17 goes from 5 to 4. -/
theorem test_fault_scores :
    [nextFault 5 true, nextFault 0 true, nextFault 250 false, nextFault 56 false] = [4, 0, 255, 64] := by decide

theorem test_fault_limit_and_clear :
    [nextState Policy.standard .usable false 0 64, nextState Policy.standard .usable true 0 63,
      nextState Policy.standard .faulted true 0 32, nextState Policy.standard .faulted true 0 33,
      nextState Policy.standard .probation true 2 0, nextState Policy.standard .probation true 2 64,
      nextState Policy.standard .probation true 1 0, nextState Policy.standard .probation false 0 0] =
      [.faulted, .usable, .usable, .faulted, .usable, .faulted, .probation, .probation] := by decide

/-- What a step leaves, when it answers a next state. -/
def after (i : Instr) (s : State) (p : State → Bool) : Bool :=
  match exec i s with
  | .next t => p t
  | .fault _ => false
  | .refused _ => false

def slotOf (cap : Capacity) (cells : Nat) : Slot :=
  { Slot.vacant with state := .dark, capacity := some cap, margin := some .standard, baseFlow := some 100
                     queue := List.replicate cells { exampleCell with flow := 100 } }

/-- 8.6's shares as its commands leave the slots. -/
theorem test_shares :
    [shareOf [slotOf (.cells 4096) 0, slotOf .automatic 0, slotOf .automatic 0, Slot.vacant],
      shareOf [slotOf (.cells 4096) 0, slotOf .automatic 0, slotOf .automatic 0, slotOf .automatic 0],
      shareOf [slotOf .automatic 0, slotOf .automatic 0, slotOf .automatic 0],
      shareOf [slotOf (.cells 4096) 0]] = [some 2048, some 1365, some 2730, none] := by decide +kernel

theorem test_sixth_check :
    sharesAllow [slotOf (.cells 4096) 0, slotOf .automatic 0, slotOf .automatic 0, slotOf .automatic 0,
      slotOf (.cells 4096) 0] = false := by decide +kernel

/-- 8.5's arbitration at its opportunities 1 and 4. -/
def arbitration (cells spacing : Nat) (pressured service : Nat) : State :=
  { State.reset with
    slots := List.replicate 2 Slot.vacant ++ [slotOf (.cells 16) cells] ++ List.replicate 2 Slot.vacant ++
      [slotOf .automatic 3] ++ List.replicate 3 Slot.vacant ++ [slotOf .automatic 1] ++
      List.replicate 118 Slot.vacant
    store := { Store.fresh with
      automaticShare := some 2048, spacingCount := spacing, pressuredPtr := pressured, servicePtr := service
      controlQueue := [{ address := 0, tag := 1, code := 0x18, status := .done, result := [] }] } }

theorem test_pressured_slot_is_served_first :
    after .cellOpportunity (arbitration 15 12 1 1) (fun t => decide ((t.slot 2).queue.length = 14 ∧
      t.store.spacingCount = 13 ∧ t.store.pressuredPtr = 2 ∧ t.store.servicePtr = 2 ∧
      t.store.controlQueue.length = 1)) = true := by decide +kernel

theorem test_waiting_reply_goes_at_fifteen :
    after .cellOpportunity (arbitration 13 15 2 5) (fun t => decide ((t.slot 5).queue.length = 3 ∧
      t.store.spacingCount = 0 ∧ t.store.servicePtr = 5 ∧ t.store.controlQueue = [])) = true := by decide +kernel

/-- R33: the tag after 255 is 1. -/
theorem test_tags_wrap_to_one : [tagAfter 1, tagAfter 254, tagAfter 255] = [2, 255, 1] := by decide

/-- R30: a run one below the expected is a duplicate; a gap is counted modulo 64; the D mark sets both aside. -/
theorem test_run_checks :
    [checkRun (some 0) 63 false, checkRun (some 0) 0 false, checkRun (some 62) 2 false, checkRun (some 0) 63 true,
      checkRun none 17 false] = [.duplicate, .accepted 0, .accepted 4, .accepted 0, .accepted 0] := by decide

/-! ## A small state that meets every law

The station clock stands at 5 s. Entry 5 is parked on lane 3, entry 6 visited by lane 2, and entries 7 and 8 are
eligible, 8 prompted. Carriage 0 is on air from lane 3 on slot 0; carriage 1 is under survey on lane 2; carriage 2 is
shelved with a survey figure. -/

def parkedEntry : PlanEntry :=
  { PlanEntry.fresh with tuningWord := some 0x55, bias := 10, multiplexId := some 0xABCD,
                         directoryVersion := some 7, parkedLane := some 3 }

def visitedEntry : PlanEntry :=
  { PlanEntry.fresh with tuningWord := some 0x66, surveyEnable := true, visitingLane := some 2 }

def eligibleEntry : PlanEntry := { PlanEntry.fresh with tuningWord := some 0x77, surveyEnable := true }

/-- A timer of no length, started with the clock: it has run out. -/
def ranOut : Option Timer := some { start := 0, span := 0 }

/-- A timer of the greatest length: it has not run out. -/
def running : Option Timer := some { start := 0, span := 60000000 }

def parkedLane : Lane :=
  { Lane.fresh with mode := .parked, entry := some 5, parkedState := some .locked, tagCounter := 255,
                    currentTag := some 254, acknowledged := true, lockTimer := none, silenceTimer := running,
                    windowTimer := some { start := 0, span := 1000000 }, windowMargin := some 80,
                    windowStatusCount := 10 }

def visit (v : VisitState) (timer : Option Timer) : Rover :=
  { Rover.fresh with visitState := v, claimedEntry := some 6, visitTag := some 9, visitTimer := timer, visits := 1 }

def rovingLane (v : VisitState) (timer : Option Timer) : Lane :=
  { Lane.fresh with mode := .roving, tagCounter := 10, currentTag := some 9, silenceTimer := running,
                    rover := some (visit v timer) }

def onAirService : Service :=
  { Service.fresh 1 [0x41#8] with rankedList := [0], selected := some 0, selectableCount := 1, slotRefs := 1,
                                  bestProspect := some 2, prospectLead := true }

def surveyService : Service := { Service.fresh 2 [0x42#8] with rankedList := [1] }

def carriageOf (e : Nat) (key : Key) (flow : Nat) (st : CarriageState) (lane : Option Nat) : Carriage :=
  { entry := e, service := key
    components := [{ kind := .video, flow := flow, binding := lane.map fun l => { lane := l, flow := flow } }]
    timing := some 0, state := st, lane := lane, laneDown := false, stalled := false, merit := none, faultScore := 0
    peakFault := 0, probation := 0, missing := 0, lastWindow := none, surveyFigure := none, surveyTime := none
    wholeWindow := some true, boundTime := 0, heard := false }

def onAirCarriage : Carriage := { carriageOf 5 1 10 .usable (some 3) with merit := some 700 }

def surveyCarriage : Carriage := carriageOf 6 2 20 .survey (some 2)

def shelvedCarriage : Carriage :=
  { carriageOf 7 1 30 .shelved none with surveyFigure := some 800, wholeWindow := none }

def bindingOf (lane flow : Nat) : Binding :=
  { name := { lane := lane, flow := flow }, refCount := 1, expectedRun := some 38, n := 2400, g := 0, x := 0,
    duplicates := 0, pairing := none, peakJ := 0, deviationSeen := true, lastCellTime := 0 }

def steadySlot : Slot :=
  { Slot.vacant with
    state := .steady, primary := some 1, channel := some 1, baseFlow := some 100, capacity := some (.cells 16)
    margin := some .standard, onAir := some 0
    flows := { run := 5, feed := some { carriage := 0, component := 0 }, restart := false } ::
      List.replicate 5 OutFlow.fresh }

def sampleEntries : List PlanEntry :=
  List.replicate 5 PlanEntry.fresh ++ [parkedEntry, visitedEntry, eligibleEntry, eligibleEntry] ++
    List.replicate 54 PlanEntry.fresh ++ [PlanEntry.house]

def sampleLanes (roving parked : Lane) : List Lane :=
  List.replicate 2 Lane.fresh ++ [roving, parked] ++ List.replicate 12 Lane.fresh ++ [Lane.house]

/-- The sample state, with the records of its roving and parked lanes. -/
def sampleWith (roving parked : Lane) : State :=
  { State.reset with
    clock := 5000000
    entries := sampleEntries
    surveyPointer := 6
    promptSet := [8]
    lanes := sampleLanes roving parked
    services := [(0, onAirService), (1, surveyService)]
    carriages := [(0, onAirCarriage), (1, surveyCarriage), (2, shelvedCarriage)]
    bindings := [bindingOf 2 20, bindingOf 3 10]
    slots := steadySlot :: List.replicate 127 Slot.vacant }

def sample : State := sampleWith (rovingLane .dwelling ranOut) parkedLane

/-- The sample with lane 2 at a point of its visit. -/
def visiting (v : VisitState) (timer : Option Timer) : State := sampleWith (rovingLane v timer) parkedLane

/-- The sample with lane 3 in a parked state. -/
def parkedIn (p : ParkedState) (lock : Option Timer) : State :=
  sampleWith (rovingLane .dwelling ranOut) { parkedLane with parkedState := some p, lockTimer := lock }

/-- The sample before its two lanes are filled in: the laws that do not speak of lanes are shown of it. -/
def base : State := sampleWith Lane.fresh Lane.fresh

theorem base_shaped : base.Shaped := by
  refine ⟨rfl, rfl, rfl, rfl, rfl, by decide +kernel⟩

theorem base_catalogue : base.CatalogueOrdered := by
  refine ⟨?_, ?_, ?_, ?_, ?_, ?_, ?_⟩ <;> decide +kernel

theorem base_figures : base.FiguresInRange := by
  intro x hx
  simp only [base, sampleWith, List.mem_cons, List.not_mem_nil, or_false] at hx
  rcases hx with rfl | rfl | rfl
  all_goals refine ⟨fun f hf => ?_, by decide, by decide, by decide⟩
  all_goals cases hf
  decide

theorem base_queues : base.QueuesBounded := by
  refine ⟨?_, ?_, ?_⟩ <;> decide

theorem base_buffers : base.BuffersAccounted := by
  unfold State.BuffersAccounted
  decide +kernel

theorem base_slots : base.SlotsLawful := by
  intro x hx
  simp only [base, sampleWith, List.mem_cons, List.mem_replicate] at hx
  rcases hx with rfl | ⟨-, rfl⟩
  all_goals refine ⟨rfl, rfl, rfl⟩

theorem base_bindings : base.BindingsLawful := by
  refine ⟨base_catalogue, by decide, by decide, by decide +kernel, fun x hx => ?_⟩
  simp only [base, sampleWith, List.mem_cons, List.not_mem_nil, or_false] at hx
  rcases hx with rfl | rfl | rfl
  · exact ⟨by decide, 3, rfl, by decide +kernel⟩
  · exact ⟨by decide, 2, rfl, by decide +kernel⟩
  · refine ⟨by decide, ?_⟩
    show ∀ d ∈ _, _
    decide

theorem base_ranking : base.RankingLawful := by
  refine ⟨rfl, base_catalogue, fun x hx => ?_⟩
  simp only [base, sampleWith, List.mem_cons, List.not_mem_nil, or_false] at hx
  rcases hx with rfl | rfl
  · refine ⟨by decide, by decide, fun c hc => ?_, fun c hc => ?_, fun c hc => ?_, fun _ => rfl, fun c hc => ?_,
      fun c hc => ?_, by decide +kernel⟩
    · obtain rfl : c = 0 := by simpa [onAirService] using hc
      exact ⟨onAirCarriage, rfl, rfl, rfl⟩
    · obtain rfl : 0 = c := by simpa [onAirService] using hc
      exact ⟨onAirCarriage, rfl, rfl, rfl, rfl, rfl⟩
    · cases hc
    · cases hc
    · obtain rfl : 2 = c := by simpa [onAirService] using hc
      exact ⟨shelvedCarriage, rfl, rfl, rfl, rfl⟩
  · refine ⟨by decide, by decide, fun c hc => ?_, fun c hc => ?_, fun c hc => ?_, fun _ => rfl, fun c hc => ?_,
      fun c hc => ?_, by decide +kernel⟩
    · obtain rfl : c = 1 := by simpa [surveyService] using hc
      exact ⟨surveyCarriage, rfl, rfl, rfl⟩
    all_goals cases hc

/-- A state whose slot 0 alone is used meets the law of the lineup, if that slot does. -/
theorem lineup_of_one (s : State) (x : Slot) (hs : s.slots = x :: List.replicate 127 Slot.vacant) (shaped : s.Shaped)
    (catalogue : s.CatalogueOrdered) (hx : x.state ≠ .vacant)
    (h : x.primary.isSome ∧ x.fallback ≠ x.primary ∧ ∃ b, x.baseFlow = some b ∧ b ≤ 4026)
    (keys : x.keys.all (fun key => (s.service key).isSome) = true)
    (refs : ∀ x ∈ s.services, x.2.slotRefs = s.slots.countP fun k => k.keys.contains x.2.key) : s.LineupLawful := by
  have only : ∀ i, i = 0 ∨ (s.slot i).baseFlow = none := by
    intro i
    rcases i with - | i
    · exact Or.inl rfl
    · refine Or.inr ?_
      show (s.slots.getD (i + 1) Slot.vacant).baseFlow = none
      rw [hs, List.getD_cons_succ, List.getD_eq_getElem?_getD, List.getElem?_replicate]
      split <;> rfl
  have either : ∀ y ∈ s.slots, y = x ∨ y = Slot.vacant := by
    intro y hy
    rw [hs, List.mem_cons, List.mem_replicate] at hy
    exact hy.imp_right (·.2)
  refine ⟨shaped, catalogue, fun y hy e => ?_, fun y hy e => ?_, fun y hy key hk => ?_, refs,
    fun i _ j _ hij a b ha hb => ?_⟩
  · rcases either y hy with rfl | rfl
    · exact absurd e hx
    · rfl
  · rcases either y hy with rfl | rfl
    · exact h
    · exact absurd rfl e
  · rcases either y hy with rfl | rfl
    · exact List.all_eq_true.1 keys key hk
    · cases hk
  · rcases only i with rfl | h'
    · rcases only j with rfl | h'
      · exact absurd rfl hij
      · rw [h'] at hb
        cases hb
    · rw [h'] at ha
      cases ha

theorem base_lineup : base.LineupLawful :=
  lineup_of_one base steadySlot rfl base_shaped base_catalogue (by decide) ⟨rfl, by decide, 100, rfl, by decide⟩
    (by decide +kernel) (by decide +kernel)

theorem sample_shaped (a b : Lane) : (sampleWith a b).Shaped := base_shaped
theorem sample_catalogue (a b : Lane) : (sampleWith a b).CatalogueOrdered := base_catalogue
theorem sample_figures (a b : Lane) : (sampleWith a b).FiguresInRange := base_figures
theorem sample_queues (a b : Lane) : (sampleWith a b).QueuesBounded := base_queues
theorem sample_buffers (a b : Lane) : (sampleWith a b).BuffersAccounted := base_buffers
theorem sample_slots (a b : Lane) : (sampleWith a b).SlotsLawful := base_slots
theorem sample_bindings (a b : Lane) : (sampleWith a b).BindingsLawful := base_bindings
theorem sample_ranking (a b : Lane) : (sampleWith a b).RankingLawful := base_ranking
theorem sample_lineup (a b : Lane) : (sampleWith a b).LineupLawful := base_lineup

theorem iff_of_bounded {o : Option Nat} {n : Nat} {p : Nat → Prop} (hb : o.all (· < n) = true)
    (h : ∀ l < n, o = some l ↔ p l) (l : Nat) : o = some l ↔ l < n ∧ p l := by
  refine ⟨fun e => ?_, fun e => (h l e.1).2 e.2⟩
  subst e
  exact ⟨by simpa using hb, (h l (by simpa using hb)).1 rfl⟩

/-- Two lane records hold the same entry in the same way. -/
def Alike (m n : Lane) : Prop := m.entry = n.entry ∧ m.visiting = n.visiting ∧ m.rover.isSome = n.rover.isSome

theorem fresh_lawful : Lane.fresh.ModeLawful :=
  ⟨fun h => (by cases h), fun _ => rfl, ⟨fun h => (by cases h), fun h => (by cases h)⟩,
    fun e he => (by cases he), fun r hr => (by cases hr)⟩

theorem house_lawful : Lane.house.ModeLawful :=
  ⟨fun _ => ⟨63, rfl, by decide⟩, fun h => absurd rfl h, ⟨fun h => (by cases h), fun h => (by cases h)⟩,
    fun e he => (by cases he), fun r hr => (by cases hr)⟩

/-- The sample's lanes, two of them given, are as their modes say. -/
theorem lanes_lawful (s : State) (a b : Lane) (hs : s.lanes = sampleLanes a b) (ha : a.ModeLawful) (hb : b.ModeLawful)
    (l : Nat) (hl : l < 17) : (s.lane l).ModeLawful := by
  unfold State.lane
  rw [hs]
  interval_cases l <;> first | exact ha | exact hb | exact fresh_lawful | exact house_lawful

theorem sample_tenancy (a b : Lane) (ha : a.ModeLawful) (hb : b.ModeLawful)
    (ha' : Alike a (rovingLane .dwelling ranOut)) (hb' : Alike b parkedLane) : (sampleWith a b).TenancyLawful := by
  have like : ∀ l < 17, Alike ((sampleWith a b).lane l) (sample.lane l) := by
    intro l hl
    interval_cases l <;> first | exact ha' | exact hb' | exact ⟨rfl, rfl, rfl⟩
  have parked : ∀ e < 64, ∀ l < 17, (sample.entry e).parkedLane = some l ↔ (sample.lane l).entry = some e := by
    decide +kernel
  have visited : ∀ e < 64, ∀ l < 16, (sample.entry e).visitingLane = some l ↔ (sample.lane l).visiting = some e := by
    decide +kernel
  have bound : ∀ e < 64, (sample.entry e).parkedLane.all (· < 17) = true ∧
      (sample.entry e).visitingLane.all (· < 16) = true := by decide +kernel
  have one : ∀ e < 64, (sample.entry e).parkedLane = none ∨ (sample.entry e).visitingLane = none := by
    decide +kernel
  have eligible : sample.promptSet.all (fun e => sample.eligible e) = true := by decide +kernel
  refine ⟨sample_shaped _ _, lanes_lawful _ _ _ rfl ha hb,
    fun e he => iff_of_bounded (bound e he).1 fun l hl => (parked e he l hl).trans (by rw [(like l hl).1]),
    fun e he => iff_of_bounded (bound e he).2 fun l hl =>
      (visited e he l hl).trans (by rw [(like l (by omega)).2.1]),
    one, rfl, rfl, by show 6 ≤ 62; decide,
    by exact List.pairwise_singleton _ _, fun e he => List.all_eq_true.1 eligible e he, fun x hx => ?_⟩
  simp only [sampleWith, List.mem_cons, List.not_mem_nil, or_false] at hx
  rcases hx with rfl | rfl | rfl
  · exact ⟨by decide, rfl, rfl⟩
  · exact ⟨by decide, rfl, rfl⟩
  · exact ⟨by decide, rfl⟩

/-- A lane that visits entry 6 is as its mode says. -/
theorem roving_lawful (n : Lane) (r : Rover) (mode : n.mode = .roving) (entry : n.entry = none)
    (rover : n.rover = some r) (claimed : r.claimedEntry = some 6) (hv : r.visitState ≠ .paused) : n.ModeLawful := by
  refine ⟨fun h => ?_, fun _ => entry, ⟨fun _ => by rw [rover]; rfl, fun _ => mode⟩, fun e he => ?_, fun r' hr => ?_⟩
  · rw [mode] at h
    cases h
  · obtain rfl : 6 = e := by simpa [Lane.visiting, rover, claimed] using he
    decide
  · rw [rover] at hr
    cases hr
    exact ⟨⟨fun h => absurd h hv, fun h => by rw [claimed] at h; cases h⟩, fun h => absurd h hv⟩

theorem rovingLane_lawful (v : VisitState) (timer : Option Timer) (hv : v ≠ .paused) :
    (rovingLane v timer).ModeLawful := roving_lawful _ _ rfl rfl rfl rfl hv

theorem parkedLane_lawful (p : ParkedState) (lock : Option Timer) :
    ({ parkedLane with parkedState := some p, lockTimer := lock } : Lane).ModeLawful :=
  ⟨fun _ => ⟨5, rfl, by decide⟩, fun h => absurd rfl h, ⟨fun h => (by cases h), fun h => (by cases h)⟩,
    fun e he => (by cases he), fun r hr => (by cases hr)⟩

theorem visiting_tenancy (v : VisitState) (timer : Option Timer) (hv : v ≠ .paused) :
    (visiting v timer).TenancyLawful :=
  sample_tenancy _ _ (rovingLane_lawful v timer hv) (parkedLane_lawful .locked none) ⟨rfl, rfl, rfl⟩ ⟨rfl, rfl, rfl⟩

theorem tenancy : sample.TenancyLawful := visiting_tenancy .dwelling ranOut (by decide)

/-- The sample meets every law that a step is to keep. -/
theorem sample_meets_every_law :
    sample.Shaped ∧ sample.Settled ∧ sample.FiguresInRange ∧ sample.QueuesBounded ∧ sample.BuffersAccounted ∧
      sample.SlotsLawful ∧ sample.CatalogueOrdered ∧ sample.BindingsLawful ∧ sample.RankingLawful ∧
      sample.TenancyLawful ∧ sample.LineupLawful ∧ sample.SettingsInRange :=
  ⟨sample_shaped _ _, rfl, sample_figures _ _, sample_queues _ _, sample_buffers _ _, sample_slots _ _,
    sample_catalogue _ _, sample_bindings _ _, sample_ranking _ _, tenancy, sample_lineup _ _,
    by unfold State.SettingsInRange; decide +kernel⟩

/-! ## Witnesses: for each statement with hypotheses, states and operands that meet them

A clause of a statement has a conjunct here, at a bound of its range where it has one. -/

def cmd (code : Byte) (args : List Byte) : Command := { tag := 1, code := code, args := args }

/-- A state with one command in its input queue. -/
def asking (s : State) (code : Byte) (args : List Byte) : State :=
  { s with mgmt := { s.mgmt with inputQueue := [cmd code args] } }

/-- The sample with one command in its input queue. -/
def asks (code : Byte) (args : List Byte) : State := asking sample code args

/-- The command can be taken, and has `n` argument bytes: the hypotheses that every statement of a command has. -/
def Asked (s : State) (code : Byte) (args : List Byte) (n : Nat) : Prop :=
  Offers (asking s code args) code.toNat args (cmd code args) [] ∧ args.length = n

theorem asked (s : State) (code : Byte) (args : List Byte) (h : s.canTake = true) : Asked s code args args.length := by
  simp only [State.canTake, Bool.and_eq_true, Bool.not_eq_true', decide_eq_true_eq] at h
  exact ⟨⟨rfl, rfl, rfl, h.1.1, h.1.2, h.2⟩, rfl⟩

theorem asked_sample (code : Byte) (args : List Byte) : Asked sample code args args.length := asked _ _ _ rfl

theorem all_of {α : Type} {o : Option α} {p : α → Bool} (h : o.all p = true) (a : α) (e : o = some a) : p a = true := by
  subst e
  exact h

/-! ### One step, and the laws -/

/-- The reset state with the pin held; with nothing due; and the sample about to end a window. -/
def held : State := { State.reset with resetHeld := true }
def quiet : State := { State.reset with store := { Store.fresh with oppIndex := 1 } }
def stepping : State := { sample with pending := [.windowEnd 3] }

theorem witness_StepTakesTheFrontCommand : stepping.pending = .windowEnd 3 :: [] := rfl

theorem witness_IdlePartTicksOrQueuesItsDueSteps :
    (held.pending = [] ∧ held.resetHeld = true) ∧
      (quiet.pending = [] ∧ quiet.resetHeld = false ∧ quiet.dueSteps = []) ∧
      (State.reset.pending = [] ∧ State.reset.resetHeld = false ∧ State.reset.dueSteps ≠ []) := by decide +kernel

theorem witness_WellFormedCommandsAreAnswered :
    (Instr.cellArrival 16 (zeros 160)).WellFormed = true ∧ 16 < 17 ∧ (16 ≤ 16 ∧ (zeros 159).length ≠ 160) ∧
      1023 < 1024 ∧ 127 < 128 := by decide +kernel

theorem witness_EveryStepKeepsToItsParts :
    sample.Settled ∧ ∃ t, exec (.windowEnd 3) sample = .next t := ⟨rfl, _, rfl⟩

/-- For SettingsStayInRange, FiguresStayInRange, QueuesStayBounded, SlotsStayLawful, CatalogueStaysOrdered,
BindingsAgreeWithCarriages, SelectionsStand, NoEntryIsHeldTwice and LineupStaysLawful. -/
theorem witness_laws_before_a_step :
    (stepping.Shaped ∧ stepping.FiguresInRange ∧ stepping.QueuesBounded ∧ stepping.BuffersAccounted ∧
      stepping.SlotsLawful ∧ stepping.CatalogueOrdered ∧ stepping.BindingsLawful ∧ stepping.RankingLawful ∧
      stepping.TenancyLawful ∧ stepping.LineupLawful ∧ stepping.SettingsInRange) ∧
      ∃ t, step stepping = .next t := by
  obtain ⟨h1, -, h2, h3, -, h5, h6, h7, h8, h9, h10, h11⟩ := sample_meets_every_law
  exact ⟨⟨h1, h2, h3, by unfold State.BuffersAccounted; decide +kernel, h5, h6, h7, h8, h9, h10, h11⟩, _, rfl⟩

/-! ### Resets and taking commands -/

def reply : ControlCell := { address := 0, tag := 1, code := 0x18, status := .done, result := [] }
def full : State := { State.reset with store := { Store.fresh with controlQueue := List.replicate 64 reply } }
def waiting : State := { State.reset with mgmt := { Management.fresh with restartWaiting := true } }

theorem witness_ResetsLeaveTheResetValues :
    (held.resetHeld = true ∧ Instr.readNotices.WellFormed = true ∧ (∀ pins, Instr.readNotices ≠ .powerOn pins) ∧
      Instr.readNotices ≠ .resetPin ∧ ∀ pins, Instr.readNotices ≠ .resetPinRelease pins) ∧
      State.reset.resetHeld = false := by
  refine ⟨⟨rfl, rfl, fun _ h => ?_, fun h => ?_, fun _ h => ?_⟩, rfl⟩ <;> cases h

theorem witness_RestartResetsAndReplies :
    ((asks 0x01 []).resetHeld = false ∧ (asks 0x01 []).mgmt.inputQueue = cmd 0x01 [] :: [] ∧
        (cmd 0x01 []).code = 0x01#8 ∧ (cmd 0x01 []).args = [] ∧ (asks 0x01 []).store.controlQueue = []) ∧
      ((asking full 0x01 []).resetHeld = false ∧ (asking full 0x01 []).mgmt.inputQueue = cmd 0x01 [] :: [] ∧
        (asking full 0x01 []).store.controlQueue ≠ []) ∧
      (∀ c rest, (asks 0x01 [0#8]).mgmt.inputQueue = c :: rest → c.code = 0x01#8 → c.args ≠ []) := by
  refine ⟨⟨rfl, rfl, rfl, rfl, rfl⟩, ⟨rfl, rfl, by decide +kernel⟩, fun c rest h _ => ?_⟩
  cases h
  decide

/-- The four ways in which SET POLICY and UNKNOWN_COMMAND wait. -/
theorem witness_CommandsWaitUntilTheyCanBeTaken :
    ((0x02, 15, .setPolicy) ∈ commandTable 0 ∧ (0x02 : Nat) ≠ 0x01) ∧
      ((asking held 0x02 (zeros 15)).resetHeld = true ∧ (asking waiting 0x02 (zeros 15)).mgmt.restartWaiting = true ∧
        64 ≤ (asking full 0x02 (zeros 15)).store.controlQueue.length) ∧
      (∀ c rest, (asks 0x03 (zeros 6)).mgmt.inputQueue = c :: rest → c.code.toNat = 0x02 → c.args.length = 15 →
        (asks 0x03 (zeros 6)).resetHeld = true) ∧
      (∀ c rest, (asks 0x03 (zeros 6)).mgmt.inputQueue = c :: rest →
        ∃ r ∈ commandTable 0, r.1 = c.code.toNat ∧ r.2.1 = c.args.length) := by
  refine ⟨by decide, by decide +kernel, fun c rest h hc => ?_, fun c rest h => ?_⟩
  · cases h
    cases hc
  · cases h
    exact ⟨(0x03, 6, .setSurvey), by decide, rfl, rfl⟩

theorem witness_EveryTakenCommandGetsOneReply :
    ((0x02, 15, .setPolicy) ∈ commandTable 0 ∧ (0x02 : Nat) ≠ 0x01 ∧ Asked sample 0x02 (zeros 15) 15) ∧
      (Asked sample 0x1C [] 0 ∧ ∀ r ∈ commandTable 0, ¬ (r.1 = (0x1C#8).toNat ∧ r.2.1 = ([] : List Byte).length)) ∧
      (Asked sample 0x02 (zeros 14) 14 ∧
        ∀ r ∈ commandTable 0, ¬ (r.1 = (0x02#8).toNat ∧ r.2.1 = (zeros 14).length)) :=
  ⟨⟨by decide, by decide, asked_sample _ _⟩, ⟨asked_sample _ _, by decide⟩, asked_sample _ _, by decide⟩

/-! ### Setting commands, the plan register and the watch list -/

/-- SET POLICY at the defaults, but for the stall time. -/
def policyArgs (hi lo : Byte) : List Byte := [4, 2, 1, 44, 64, 32, 2, 0, 40, 3, 3, hi, lo, 7, 208]

theorem witness_SetPolicyTakesElevenSettings :
    (Asked sample 0x02 (policyArgs 2 88) 15 ∧ (asks 0x02 (policyArgs 2 88)).Settled ∧
        (asks 0x02 (policyArgs 2 88)).policy.stallTime ≤ max 100 (min 5000 (numberAt (policyArgs 2 88) 11 2))) ∧
      (Asked sample 0x02 (policyArgs 2 87) 15 ∧ (asks 0x02 (policyArgs 2 87)).Settled ∧
        max 100 (min 5000 (numberAt (policyArgs 2 87) 11 2)) < (asks 0x02 (policyArgs 2 87)).policy.stallTime ∧
        (asks 0x02 (policyArgs 2 87)).CatalogueOrdered) :=
  ⟨⟨asked_sample _ _, rfl, by decide +kernel⟩, asked_sample _ _, rfl, by decide +kernel, base_catalogue⟩

theorem witness_SetSurveyAndSetOutputTakeTheirSettings :
    Asked sample 0x03 (zeros 6) 6 ∧ Asked sample 0x04 (zeros 10) 10 := ⟨asked_sample _ _, asked_sample _ _⟩

/-- Entry 62 takes a word; entry 5, parked, keeps its word 0x55. -/
def planArgs (e word : Byte) : List Byte := [e, 0, 0, 0, 0, 0, 0, 0, word, 0, 101, 1]

theorem witness_SetPlanEntryWritesTheEntry :
    (Asked sample 0x05 (planArgs 62 9) 12 ∧ (asks 0x05 (planArgs 62 9)).Settled ∧ byteAt (planArgs 62 9) 0 ≤ 62 ∧
        ((asks 0x05 (planArgs 62 9)).entry 62).parkedLane = none ∧
        ((asks 0x05 (planArgs 62 9)).entry 62).visitingLane = none) ∧
      (Asked sample 0x05 (planArgs 5 0x55) 12 ∧ (asks 0x05 (planArgs 5 0x55)).Settled ∧
        ((asks 0x05 (planArgs 5 0x55)).entry 5).tuningWord =
          some (BitVec.ofNat 64 (numberAt (planArgs 5 0x55) 1 8))) :=
  ⟨⟨asked_sample _ _, rfl, by decide +kernel⟩, asked_sample _ _, rfl, by decide +kernel⟩

theorem witness_ClearPlanEntryRemovesItsCarriages :
    ∀ e ∈ [6#8, 62#8], Asked sample 0x06 [e] 1 ∧ (asks 0x06 [e]).Settled ∧ (asks 0x06 [e]).CatalogueOrdered ∧
      (asks 0x06 [e]).TenancyLawful ∧ byteAt [e] 0 ≤ 62 ∧ ((asks 0x06 [e]).entry (byteAt [e] 0)).parkedLane = none ∧
      (asks 0x06 [e]).mgmt.log.length ≤ 32 := by
  intro e he
  refine ⟨asked_sample _ _, rfl, base_catalogue, tenancy, ?_⟩
  simp only [List.mem_cons, List.not_mem_nil, or_false] at he
  rcases he with rfl | rfl <;> decide +kernel

theorem witness_SetWatchWritesTheWatchList :
    Asked sample 0x0F [31, 1, 0, 0, 0, 9] 6 ∧ (asks 0x0F [31, 1, 0, 0, 0, 9]).CatalogueOrdered ∧
      byteAt [31, 1, 0, 0, 0, 9] 0 ≤ 31 := ⟨asked_sample _ _, base_catalogue, by decide⟩

/-- Entry 8 is prompted, entry 7 eligible, and the house entry neither. -/
theorem witness_PromptSurveyJoinsEligibleEntries :
    (Asked sample 0x10 [8] 1 ∧ 8 ∈ (asks 0x10 [8]).promptSet) ∧
      (Asked sample 0x10 [7] 1 ∧ 7 ∉ (asks 0x10 [7]).promptSet ∧ 7 < 63 ∧
        ((asks 0x10 [7]).entry 7).surveyEnable = true ∧ ((asks 0x10 [7]).entry 7).tuningWord.isSome = true ∧
        ((asks 0x10 [7]).entry 7).parkedLane = none ∧ ((asks 0x10 [7]).entry 7).visitingLane = none) ∧
      (Asked sample 0x10 [63] 1 ∧ 63 ∉ (asks 0x10 [63]).promptSet ∧ ¬ 63 < 63) :=
  ⟨⟨asked_sample _ _, by decide +kernel⟩, ⟨asked_sample _ _, by decide +kernel⟩, asked_sample _ _, by decide +kernel⟩

def unprompted : State := { sample with promptSet := [] }

theorem unprompted_tenancy : unprompted.TenancyLawful := by
  obtain ⟨h1, h2, h3, h4, h5, h6, h7, h8, -, -, h9⟩ := tenancy
  exact ⟨h1, h2, h3, h4, h5, h6, h7, h8, List.Pairwise.nil, fun e he => (by cases he), h9⟩

/-- A part that has just been reset, with lane 2 roving and paused. -/
def pausedVisit : Rover := { Rover.fresh with visitState := .paused, visits := 1 }
def pausedLane : Lane :=
  { Lane.fresh with mode := .roving, tagCounter := 10, silenceTimer := running, rover := some pausedVisit }
def nobody : State := { State.reset with lanes := sampleLanes pausedLane Lane.fresh, surveyPointer := 62 }

theorem nobody_shaped : nobody.Shaped := by
  refine ⟨?_, ?_, ?_, ?_, ?_, ?_⟩ <;> first | rfl | decide +kernel

theorem nobody_catalogue : nobody.CatalogueOrdered := by
  refine ⟨?_, ?_, ?_, ?_, ?_, ?_, ?_⟩ <;> decide +kernel

theorem nobody_tenancy : nobody.TenancyLawful := by
  have parked : ∀ e < 64, ∀ l < 17, (nobody.entry e).parkedLane = some l ↔ (nobody.lane l).entry = some e := by
    decide +kernel
  have visited : ∀ e < 64, ∀ l < 16, (nobody.entry e).visitingLane = some l ↔ (nobody.lane l).visiting = some e := by
    decide +kernel
  have bound : ∀ e < 64, (nobody.entry e).parkedLane.all (· < 17) = true ∧
      (nobody.entry e).visitingLane.all (· < 16) = true := by decide +kernel
  refine ⟨nobody_shaped, lanes_lawful _ _ _ rfl ?_ fresh_lawful,
    fun e he => iff_of_bounded (bound e he).1 (parked e he),
    fun e he => iff_of_bounded (bound e he).2 (visited e he), by decide +kernel, rfl, rfl, by decide,
    List.Pairwise.nil, fun e he => (by cases he), fun x hx => (by cases hx)⟩
  exact ⟨fun h => (by cases h), fun _ => rfl, ⟨fun _ => rfl, fun _ => rfl⟩, fun e he => (by cases he),
    fun r hr => by cases hr; exact ⟨⟨fun _ => rfl, fun _ => rfl⟩, fun _ => ⟨rfl, rfl⟩⟩⟩

theorem nobody_eligible (e : Nat) : nobody.eligible e = false := by
  by_cases h : e < 63
  · exact (by decide +kernel : ∀ e < 63, nobody.eligible e = false) e h
  · simp [State.eligible, Config.houseEntry, h]

theorem witness_ClaimsTakeTheNextEntry :
    (sample.Shaped ∧ (sample.lane 2).mode = .roving ∧ (sample.lane 2).rover = some (visit .dwelling ranOut) ∧
        sample.surveyPointer ≤ 62 ∧ sample.promptSet.head? = some 8) ∧
      (unprompted.Shaped ∧ (unprompted.lane 2).mode = .roving ∧
        (unprompted.lane 2).rover = some (visit .dwelling ranOut) ∧ unprompted.surveyPointer ≤ 62 ∧
        unprompted.promptSet = [] ∧ unprompted.eligible 7 = true ∧
        ∀ d, unprompted.eligible d = true →
          (7 + 62 - unprompted.surveyPointer) % 63 ≤ (d + 62 - unprompted.surveyPointer) % 63) ∧
      (nobody.Shaped ∧ (nobody.lane 2).mode = .roving ∧ (nobody.lane 2).rover = some pausedVisit ∧
        nobody.surveyPointer ≤ 62 ∧ nobody.promptSet = [] ∧ ∀ e, nobody.eligible e = false) := by
  refine ⟨⟨base_shaped, by decide +kernel⟩, ⟨base_shaped, rfl, rfl, by decide, rfl, by decide +kernel,
    fun d _ => ?_⟩, nobody_shaped, rfl, rfl, by decide, rfl, nobody_eligible⟩
  show (7 + 62 - 6) % 63 ≤ _
  simp

/-- The paused lane 2 of a part with one eligible entry claims it. -/
def awaited : State := { nobody with entries := nobody.entries.set 7 eligibleEntry }

theorem witness_PausedLanesClaim :
    (awaited.Shaped ∧ (awaited.lane 2).mode = .roving ∧
        (awaited.lane 2).rover.map (·.visitState) = some .paused ∧ awaited.eligible 7 = true) ∧
      ¬ ((awaited.lane 16).mode = .roving) ∧
      ((pausedClaims nobody).lane 2).rover.map (·.visitState) = some .paused := by
  refine ⟨⟨?_, rfl, rfl, by decide +kernel⟩, by decide, by decide +kernel⟩
  refine ⟨?_, ?_, ?_, ?_, ?_, ?_⟩ <;> first | rfl | decide +kernel

/-! ### Lane commands -/

theorem witness_ParkLaneParksTheLane :
    (Asked sample 0x07 [15, 7] 2 ∧ (asks 0x07 [15, 7]).Settled ∧ (asks 0x07 [15, 7]).CatalogueOrdered ∧
        (asks 0x07 [15, 7]).TenancyLawful ∧ byteAt [15, 7] 0 ≤ 15 ∧ byteAt [15, 7] 1 ≤ 62 ∧
        ((asks 0x07 [15, 7]).entry 7).tuningWord = some 0x77 ∧ ((asks 0x07 [15, 7]).entry 7).parkedLane = none) ∧
      (Asked sample 0x07 [3, 5] 2 ∧ (asks 0x07 [3, 5]).Settled ∧ (asks 0x07 [3, 5]).CatalogueOrdered ∧
        (asks 0x07 [3, 5]).TenancyLawful ∧ byteAt [3, 5] 0 ≤ 15 ∧ byteAt [3, 5] 1 ≤ 62 ∧
        ((asks 0x07 [3, 5]).entry 5).tuningWord = some 0x55 ∧ ((asks 0x07 [3, 5]).entry 5).parkedLane = some 3) :=
  ⟨⟨asked_sample _ _, rfl, base_catalogue, tenancy, by decide +kernel⟩,
    asked_sample _ _, rfl, base_catalogue, tenancy, by decide +kernel⟩

/-- A bind attempt that has what it needs (flow 30 is new on lane 3), and one that meets a binding of four users;
and the sample's laws for PARK LANE's attempts. -/
def shared : State := { sample with bindings := [{ bindingOf 3 30 with refCount := 4 }] }

theorem witness_BindAttempts :
    (sample.CatalogueOrdered ∧ sample.BindingsLawful ∧ sample.carriage 2 = some shelvedCarriage ∧
        (shelvedCarriage.components.map (·.flow)) = [30] ∧ sample.binding 3 30 = none ∧
        sample.bindings.length + 1 ≤ 2048) ∧
      (shared.CatalogueOrdered ∧ shared.carriage 2 = some shelvedCarriage ∧
        shared.binding 3 30 = some { bindingOf 3 30 with refCount := 4 }) ∧
      (sample.carriage 0 = some onAirCarriage ∧
        onAirCarriage.components.filterMap (·.binding) = [{ lane := 3, flow := 10 }]) :=
  ⟨⟨base_catalogue, base_bindings, rfl, rfl, by decide +kernel⟩, ⟨base_catalogue, rfl, by decide +kernel⟩, rfl, rfl⟩

/-- The three claims ROVE LANE may make: the prompted entry 8; of no prompted entry the first from the pointer, 7; and
none. -/
theorem witness_RoveLaneMakesItsFirstClaim :
    (sample.promptSet.head? = some 8 ∧ sample.TenancyLawful) ∧
      (Asked unprompted 0x08 [15] 1 ∧ (asking unprompted 0x08 [15]).Settled ∧
        (asking unprompted 0x08 [15]).CatalogueOrdered ∧ (asking unprompted 0x08 [15]).TenancyLawful ∧
        unprompted.promptSet = [] ∧ unprompted.surveyPointer = 6 ∧
        ((unprompted.entry 7).surveyEnable = true ∧ (unprompted.entry 7).tuningWord ≠ none ∧
          (unprompted.entry 7).parkedLane = none ∧ (unprompted.entry 7).visitingLane = none) ∧
        ∀ d, (7 + 62 - 6) % 63 ≤ (d + 62 - 6) % 63) ∧
      (∀ l ∈ [2#8, 15#8], Asked nobody 0x08 [l] 1 ∧ (asking nobody 0x08 [l]).Settled ∧
        (asking nobody 0x08 [l]).CatalogueOrdered ∧ (asking nobody 0x08 [l]).TenancyLawful ∧ byteAt [l] 0 ≤ 15) ∧
      ∀ e < 63, (nobody.entry e).surveyEnable ≠ true := by
  refine ⟨⟨rfl, tenancy⟩, ⟨asked _ _ _ rfl, rfl, base_catalogue, unprompted_tenancy, rfl, rfl, by decide +kernel,
    fun d => by simp⟩, fun l hl => ⟨asked _ _ _ rfl, rfl, nobody_catalogue, nobody_tenancy, ?_⟩, by decide +kernel⟩
  simp only [List.mem_cons, List.not_mem_nil, or_false] at hl
  rcases hl with rfl | rfl <;> decide

/-- For ROVE LANE and RELEASE LANE: an idle lane, the parked lane and the visiting lane. -/
theorem witness_RoveLaneMakesItsFirstClaim_and_ReleaseLaneIdlesTheLane :
    ∀ code ∈ [0x08#8, 0x09#8], ∀ l ∈ [15#8, 3#8, 2#8], Asked sample code [l] 1 ∧ (asks code [l]).Settled ∧
      (asks code [l]).CatalogueOrdered ∧ (asks code [l]).TenancyLawful ∧ byteAt [l] 0 ≤ 15 := by
  intro code _ l hl
  refine ⟨asked_sample _ _, rfl, base_catalogue, tenancy, ?_⟩
  simp only [List.mem_cons, List.not_mem_nil, or_false] at hl
  rcases hl with rfl | rfl | rfl <;> decide

theorem witness_SetLaneSetsTheStatusInterval :
    (Asked sample 0x0A [15, 0, 0] 3 ∧ (asks 0x0A [15, 0, 0]).Settled ∧ (asks 0x0A [15, 0, 0]).Shaped ∧
        ¬ ∃ tm, ((asks 0x0A [15, 0, 0]).lane 15).silenceTimer = some tm ∧
          3000 * 10 ≤ elapsed (asks 0x0A [15, 0, 0]).clock tm.start) ∧
      (Asked (visiting .tuning running) 0x0A [2, 0xFF, 0xFF] 3 ∧
        (∃ tm, ((visiting .tuning running).lane 2).silenceTimer = some tm ∧
          3000 * 1000 ≤ elapsed (visiting .tuning running).clock tm.start) ∧
        ((visiting .tuning running).lane 2).mode ≠ .parked ∧
        ((visiting .tuning running).lane 2).losesLock = false) ∧
      (Asked sample 0x0A [3, 0, 0] 3 ∧
        (∃ tm, ((asks 0x0A [3, 0, 0]).lane 3).silenceTimer = some tm ∧
          3000 * 10 ≤ elapsed (asks 0x0A [3, 0, 0]).clock tm.start) ∧
        ((asks 0x0A [3, 0, 0]).lane 3).mode = .parked) ∧
      (Asked sample 0x0A [2, 0, 0] 3 ∧
        (∃ tm, ((asks 0x0A [2, 0, 0]).lane 2).silenceTimer = some tm ∧
          3000 * 10 ≤ elapsed (asks 0x0A [2, 0, 0]).clock tm.start) ∧
        ((asks 0x0A [2, 0, 0]).lane 2).mode = .roving ∧ ((asks 0x0A [2, 0, 0]).lane 2).losesLock = true ∧
        ((asks 0x0A [2, 0, 0]).lane 2).visiting = some 6) := by
  refine ⟨⟨asked_sample _ _, rfl, base_shaped, ?_⟩,
    ⟨asked _ _ _ rfl, ⟨_, rfl, by decide +kernel⟩, by decide +kernel⟩,
    ⟨asked_sample _ _, ⟨_, rfl, by decide +kernel⟩, by decide +kernel⟩,
    asked_sample _ _, ⟨_, rfl, by decide +kernel⟩, by decide +kernel⟩
  rintro ⟨tm, h, -⟩
  cases h

/-- Slot 0 armed on carriage 2: for the second ground of FORGET CARRIAGE's refusal. -/
def armedOnShelved : State :=
  { sample with slots := { steadySlot with state := .armed, target := some 2 } :: List.replicate 127 Slot.vacant }

theorem witness_CommandsAreRefusedInOrder :
    (Asked sample 0x09 [17] 1 ∧ 16 < byteAt [17] 0) ∧ (Asked sample 0x09 [16] 1 ∧ byteAt [16] 0 = 16) ∧
      (Asked sample 0x07 [15, 64] 2 ∧ byteAt [15, 64] 0 ≤ 15 ∧ 63 < byteAt [15, 64] 1) ∧
      (Asked sample 0x07 [15, 62] 2 ∧ byteAt [15, 62] 1 ≤ 62 ∧ ((asks 0x07 [15, 62]).entry 62).tuningWord = none) ∧
      (Asked sample 0x07 [15, 63] 2 ∧ byteAt [15, 63] 1 ≤ 63 ∧
        ((asks 0x07 [15, 63]).entry 63).parkedLane = some 16) ∧
      (Asked sample 0x07 [15, 5] 2 ∧ ((asks 0x07 [15, 5]).entry 5).tuningWord ≠ none ∧
        ((asks 0x07 [15, 5]).entry 5).parkedLane = some 3) ∧
      (Asked sample 0x05 (planArgs 63 1) 12 ∧ 62 < byteAt (planArgs 63 1) 0) ∧
      (Asked sample 0x05 (planArgs 6 1) 12 ∧ byteAt (planArgs 6 1) 0 ≤ 62 ∧
        ((asks 0x05 (planArgs 6 1)).entry 6).tuningWord ≠ some (BitVec.ofNat 64 (numberAt (planArgs 6 1) 1 8)) ∧
        ((asks 0x05 (planArgs 6 1)).entry 6).visitingLane.isSome) ∧
      (Asked sample 0x06 [63] 1 ∧ 62 < byteAt [63] 0) ∧
      (Asked sample 0x06 [5] 1 ∧ byteAt [5] 0 ≤ 62 ∧ ((asks 0x06 [5]).entry 5).parkedLane.isSome) ∧
      (Asked sample 0x0F [32, 0, 0, 0, 0, 0] 6 ∧ 31 < byteAt [32, 0, 0, 0, 0, 0] 0) ∧
      (Asked sample 0x11 [17] 1 ∧ 16 < byteAt [17] 0) ∧ (Asked sample 0x12 [64] 1 ∧ 63 < byteAt [64] 0) ∧
      (Asked sample 0x14 [4, 0] 2 ∧ 1023 < numberAt [4, 0] 0 2) ∧
      (Asked sample 0x14 [3, 255] 2 ∧ numberAt [3, 255] 0 2 ≤ 1023 ∧ (asks 0x14 [3, 255]).carriage 1023 = none) ∧
      (Asked sample 0x17 [0, 0] 2 ∧ (asks 0x17 [0, 0]).carriage 0 = some onAirCarriage ∧
        (asks 0x17 [0, 0]).service 1 = some onAirService ∧ onAirService.selected = some 0) ∧
      (Asked armedOnShelved 0x17 [0, 2] 2 ∧ (asking armedOnShelved 0x17 [0, 2]).carriage 2 = some shelvedCarriage ∧
        ∃ k ∈ (asking armedOnShelved 0x17 [0, 2]).slots, (k.state = .armed ∨ k.state = .splicing) ∧
          k.target = some 2) ∧
      (Asked sample 0x13 [0, 0, 0, 3] 4 ∧ (asks 0x13 [0, 0, 0, 3]).service 3 = none) ∧
      (Asked sample 0x1A [2, 0] 2 ∧ 511 < numberAt [2, 0] 0 2) ∧
      (Asked sample 0x1B [4, 0, 0] 3 ∧ 1023 < numberAt [4, 0, 0] 0 2) ∧
      (Asked sample 0x1B [0, 0, 64] 3 ∧ 63 < byteAt [0, 0, 64] 2 ∧ byteAt [0, 0, 64] 2 ≠ 0xFF) := by
  refine ⟨⟨asked_sample _ _, ?_⟩, ⟨asked_sample _ _, ?_⟩, ⟨asked_sample _ _, ?_⟩, ⟨asked_sample _ _, ?_⟩,
    ⟨asked_sample _ _, ?_⟩, ⟨asked_sample _ _, ?_⟩, ⟨asked_sample _ _, ?_⟩, ⟨asked_sample _ _, ?_⟩,
    ⟨asked_sample _ _, ?_⟩, ⟨asked_sample _ _, ?_⟩, ⟨asked_sample _ _, ?_⟩, ⟨asked_sample _ _, ?_⟩,
    ⟨asked_sample _ _, ?_⟩, ⟨asked_sample _ _, ?_⟩, ⟨asked_sample _ _, ?_⟩, ⟨asked_sample _ _, ?_⟩,
    ⟨asked _ _ _ rfl, rfl, _, List.mem_cons_self, Or.inl rfl, rfl⟩, ⟨asked_sample _ _, ?_⟩, ⟨asked_sample _ _, ?_⟩,
    ⟨asked_sample _ _, ?_⟩, asked_sample _ _, ?_⟩
  all_goals decide +kernel

/-! ### Slot commands -/

/-- SET SLOT's arguments: slot, primary key, no fallback, base flow in two bytes, automatic capacity. -/
def slotArgs (k key hi lo : Byte) : List Byte := [k, 0, 0, 0, key, 0, 0, 0, 0, 0, 0, 7, hi, lo, 0, 0, 0xFF, 0xFF]

/-- Slot 127, vacant, at the highest base flow 4026; and slot 0 again at its own base flow 100. -/
theorem witness_SetSlotSetsTheSlot :
    ∀ args ∈ [slotArgs 127 2 0x0F 0xBA, slotArgs 0 2 0 100],
      Asked sample 0x0B args 18 ∧ (asks 0x0B args).LineupLawful ∧ byteAt args 0 ≤ 127 ∧ byteAt args 5 = 0 ∧
        numberAt args 12 2 ≤ 4026 ∧
        (((asks 0x0B args).slot (byteAt args 0)).state ≠ .vacant →
          ((asks 0x0B args).slot (byteAt args 0)).baseFlow = some (numberAt args 12 2)) ∧
        (∀ j < 128, j ≠ byteAt args 0 → ∀ b, ((asks 0x0B args).slot j).baseFlow = some b →
          b + 6 ≤ numberAt args 12 2 ∨ numberAt args 12 2 + 6 ≤ b) ∧
        (∀ n, shareOf ((asks 0x0B args).slots.modify (byteAt args 0) fun x =>
          { x with state := if x.state = .vacant then .dark else x.state, capacity := some .automatic }) = some n →
            16 ≤ n) ∧
        (asks 0x0B args).services.length + 1 ≤ 512 := by
  have gap : ∀ args ∈ [slotArgs 127 2 0x0F 0xBA, slotArgs 0 2 0 100], ∀ j < 128, j ≠ byteAt args 0 →
      (sample.slot j).baseFlow.all (fun b => decide (b + 6 ≤ numberAt args 12 2 ∨ numberAt args 12 2 + 6 ≤ b)) =
        true := by
    intro args h
    simp only [List.mem_cons, List.not_mem_nil, or_false] at h
    rcases h with rfl | rfl <;> decide +kernel
  have share : ∀ k ∈ [0, 127], (shareOf (sample.slots.modify k fun x =>
      { x with state := if x.state = .vacant then .dark else x.state, capacity := some .automatic })).all
        (fun n => decide (16 ≤ n)) = true := by decide +kernel
  intro args h
  have h0 : byteAt args 0 ∈ [0, 127] ∧ args.length = 18 := by
    simp only [List.mem_cons, List.not_mem_nil, or_false] at h
    rcases h with rfl | rfl <;> decide
  refine ⟨⟨(asked_sample _ _).1, h0.2⟩, base_lineup, ?_, ?_, ?_, ?_,
    fun j hj hk b hb => by simpa using all_of (gap args h j hj hk) b hb,
    fun n hn => by simpa using all_of (share _ h0.1) n hn, by show 2 + 1 ≤ 512; decide⟩
  all_goals
    simp only [List.mem_cons, List.not_mem_nil, or_false] at h
    rcases h with rfl | rfl <;> decide +kernel

/-- One dark slot on a key that nothing but the slot holds. -/
def lone : State :=
  { State.reset with
    services := [(0, { Service.fresh 3 [] with slotRefs := 1 })]
    slots := { slotOf (.cells 16) 0 with primary := some 3, channel := some 1 } ::
      List.replicate 127 Slot.vacant }

theorem lone_lineup : lone.LineupLawful :=
  lineup_of_one lone _ rfl (by refine ⟨?_, ?_, ?_, ?_, ?_, ?_⟩ <;> first | rfl | decide +kernel)
    (by refine ⟨?_, ?_, ?_, ?_, ?_, ?_, ?_⟩ <;> decide +kernel) (by decide) ⟨rfl, by decide, 100, rfl, by decide⟩
    (by decide +kernel) (by decide +kernel)

/-- The keys of SET SLOT: key 1 of slot 0 is named no more and keeps its carriages, key 3 is named no more and is
freed, key 2 is newly named with a record, and key 9 without one. -/
theorem witness_SetSlotCountsItsKeys :
    ((sample.slot 0).primary = some 1 ∧ onAirService.slotRefs = 1 ∧ ∃ y ∈ sample.carriages, y.2.service = 1) ∧
      (sample.service 2 = some surveyService ∧ (sample.slot 0).keys.contains 2 = false) ∧
      (Asked lone 0x0B (slotArgs 0 9 0 100) 18 ∧ (asking lone 0x0B (slotArgs 0 9 0 100)).LineupLawful ∧
        lone.service 9 = none ∧ (lone.slot 0).primary = some 3 ∧
        lone.service 3 = some { Service.fresh 3 [] with slotRefs := 1 } ∧ lone.carriages = [] ∧ some 3 ∉ lone.watch) :=
  ⟨⟨rfl, rfl, _, List.mem_cons_self, rfl⟩, by decide +kernel, asked _ _ _ rfl, lone_lineup, by decide +kernel⟩

theorem witness_ClearSlotEmptiesTheSlot :
    (Asked sample 0x0C [127] 1 ∧ (asks 0x0C [127]).LineupLawful ∧ byteAt [127] 0 ≤ 127 ∧
        ((asks 0x0C [127]).slot 127).state = .vacant) ∧
      (Asked sample 0x0C [0] 1 ∧ (asks 0x0C [0]).LineupLawful ∧ ((asks 0x0C [0]).slot 0).state ≠ .vacant) :=
  ⟨⟨asked_sample _ _, base_lineup, by decide +kernel⟩, asked_sample _ _, base_lineup, by decide +kernel⟩

/-- The sample with other slots. -/
def withSlots (xs : List Slot) : State := { sample with slots := xs ++ List.replicate (128 - xs.length) Slot.vacant }

def secondSlot : Slot := { slotOf (.cells 16) 0 with primary := some 2, baseFlow := some 106, channel := some 2 }
def pair : State := withSlots [steadySlot, secondSlot]

theorem witness_ExchangeSlotsSwapsTheKeys :
    (Asked pair 0x0D [0, 1] 2 ∧ ((asking pair 0x0D [0, 1]).slot 0).state ≠ .vacant ∧
        ((asking pair 0x0D [0, 1]).slot 1).state ≠ .vacant ∧ byteAt [0, 1] 0 ≠ byteAt [0, 1] 1) ∧
      (Asked pair 0x0D [1, 1] 2 ∧ ((asking pair 0x0D [1, 1]).slot 1).state ≠ .vacant) :=
  ⟨⟨asked _ _ _ rfl, by decide +kernel⟩, asked _ _ _ rfl, by decide +kernel⟩

/-- Two slots of 4096 cells leave no share; and 512 services leave no record. -/
def spent : State := withSlots [slotOf (.cells 4096) 0, { slotOf (.cells 4096) 0 with baseFlow := some 106 }]
def crowded : State :=
  { sample with services := (List.range 512).map fun i => (i, Service.fresh (BitVec.ofNat 32 (i + 100)) []) }

/-- The seven checks of SET SLOT, each failing alone, and the other refusals. -/
theorem witness_SlotCommandsAreRefused :
    (Asked sample 0x0B (slotArgs 128 2 0 1) 18 ∧ ¬ byteAt (slotArgs 128 2 0 1) 0 ≤ 127) ∧
      (Asked sample 0x0B [1, 0, 0, 0, 2, 1, 0, 0, 0, 2, 0, 7, 0, 1, 0, 0, 0, 0] 18 ∧
        byteAt [1, 0, 0, 0, 2, 1, 0, 0, 0, 2] 5 ≠ 0 ∧
        numberAt [1, 0, 0, 0, 2, 1, 0, 0, 0, 2] 1 4 = numberAt [1, 0, 0, 0, 2, 1, 0, 0, 0, 2] 6 4) ∧
      (Asked sample 0x0B (slotArgs 127 2 0x0F 0xBB) 18 ∧ ¬ numberAt (slotArgs 127 2 0x0F 0xBB) 12 2 ≤ 4026) ∧
      (Asked sample 0x0B (slotArgs 0 2 0 101) 18 ∧ ((asks 0x0B (slotArgs 0 2 0 101)).slot 0).state ≠ .vacant ∧
        ((asks 0x0B (slotArgs 0 2 0 101)).slot 0).baseFlow ≠ some (numberAt (slotArgs 0 2 0 101) 12 2)) ∧
      (Asked sample 0x0B (slotArgs 127 2 0 105) 18 ∧
        ((asks 0x0B (slotArgs 127 2 0 105)).slot 127).state = .vacant ∧
        ((asks 0x0B (slotArgs 127 2 0 105)).slot 0).state ≠ .vacant ∧
        ((asks 0x0B (slotArgs 127 2 0 105)).slot 0).baseFlow = some 100 ∧
        ¬ (100 + 6 ≤ numberAt (slotArgs 127 2 0 105) 12 2 ∨ numberAt (slotArgs 127 2 0 105) 12 2 + 6 ≤ 100)) ∧
      (Asked spent 0x0B (slotArgs 2 2 1 0) 18 ∧
        shareOf ((asking spent 0x0B (slotArgs 2 2 1 0)).slots.modify 2 fun x =>
          { x with state := if x.state = .vacant then .dark else x.state, capacity := some .automatic }) = some 0) ∧
      (Asked crowded 0x0B (slotArgs 1 2 1 0) 18 ∧ (asking crowded 0x0B (slotArgs 1 2 1 0)).services.length = 512 ∧
        (asking crowded 0x0B (slotArgs 1 2 1 0)).service 2 = none) ∧
      (Asked sample 0x0C [128] 1 ∧ 127 < byteAt [128] 0) ∧
      (Asked sample 0x0D [0, 128] 2 ∧ 127 < byteAt [0, 128] 1) ∧
      (Asked sample 0x0D [0, 127] 2 ∧ ((asks 0x0D [0, 127]).slot 127).state = .vacant) ∧
      (Asked sample 0x15 [128] 1 ∧ 127 < byteAt [128] 0) := by
  refine ⟨⟨asked_sample _ _, ?_⟩, ⟨asked_sample _ _, ?_⟩, ⟨asked_sample _ _, ?_⟩, ⟨asked_sample _ _, ?_⟩,
    ⟨asked_sample _ _, ?_⟩, ⟨asked _ _ _ rfl, ?_⟩, ⟨asked _ _ _ rfl, ?_⟩, ⟨asked_sample _ _, ?_⟩,
    ⟨asked_sample _ _, ?_⟩, ⟨asked_sample _ _, ?_⟩, asked_sample _ _, ?_⟩
  all_goals decide +kernel

/-! ### The slot composer -/

/-- The sample with one other slot in place of slot 0. -/
def withSlot (x : Slot) : State := withSlots [x]

theorem withSlot_shaped (x : Slot) (h : x.flows.length = 6) : (withSlot x).Shaped := by
  refine ⟨rfl, rfl, rfl, rfl, rfl, fun y hy => ?_⟩
  simp only [withSlot, withSlots, List.cons_append, List.nil_append, List.mem_cons, List.mem_replicate] at hy
  rcases hy with rfl | ⟨-, rfl⟩
  · exact h
  · rfl

/-- An armed slot: what is on air, what it is armed on, and its primary key. -/
def armedSlot (onAir : Option Nat) (target : Nat) (key : Key) (timer : Option Timer) : Slot :=
  { steadySlot with state := .armed, onAir := onAir, target := some target, primary := some key, timer := timer }

def splicingSlot (timer : Option Timer) : Slot :=
  { steadySlot with state := .splicing, onAir := none, target := some 0, timer := timer
                    flows := List.replicate 6 OutFlow.fresh }

/-- The carriage that a slot's primary key wants. Key 1 wants carriage 0 and key 2 none. -/
def wants (s : State) : Option Nat := (s.slot 0).primary.bind fun key => (s.service key).bind (·.selected)

/-- One slot for each line of R130's table. No slot here has a fallback. -/
theorem witness_SlotsMoveByTheChangeoverTable :
    (∀ x ∈ [Slot.vacant, slotOf .automatic 0, steadySlot, armedSlot none 0 1 running, splicingSlot running],
        (withSlot x).Shaped ∧ ((withSlot x).slot 0).fallback = none) ∧
      ((withSlot Slot.vacant).slot 0).state = .vacant ∧
      (((withSlot (slotOf .automatic 0)).slot 0).state = .dark ∧ wants (withSlot (slotOf .automatic 0)) = none) ∧
      (((withSlot { steadySlot with primary := some 2 }).slot 0).state = .steady ∧
        wants (withSlot { steadySlot with primary := some 2 }) = none) ∧
      (((withSlot steadySlot).slot 0).state = .steady ∧ wants (withSlot steadySlot) = some 0 ∧
        ((withSlot steadySlot).slot 0).onAir = some 0) ∧
      (((withSlot (armedSlot none 0 1 running)).slot 0).state = .armed ∧
        wants (withSlot (armedSlot none 0 1 running)) = ((withSlot (armedSlot none 0 1 running)).slot 0).target) ∧
      (((withSlot (armedSlot (some 0) 2 1 running)).slot 0).state = .armed ∧
        wants (withSlot (armedSlot (some 0) 2 1 running)) = some 0 ∧
        ((withSlot (armedSlot (some 0) 2 1 running)).slot 0).target ≠ some 0 ∧
        ((withSlot (armedSlot (some 0) 2 1 running)).slot 0).onAir = some 0) ∧
      (wants (withSlot (armedSlot (some 0) 2 2 running)) = none ∧
        (withSlot (armedSlot (some 0) 2 2 running)).delivering 0 = true) ∧
      (wants (withSlot (armedSlot (some 2) 0 2 running)) = none ∧
        (withSlot (armedSlot (some 2) 0 2 running)).delivering 2 = false) ∧
      ((withSlot (splicingSlot running)).slot 0).state = .splicing ∧
      (((withSlot { slotOf .automatic 0 with primary := some 1 }).slot 0).state = .dark ∧
        wants (withSlot { slotOf .automatic 0 with primary := some 1 }) = some 0) ∧
      (((withSlot { steadySlot with onAir := some 2 }).slot 0).onAir ≠ some 0 ∧
        wants (withSlot { steadySlot with onAir := some 2 }) = some 0) ∧
      (wants (withSlot (armedSlot none 2 1 running)) = some 0 ∧
        ((withSlot (armedSlot none 2 1 running)).slot 0).target ≠ some 0 ∧
        ((withSlot (armedSlot none 2 1 running)).slot 0).onAir ≠ some 0) := by
  refine ⟨fun x hx => ?_, ?_⟩
  · simp only [List.mem_cons, List.not_mem_nil, or_false] at hx
    rcases hx with rfl | rfl | rfl | rfl | rfl <;> exact ⟨withSlot_shaped _ rfl, rfl⟩
  · decide +kernel

/-- The binding of carriage 0's one component. -/
def feedName : BindingName := { lane := 3, flow := 10 }

def bareCell : Machine.Cell :=
  { flow := 10, run := 0, s := false, k := false, e := false, t := false, d := false, stamp := 0, payload := [] }

/-- The mark *forced pending* set, and the K and S marks set, apart and together. -/
theorem witness_SlotsSpliceAndSwitch :
    (∀ x ∈ [armedSlot none 0 1 ranOut, { armedSlot none 0 1 running with forcedPending := true },
        splicingSlot ranOut, splicingSlot running, { splicingSlot running with reviewPending := true }],
      (withSlot x).Shaped ∧ ((withSlot x).slot 0).target = some 0 ∧
        (withSlot x).usesBinding 0 0 feedName = true ∧ (withSlot x).resetHeld = false) ∧
      (armedSlot none 0 1 ranOut).state = .armed ∧ (armedSlot none 0 1 ranOut).forcedPending = false ∧
      ({ bareCell with k := true } : Machine.Cell).k = true ∧ bareCell.k = false ∧ bareCell.s = false ∧
      ({ bareCell with s := true } : Machine.Cell).s = true ∧
      (splicingSlot ranOut).state = .splicing ∧ (splicingSlot ranOut).reviewPending = false ∧
      ((List.range ((withSlot (splicingSlot ranOut)).componentCount 0)).filter fun j =>
        !(splicingSlot ranOut).switched.contains j &&
          (withSlot (splicingSlot ranOut)).usesBinding 0 j feedName) ≠ [] ∧
      (∃ tm, (armedSlot none 0 1 ranOut).timer = some tm ∧
        tm.span ≤ ((withSlot (armedSlot none 0 1 ranOut)).clock - tm.start).toNat) ∧
      (∃ tm, (splicingSlot ranOut).timer = some tm ∧
        tm.span ≤ ((withSlot (splicingSlot ranOut)).clock - tm.start).toNat) ∧
      (∃ tm, (splicingSlot running).timer = some tm ∧
        ((withSlot (splicingSlot running)).clock - tm.start).toNat < tm.span) ∧
      sample.Shaped ∧ sample.CatalogueOrdered ∧ ∃ before, sample.carriage 0 = some before ∧
        ((sample.slot 0).flows.getD 0 OutFlow.fresh).feed.map (·.carriage) = some 0 := by
  refine ⟨fun x hx => ?_, rfl, rfl, rfl, rfl, rfl, rfl, rfl, rfl, by decide +kernel, ⟨_, rfl, by decide⟩,
    ⟨_, rfl, by decide⟩, ⟨_, rfl, by decide +kernel⟩, base_shaped, base_catalogue, _, rfl, by decide +kernel⟩
  simp only [List.mem_cons, List.not_mem_nil, or_false] at hx
  rcases hx with rfl | rfl | rfl | rfl | rfl <;> exact ⟨withSlot_shaped _ rfl, rfl, by decide +kernel, rfl⟩

/-- A queue one below its capacity of 16, one at it, and a store without a buffer. -/
def queued (n : Nat) : State := withSlot { steadySlot with queue := List.replicate n bareCell }

/-- Slots that a cell of carriage 0's binding concerns: armed on it, so that a K cell splices and ends the slot's
SPLICING at once; armed on it and unready; splicing to it; and steady on it. -/
def flowsFedBy (s : State) (name : BindingName) : List Nat :=
  (List.range 6).filter fun i => ((s.slot 0).flows.getD i OutFlow.fresh).feed.any fun f =>
    s.usesBinding f.carriage f.component name

def taken (s : State) (c : Machine.Cell) : State :=
  let ready := switchStep (spliceStep s 0 feedName c) 0 feedName c
  (flowsFedBy ready feedName).foldl (fun t i => offerOnFlow t 0 i c) ready

theorem witness_OfferedCellsTakeFourSteps :
    (∀ x ∈ [armedSlot none 0 1 running, splicingSlot running], (withSlot x).Shaped ∧
        ((withSlot x).slot 0).baseFlow = some 100 ∧
        (withSlot x).effectiveCapacity ((withSlot x).slot 0) = some 16 ∧ ((withSlot x).slot 0).target = some 0 ∧
        0 < (withSlot x).componentCount 0 ∧ (withSlot x).usesBinding 0 0 feedName = true) ∧
      (∀ t ∈ [taken (withSlot (armedSlot none 0 1 running)) { bareCell with k := true },
          taken (withSlot (splicingSlot running)) { bareCell with s := true }],
        (t.slot 0).state = .splicing ∧ (t.slot 0).target = some 0 ∧
          ∀ j < t.componentCount 0, j ∈ (t.slot 0).switched) ∧
      (∀ t ∈ [taken (withSlot (armedSlot none 0 1 running)) bareCell, taken sample bareCell],
        (t.slot 0).state ≠ .splicing) ∧
      flowsFedBy sample feedName = [0] ∧
      (flowsFedBy sample { lane := 2, flow := 20 } = [] ∧ (sample.slot 0).target = none) := by
  refine ⟨fun x hx => ?_, by decide +kernel⟩
  simp only [List.mem_cons, List.not_mem_nil, or_false] at hx
  rcases hx with rfl | rfl <;> exact ⟨withSlot_shaped _ rfl, by decide +kernel⟩

theorem witness_OfferedCellsAreRenumberedAndStored :
    ((queued 15).Shaped ∧ ((queued 15).slot 0).baseFlow = some 100 ∧
        (queued 15).effectiveCapacity ((queued 15).slot 0) = some 16 ∧ ((queued 15).slot 0).queue.length < 16 ∧
        0 < (queued 15).store.freeBuffers) ∧
      ((queued 16).Shaped ∧ (queued 16).effectiveCapacity ((queued 16).slot 0) = some 16 ∧
        16 ≤ ((queued 16).slot 0).queue.length) ∧
      ({ sample with store := { Store.fresh with freeBuffers := 0 } } : State).store.freeBuffers = 0 ∧
      ((sample.slot 0).state = .steady ∧ (sample.slot 0).target = none) :=
  ⟨⟨withSlot_shaped _ rfl, by decide +kernel⟩, ⟨withSlot_shaped _ rfl, by decide +kernel⟩, rfl, rfl, rfl⟩

/-! ### Ranking and selection -/

theorem witness_EvaluationsRankTheService : sample.CatalogueOrdered := base_catalogue

/-- An act that stalls the carriage on air: its service is handed on, loses its selection and is the primary key of
slot 0. A scored window is handed on with its carriage. -/
theorem witness_ActsEvaluateWhatTheyHandOn :
    ((stallCarriage sample 0).CatalogueOrdered ∧ (stallCarriage sample 0).Shaped ∧
        (stallCarriage sample 0).handed = [{ key := 1, scored := none }] ∧
        (sample.service 1).bind (·.selected) = some 0 ∧
        ((evaluateHanded (stallCarriage sample 0)).service 1).bind (·.selected) = none ∧
        (sample.slot 0).primary = some 1 ∧ (sample.slot 1).primary = none ∧ (sample.slot 1).fallback = none) ∧
      (sample.carriage 0 = some onAirCarriage ∧ onAirCarriage.state = .usable ∧ surveyCarriage.state = .survey) ∧
      ((scoreCarriage sample 3 0).handed.findSome? fun h => if h.key = 1 then h.scored else none) = some 0 := by
  refine ⟨⟨?_, base_shaped, by decide +kernel⟩, ⟨rfl, rfl, rfl⟩, by decide +kernel⟩
  refine ⟨?_, ?_, ?_, ?_, ?_, ?_, ?_⟩ <;> decide +kernel

/-- Carriage 1 of entry 8, of the same service and USABLE, with this merit: carriage 0 has rank value 710. -/
def rivals (merit : Nat) : State :=
  { sample with carriages := [(0, onAirCarriage), (1, { onAirCarriage with entry := 8, merit := some merit })] }

def challenged (candidate : Option Nat) (count : Nat) : Service :=
  { onAirService with candidate := candidate, confirmCount := count }

theorem witness_SelectionFollowsTheFourSteps :
    ({ onAirService with pinned := some 0 } : Service).pinned = some 0 ∧
      (sample.carriage 0 = some onAirCarriage ∧ onAirCarriage.selectable = true) ∧
      (∀ d x, ({ onAirService with selected := some 2 } : Service).selected = some d → sample.carriage d = some x →
        x.selectable = false) ∧
      (onAirService.pinned = none ∧ onAirService.selected = some 0) ∧
      (sampleWith (rovingLane .tuning none) { parkedLane with degraded := true }).firstHealthy
        ((sampleWith (rovingLane .tuning none) { parkedLane with degraded := true }).rankOrder 1) = none ∧
      (∀ m ∈ [749, 750], (rivals m).carriage 0 = some onAirCarriage ∧
        (rivals m).firstHealthy ((rivals m).rankOrder 1) =
          some (1, { onAirCarriage with entry := 8, merit := some m }) ∧
        (rivals m).policy.confirmCount = 3) ∧
      ¬ (710 + 40 ≤ 749) ∧ 710 + 40 ≤ 750 ∧
      ((challenged (some 1) 2).candidate = some 1 ∧ 3 ≤ min ((challenged (some 1) 2).confirmCount + 1) 15) ∧
      min ((challenged (some 1) 1).confirmCount + 1) 15 < 3 ∧ (challenged none 0).candidate ≠ some 1 := by
  refine ⟨rfl, ⟨rfl, rfl⟩, fun d x hd hx => ?_, by decide +kernel⟩
  cases hd
  cases hx
  rfl

def unheld : State := { State.reset with services := [(0, Service.fresh 3 [])] }

theorem unheld_ranking : unheld.RankingLawful := by
  refine ⟨rfl, ?_, fun x hx => ?_⟩
  · refine ⟨?_, ?_, ?_, ?_, ?_, ?_, ?_⟩ <;> decide +kernel
  · simp only [unheld, List.mem_cons, List.not_mem_nil, or_false] at hx
    subst hx
    refine ⟨by decide, by decide, fun c hc => ?_, fun c hc => ?_, fun c hc => ?_, fun _ => rfl, fun c hc => ?_,
      fun c hc => ?_, by decide +kernel⟩ <;> cases hc

/-- The sample with service 1 pinned on the carriage on air. -/
def pinned : State :=
  { sample with services := [(0, { onAirService with pinned := some 0 }), (1, surveyService)] }

theorem pinned_ranking : pinned.RankingLawful := by
  obtain ⟨-, -, h⟩ := base_ranking
  refine ⟨rfl, by refine ⟨?_, ?_, ?_, ?_, ?_, ?_, ?_⟩ <;> decide +kernel, fun x hx => ?_⟩
  simp only [pinned, List.mem_cons, List.not_mem_nil, or_false] at hx
  rcases hx with rfl | rfl
  · obtain ⟨h1, h2, h3, h4, h5, h6, -, h7⟩ := h (0, onAirService) List.mem_cons_self
    refine ⟨h1, h2, h3, h4, h5, h6, fun c hc => ?_, h7⟩
    cases hc
    exact ⟨onAirCarriage, rfl, rfl, trivial⟩
  · exact h (1, surveyService) (List.mem_cons_of_mem _ List.mem_cons_self)

/-- A recorded pin that is cleared, with the selection it made in force. -/
theorem witness_PinServiceClearsARecordedPin :
    Asked pinned 0x0E [0, 0, 0, 1, 0xFF, 0xFF] 6 ∧ (asking pinned 0x0E [0, 0, 0, 1, 0xFF, 0xFF]).RankingLawful ∧
      pinned.service 1 = some { onAirService with pinned := some 0 } ∧ 0 < onAirService.slotRefs ∧
      onAirService.selected = some 0 :=
  ⟨asked _ _ _ rfl, pinned_ranking, rfl, by decide, rfl⟩

theorem witness_PinServicePinsAndEvaluates :
    (Asked sample 0x0E [0, 0, 0, 9, 0, 0] 6 ∧ (asks 0x0E [0, 0, 0, 9, 0, 0]).service 9 = none) ∧
      (Asked sample 0x0E [0, 0, 0, 1, 4, 0] 6 ∧ (asks 0x0E [0, 0, 0, 1, 4, 0]).service 1 = some onAirService ∧
        1023 < numberAt [0, 0, 0, 1, 4, 0] 4 2 ∧ numberAt [0, 0, 0, 1, 4, 0] 4 2 ≠ 0xFFFF) ∧
      (Asked sample 0x0E [0, 0, 0, 1, 3, 255] 6 ∧ numberAt [0, 0, 0, 1, 3, 255] 4 2 ≤ 1023 ∧
        (asks 0x0E [0, 0, 0, 1, 3, 255]).carriage 1023 = none) ∧
      (∀ i ∈ [0#8, 2#8], Asked sample 0x0E [0, 0, 0, 1, 0, i] 6 ∧ (asks 0x0E [0, 0, 0, 1, 0, i]).RankingLawful) ∧
      (sample.carriage 0 = some onAirCarriage ∧ onAirCarriage.service = 1 ∧ onAirCarriage.state = .usable ∧
        onAirCarriage.laneDown = false ∧ onAirCarriage.stalled = false) ∧
      (sample.carriage 2 = some shelvedCarriage ∧ shelvedCarriage.service = 1 ∧
        shelvedCarriage.selectable = false) ∧
      (Asked sample 0x0E [0, 0, 0, 1, 0xFF, 0xFF] 6 ∧ (asks 0x0E [0, 0, 0, 1, 0xFF, 0xFF]).RankingLawful ∧
        numberAt [0, 0, 0, 1, 0xFF, 0xFF] 4 2 = 0xFFFF ∧ 0 < onAirService.slotRefs) ∧
      (Asked unheld 0x0E [0, 0, 0, 3, 0xFF, 0xFF] 6 ∧ (asking unheld 0x0E [0, 0, 0, 3, 0xFF, 0xFF]).RankingLawful ∧
        (asking unheld 0x0E [0, 0, 0, 3, 0xFF, 0xFF]).service 3 = some (Service.fresh 3 []) ∧
        (Service.fresh 3 []).slotRefs = 0 ∧ unheld.carriages = [] ∧ some 3 ∉ unheld.watch) :=
  ⟨⟨asked_sample _ _, by decide +kernel⟩, ⟨asked_sample _ _, by decide +kernel⟩,
    ⟨asked_sample _ _, by decide +kernel⟩, fun _ _ => ⟨asked_sample _ _, base_ranking⟩, ⟨rfl, rfl, rfl, rfl, rfl⟩,
    ⟨rfl, rfl, rfl⟩, ⟨asked_sample _ _, base_ranking, by decide +kernel⟩, asked _ _ _ rfl, unheld_ranking,
    by decide +kernel⟩

/-! ### Reading commands, and commands on carriages -/

theorem witness_ReadsReportOneRecordAndClearWhatTheyShow :
    (Asked sample 0x11 [16] 1 ∧ byteAt [16] 0 ≤ 16) ∧ (Asked sample 0x12 [63] 1 ∧ byteAt [63] 0 ≤ 63) ∧
      (Asked sample 0x13 [0, 0, 0, 1] 4 ∧ (asks 0x13 [0, 0, 0, 1]).service 1 = some onAirService) ∧
      (Asked sample 0x14 [0, 0] 2 ∧ (asks 0x14 [0, 0]).carriage 0 = some onAirCarriage) ∧
      (Asked sample 0x16 [0, 0] 2 ∧ (asks 0x16 [0, 0]).carriage 0 = some onAirCarriage) ∧
      (Asked sample 0x15 [127] 1 ∧ byteAt [127] 0 ≤ 127) := by
  refine ⟨⟨asked_sample _ _, ?_⟩, ⟨asked_sample _ _, ?_⟩, ⟨asked_sample _ _, ?_⟩, ⟨asked_sample _ _, ?_⟩,
    ⟨asked_sample _ _, ?_⟩, asked_sample _ _, ?_⟩
  all_goals decide +kernel

def laneNotice : NoticeSet := { NoticeSet.empty with lane := true }

theorem witness_NoticesAndTheLogAreReadAndCleared :
    Asked sample 0x18 [] 0 ∧ Asked sample 0x19 [] 0 ∧
      ({ State.reset with mgmt := { Management.fresh with owed := true } } : State).mgmt.owed = true ∧
      State.reset.store.controlQueue.length < 64 ∧ State.reset.mgmt.owed = false ∧
      64 ≤ full.store.controlQueue.length ∧ full.resetHeld = false ∧
      (NoticeSet.empty.lane = false ∧ laneNotice.lane = true) ∧ laneNotice ≠ NoticeSet.empty := by
  refine ⟨asked_sample _ _, asked_sample _ _, ?_⟩
  decide +kernel

theorem witness_ListsShowSixteenRecords :
    (Asked sample 0x1A [1, 255] 2 ∧ numberAt [1, 255] 0 2 ≤ 511) ∧
      (Asked sample 0x1B [3, 255, 63] 3 ∧ numberAt [3, 255, 63] 0 2 ≤ 1023 ∧ byteAt [3, 255, 63] 2 ≤ 63) ∧
      (Asked sample 0x1B [0, 0, 255] 3 ∧ byteAt [0, 0, 255] 2 = 0xFF) :=
  ⟨⟨asked_sample _ _, by decide⟩, ⟨asked_sample _ _, by decide⟩, asked_sample _ _, by decide⟩

theorem witness_ForgetCarriageRemovesIt :
    Asked sample 0x17 [0, 2] 2 ∧ (asks 0x17 [0, 2]).RankingLawful ∧ (asks 0x17 [0, 2]).SlotsLawful ∧
      (asks 0x17 [0, 2]).Shaped ∧ numberAt [0, 2] 0 2 ≤ 1023 ∧
      (asks 0x17 [0, 2]).carriage 2 = some shelvedCarriage ∧
      (∀ v, (asks 0x17 [0, 2]).service shelvedCarriage.service = some v → v.selected ≠ some 2) ∧
      ∀ k ∈ (asks 0x17 [0, 2]).slots, k.state = .armed ∨ k.state = .splicing → k.target ≠ some 2 := by
  refine ⟨asked_sample _ _, base_ranking, base_slots, base_shaped, by decide, rfl, fun v hv => ?_, by decide +kernel⟩
  cases hv
  decide

/-! ### Cells -/

/-- A cell of a flow with a payload, all marks clear; with the E mark; and with the S mark. -/
def cellOn (flow : Nat) (run : Run) (payload : List Byte) : List Byte :=
  cellToBytes { bareCell with flow := flow, run := run, payload := payload }

def errorCell (flow : Nat) (run : Run) (payload : List Byte) : List Byte :=
  cellToBytes { bareCell with flow := flow, run := run, e := true, payload := payload }

def startCell (run : Run) (payload : List Byte) : List Byte :=
  cellToBytes { bareCell with flow := 4064, run := run, s := true, payload := payload }

/-- A status cell: lock code, tag and margin. -/
def statusCell (lock tag margin : Byte) : List Byte := cellOn 4094 0 [lock, tag, margin, 0xF0, 0, 3]

theorem witness_ArrivingCellsAreSortedAndCounted :
    (headerCheck ((zeros 160).take 7) ≠ (zeros 160).getD 7 0 ∧ (zeros 160).length = 160) ∧
      (∀ f ∈ [10, 4031, 4032, 4080, 4094, 4095], headerCheck ((cellOn f 0 []).take 7) = (cellOn f 0 []).getD 7 0 ∧
        byteAt (cellOn f 0 []) 0 * 16 + byteAt (cellOn f 0 []) 1 / 16 = f ∧ (cellOn f 0 []).length = 160) ∧
      (sample.resetHeld = false ∧ sample.Settled ∧ (sample.lane 0).mode = .idle ∧ (sample.lane 3).mode = .parked ∧
        (sample.lane 16).mode = .parked ∧ (sample.lane 2).visitState = some .dwelling ∧
        sample.binding 3 4031 = none) ∧
      ((visiting .settling running).lane 2).mode = .roving ∧
      ((visiting .settling running).lane 2).visitState ≠ some .dwelling := by
  refine ⟨by decide +kernel, by decide +kernel, ⟨rfl, rfl, by decide +kernel⟩, by decide +kernel⟩

/-- Run 37 is the one before the expected 38: a duplicate; run 39 leaves a gap. -/
theorem witness_BoundCellsAreCheckedCountedAndPaired :
    (∀ run ∈ [37#6, 38#6, 39#6], (cellOn 10 run []).length = 160 ∧ headerPasses (cellOn 10 run []) = true ∧
        (readCell (cellOn 10 run [])).flow = 10 ∧ (readCell (cellOn 10 run [])).run = run ∧
        (readCell (cellOn 10 run [])).d = false) ∧
      (sample.resetHeld = false ∧ sample.Settled ∧ sample.CatalogueOrdered ∧
        sample.binding 3 10 = some (bindingOf 3 10) ∧ (sample.lane 3).mode = .parked ∧
        (bindingOf 3 10).expectedRun = some (37 + 1) ∧ (bindingOf 3 10).expectedRun ≠ some (38 + 1)) ∧
      ∀ x ∈ sample.carriages, x.2.stalled = false :=
  ⟨by decide +kernel, ⟨rfl, rfl, base_catalogue, by decide +kernel⟩, by decide +kernel⟩

/-- The sample with the carriage on air stalled: a cell of its primary binding ends the stall. -/
def stalledSample : State :=
  { sample with
    carriages := [(0, { onAirCarriage with stalled := true }), (1, surveyCarriage), (2, shelvedCarriage)] }

theorem witness_BoundCellsEndStalls :
    stalledSample.resetHeld = false ∧ stalledSample.Settled ∧ stalledSample.CatalogueOrdered ∧
      stalledSample.binding 3 10 = some (bindingOf 3 10) ∧ (stalledSample.lane 3).mode = .parked ∧
      ∃ x ∈ stalledSample.carriages, x.2.stalled = true ∧
        (x.2.components.head?.bind (·.binding)) = some { lane := 3, flow := 10 } := by
  refine ⟨rfl, rfl, ?_, by decide +kernel, rfl, _, List.mem_cons_self, rfl, rfl⟩
  refine ⟨?_, ?_, ?_, ?_, ?_, ?_, ?_⟩ <;> decide +kernel

theorem witness_ParkedLanesFollowStatusCells :
    (sample.resetHeld = false ∧ sample.Settled ∧ sample.Shaped ∧ sample.CatalogueOrdered ∧
        (sample.lane 3).mode = .parked ∧ (sample.lane 3).entry = some 5 ∧ (sample.entry 5).tuningWord = some 0x55 ∧
        (sample.lane 3).acknowledged = true ∧ (sample.lane 3).currentTag = some 254) ∧
      (∀ bs ∈ [statusCell 0 0 0, statusCell 2 254 80, statusCell 1 254 80, statusCell 2 253 80, errorCell 4094 0 []],
        bs.length = 160 ∧ headerPasses bs = true ∧ (readCell bs).flow = 4094) ∧
      (readCell (errorCell 4094 0 [])).e = true ∧
      ((readStatus (readCell (statusCell 0 0 0)).payload).tag = 0) ∧
      (readStatus (readCell (statusCell 2 254 80)).payload =
        { lock := 2, tag := 254, margin := 80, level := -16, uncorrected := 3 }) ∧
      (readStatus (readCell (statusCell 1 254 80)).payload).lock ≠ 2 ∧
      (readStatus (readCell (statusCell 2 253 80)).payload).tag = 253 :=
  ⟨⟨rfl, rfl, base_shaped, base_catalogue, by decide +kernel⟩, by decide +kernel⟩

/-- The sample's visit with the settle time at 0, and with the front end's lock acknowledged. -/
def quickSettle : State := { visiting .tuning running with survey := { SurveySettings.standard with settleTime := 0 } }
def acknowledgedVisit : State := sampleWith { rovingLane .dwelling running with acknowledged := true } parkedLane

theorem acknowledged_tenancy : acknowledgedVisit.TenancyLawful :=
  sample_tenancy _ _ (roving_lawful _ _ rfl rfl rfl rfl (by decide)) (parkedLane_lawful .locked none) ⟨rfl, rfl, rfl⟩
    ⟨rfl, rfl, rfl⟩

theorem witness_VisitsFollowStatusCells :
    (∀ v ∈ [VisitState.tuning, .settling, .dwelling], (visiting v running).resetHeld = false ∧
        (visiting v running).Settled ∧ (visiting v running).Shaped ∧ (visiting v running).CatalogueOrdered ∧
        (visiting v running).TenancyLawful ∧ ((visiting v running).lane 2).mode = .roving ∧
        ((visiting v running).lane 2).rover = some (visit v running) ∧
        (visit v running).claimedEntry = some 6 ∧ ((visiting v running).lane 2).currentTag = some 9 ∧
        ((visiting v running).lane 2).acknowledged = false) ∧
      (∀ bs ∈ [statusCell 2 9 80, statusCell 1 9 80, statusCell 2 8 80, statusCell 0 0 0],
        bs.length = 160 ∧ headerPasses bs = true ∧ (readCell bs).flow = 4094 ∧ (readCell bs).e = false) ∧
      (visiting .tuning running).survey.settleTime = 200 ∧ quickSettle.survey.settleTime = 0 ∧
      quickSettle.TenancyLawful ∧
      [statusCell 2 9 80, statusCell 1 9 80, statusCell 2 8 80, statusCell 0 0 0].map (fun bs =>
        ((readStatus (readCell bs).payload).lock, (readStatus (readCell bs).payload).tag)) =
          [(2, 9), (1, 9), (2, 8), (0, 0)] ∧
      ((acknowledgedVisit.lane 2).acknowledged = true ∧ acknowledgedVisit.TenancyLawful) ∧
      ((errorCell 4094 0 []).length = 160 ∧ headerPasses (errorCell 4094 0 []) = true ∧
        (readCell (errorCell 4094 0 [])).flow = 4094 ∧ (readCell (errorCell 4094 0 [])).e = true) ∧
      (nobody.resetHeld = false ∧ nobody.Settled ∧ nobody.Shaped ∧ nobody.CatalogueOrdered ∧ nobody.TenancyLawful ∧
        (nobody.lane 2).mode = .roving ∧ (nobody.lane 2).rover = some pausedVisit ∧
        pausedVisit.visitState = .paused) := by
  refine ⟨fun v hv => ⟨rfl, rfl, base_shaped, base_catalogue, visiting_tenancy v running ?_, rfl, rfl, rfl, rfl, rfl⟩,
    by decide +kernel, rfl, rfl, ?_, by decide +kernel, ⟨rfl, acknowledged_tenancy⟩, by decide +kernel, rfl, rfl,
    nobody_shaped, nobody_catalogue, nobody_tenancy, rfl, rfl, rfl⟩
  · rintro rfl
    revert hv
    decide
  · exact visiting_tenancy .tuning running (by decide)

/-- READ NOTICES for unit 0, whole; for unit 1; and with its CRC-16 spoiled. -/
def commandCell : List Byte := cellOn 4080 0 (withCrc [0, 0, 1, 0x18, 0])
def strangeCell : List Byte := cellOn 4080 0 (withCrc [1, 0, 1, 0x18, 0])
def spoiledCell : List Byte := cellOn 4080 0 [0, 0, 1, 0x18, 0, 0, 0]

theorem witness_CommandCellsAreAdmitted :
    (∀ bs ∈ [commandCell, strangeCell, spoiledCell], bs.length = 160 ∧ headerPasses bs = true ∧
        (readCell bs).flow = 4080 ∧ (readCell bs).e = false) ∧
      (State.reset.resetHeld = false ∧ State.reset.Settled ∧ (State.reset.lane 16).mode = .parked) ∧
      byteAt strangeCell 8 ≠ State.reset.mgmt.unitAddress ∧ byteAt commandCell 8 = State.reset.mgmt.unitAddress ∧
      messageCrc (slice spoiledCell 8 5) ≠ BitVec.ofNat 16 (numberAt spoiledCell 13 2) ∧
      (byteAt commandCell 12 = 0 ∧ messageCrc (slice commandCell 8 5) = BitVec.ofNat 16 (numberAt commandCell 13 2)) ∧
      State.reset.mgmt.inputQueue.length < 16 ∧
      16 ≤ ({ State.reset with mgmt := { Management.fresh with
        inputQueue := List.replicate 16 (cmd 0x18 []) } } : State).mgmt.inputQueue.length :=
  ⟨by decide +kernel, ⟨rfl, rfl, by decide +kernel⟩, by decide +kernel⟩

/-! ### Directories -/

/-- A service entry at the bounds of R53's checks: a name of 24 bytes, six components, flow 4031, the last for timing. -/
def fullEntry : LineupEntry :=
  { key := 1, channel := 9999, name := List.replicate 24 0x7E#8, timing := some 5
    components := [(.video, 4031), (.audio, 0), (.audio, 1), (.text, 2), (.data, 3), (.data, 4)] }

/-- A directory message with one service, of one component and no name. -/
def directoryBytes : List Byte :=
  sectionMessage 0xABCD 31 0 0 [{ key := 1, channel := 7, name := [], components := [(.video, 10)], timing := some 0 }]

theorem witness_CellsAndDirectoriesReadBack :
    (({ bareCell with flow := 4095, payload := zeros 152 } : Machine.Cell).flow < 4096 ∧ (zeros 152).length = 152) ∧
      (31 < 32 ∧ [fullEntry].length ≤ 48 ∧ ([fullEntry].map (·.key)).Nodup) ∧
      (fullEntry.name.length ≤ 24 ∧ (∀ b ∈ [0x20#8, 0x7E#8], 0x20 ≤ b.toNat ∧ b.toNat ≤ 0x7E) ∧
        1 ≤ fullEntry.components.length ∧ fullEntry.components.length ≤ 6 ∧
        (∀ f ∈ fullEntry.components.map Prod.snd, f < 4032) ∧ (fullEntry.components.map Prod.snd).Nodup ∧
        5 < fullEntry.components.length) := by decide +kernel

/-- A message R53 accepts, and one for each of its first four causes. -/
theorem witness_DirectoriesAreValidated :
    (validate directoryBytes).toOption.map (·.version) = some 31 ∧
      (zeros 9).length < 10 ∧
      (messageCrc ((zeros 10).take 8) ≠ BitVec.ofNat 16 (numberAt (zeros 10) 8 2)) ∧
      (∀ msg ∈ [withCrc [0, 0, 0, 1, 0, 0, 0, 10], withCrc [0, 0, 0, 0, 1, 0, 0, 10], withCrc [0, 0, 0, 0, 0, 49, 0, 10]],
        10 ≤ msg.length ∧
          messageCrc (msg.take (msg.length - 2)) = BitVec.ofNat 16 (numberAt msg (msg.length - 2) 2)) :=
  ⟨by decide +kernel, by decide +kernel⟩

/-- The checks of R53 from the fourth on, for a message of intact header. -/
def laterChecks (msg : List Byte) : List Bool :=
  let count := byteAt msg 5
  let start := entryStart msg
  let n := fun i => byteAt msg (start i + 6)
  let parts := fun i => byteAt msg (start i + 7 + n i)
  let timing := fun i => byteAt msg (start i + 8 + n i)
  let word := fun i j => numberAt msg (start i + 9 + n i + 2 * j) 2
  let name := fun i => slice msg (start i + 7) (n i)
  [decide (start count + 2 = msg.length), decide (∀ i < count, 1 ≤ parts i ∧ parts i ≤ 6),
    decide (∀ i < count, ∀ j < parts i, word i j % 4096 < 4032),
    decide (∀ i < count, (name i).length ≤ 24 ∧ ∀ b ∈ name i, 0x20 ≤ b.toNat ∧ b.toNat ≤ 0x7E),
    decide (∀ i < count, ∀ j < i, numberAt msg (start j) 4 ≠ numberAt msg (start i) 4),
    decide (∀ i < count, ∀ j < parts i, ∀ k < j, word i k % 4096 ≠ word i j % 4096),
    decide (∀ i < count, timing i = 0xFF ∨ timing i < parts i)]

/-- Service entries without a name: one component of a kind and flow, none, one of flow 4032, a name of the character
0x1F, two of one flow, and a timing component beyond the last. -/
def entryBytes (timing : Byte) (words : List Byte) : List Byte :=
  [0, 0, 0, 1, 0, 7, 0, BitVec.ofNat 8 (words.length / 2), timing] ++ words

def directoryOf (count : Byte) (entries : List Byte) : List Byte :=
  withCrc ([0, 1, 3, 0, 0, count, 0, BitVec.ofNat 8 (10 + entries.length)] ++ entries)

def intact (msg : List Byte) : Bool :=
  decide (10 ≤ msg.length) &&
    decide (messageCrc (msg.take (msg.length - 2)) = BitVec.ofNat 16 (numberAt msg (msg.length - 2) 2)) &&
    decide (byteAt msg 3 = 0) && decide (byteAt msg 4 = 0) && decide (byteAt msg 5 ≤ 48)

/-- One message for each of R53's checks 4 to 10, which that check alone of those up to it refuses, and one that
passes them all. The message for check 8 stands apart below. -/
theorem witness_DirectoriesAreValidatedInOrder :
    (∀ msg ∈ [directoryOf 1 [], directoryOf 1 (entryBytes 0xFF []), directoryOf 1 (entryBytes 0 [0x1F, 0xC0]),
        directoryOf 1 [0, 0, 0, 1, 0, 7, 1, 0x1F, 1, 0, 0x10, 10], directoryOf 1 (entryBytes 0 [0x10, 10, 0x20, 10]),
        directoryOf 1 (entryBytes 1 [0x10, 10]), directoryOf 1 (entryBytes 0xFF [0x10, 10]),
        directoryOf 1 (entryBytes 0 [0x1F, 0xBF])], intact msg = true) ∧
      [directoryOf 1 [], directoryOf 1 (entryBytes 0xFF []), directoryOf 1 (entryBytes 0 [0x1F, 0xC0]),
        directoryOf 1 [0, 0, 0, 1, 0, 7, 1, 0x1F, 1, 0, 0x10, 10], directoryOf 1 (entryBytes 0 [0x10, 10, 0x20, 10]),
        directoryOf 1 (entryBytes 1 [0x10, 10]), directoryOf 1 (entryBytes 0xFF [0x10, 10]),
        directoryOf 1 (entryBytes 0 [0x1F, 0xBF])].map (fun msg => (laterChecks msg).idxOf false) =
          [0, 1, 2, 3, 5, 6, 7, 7] := by
  refine ⟨fun msg h => ?_, by decide +kernel⟩
  simp only [List.mem_cons, List.not_mem_nil, or_false] at h
  rcases h with rfl | rfl | rfl | rfl | rfl | rfl | rfl | rfl <;> decide +kernel

/-- Two entries of key 1, which check 8 refuses. Its CRC-16 is taken over its two entries one after the other. -/
def twoOfOneKey : List Byte :=
  [0, 1, 3, 0, 0, 2, 0, 32] ++ entryBytes 0xFF [0x10, 10] ++ (entryBytes 0xFF [0x10, 11] ++ [0x6D, 0xE9])

theorem witness_DirectoryKeysAreUnique :
    (10 ≤ twoOfOneKey.length ∧ byteAt twoOfOneKey 3 = 0 ∧ byteAt twoOfOneKey 4 = 0 ∧ byteAt twoOfOneKey 5 ≤ 48) ∧
      messageCrc (twoOfOneKey.take (twoOfOneKey.length - 2)) =
        BitVec.ofNat 16 (numberAt twoOfOneKey (twoOfOneKey.length - 2) 2) ∧
      (laterChecks twoOfOneKey).idxOf false = 4 := by
  refine ⟨by decide, ?_, by decide +kernel⟩
  have halves : ∀ a b, messageCrc (a ++ b) = crc 0x1021#16 (messageCrc a) b := by
    intro a b
    simp [messageCrc, crc, List.foldl_append]
  have first : messageCrc ([0, 1, 3, 0, 0, 2, 0, 32] ++ entryBytes 0xFF [0x10, 10]) = 32360#16 := by decide +kernel
  show messageCrc (([0, 1, 3, 0, 0, 2, 0, 32] ++ entryBytes 0xFF [0x10, 10]) ++ entryBytes 0xFF [0x10, 11]) = _
  rw [halves, first]
  decide +kernel

/-- An assembler in the middle of a message of 400 bytes, with 152 or 304 of them held. -/
def capturing (cells : Nat) : Assembler :=
  { Assembler.fresh with capturing := true, cellsHeld := cells, bytesHeld := 152 * cells, declaredLength := some 400,
                         nextRun := some 7, held := zeros (152 * cells) }

def startsWith (hi lo : Byte) : Machine.Cell :=
  { bareCell with flow := 4064, s := true, payload := [0, 0, 0, 0, 0, 0, hi, lo] ++ zeros 144 }

theorem witness_AssemblersCaptureDirectories :
    ([startsWith 0 152, startsWith 0 153, startsWith 9 128, startsWith 9 129].map fun c => numberAt c.payload 6 2) =
        [152, 153, 2432, 2433] ∧
      (Assembler.fresh.capturing = false ∧ (capturing 1).capturing = true ∧ (capturing 1).nextRun = some 7) ∧
      ({ bareCell with run := 7 } : Machine.Cell).run = 7 ∧ (capturing 1).nextRun ≠ some bareCell.run ∧
      (400 ≤ (capturing 2).bytesHeld + 152 ∧ (capturing 1).bytesHeld + 152 < 400) ∧
      (sample.resetHeld = false ∧ sample.Settled ∧ sample.Shaped ∧ (sample.lane 3).mode = .parked ∧
        (sample.lane 3).parkedState = some .locked ∧ (sample.lane 3).entry = some 5 ∧
        ((parkedIn .unlocked none).lane 3).parkedState ≠ some .locked ∧
        (sample.lane 2).mode = .roving ∧ (sample.lane 2).visiting = some 6) ∧
      (∀ bs ∈ [startCell 0 directoryBytes, startCell 0 (withCrc [0, 0, 0, 1, 0, 0, 0, 10]), cellOn 4064 0 []],
        bs.length = 160 ∧ headerPasses bs = true ∧ (readCell bs).flow = 4064) ∧
      ((sample.lane 3).asm.take (readCell (startCell 0 directoryBytes))).2 = some directoryBytes ∧
      ((sample.lane 3).asm.take (readCell (startCell 0 (withCrc [0, 0, 0, 1, 0, 0, 0, 10])))).2 =
        some (withCrc [0, 0, 0, 1, 0, 0, 0, 10]) ∧
      ((sample.lane 3).asm.take (readCell (cellOn 4064 0 []))).2 = none :=
  ⟨by decide +kernel, by decide +kernel, by decide +kernel, by decide +kernel, by decide +kernel,
    ⟨rfl, rfl, base_shaped, by decide +kernel⟩, by decide +kernel⟩

/-- Entry 5 holds multiplex 0xABCD at version 7, and entry 6 no multiplex. -/
theorem witness_DirectoriesAreReconciled :
    (sample.CatalogueOrdered ∧ sample.Shaped ∧ 3 < 17 ∧ 5 < 64) ∧
      ((sample.entry 5).multiplexId = some 0xABCD ∧ (sample.entry 5).directoryVersion = some 7 ∧
        (sample.entry 5).directoryVersion ≠ some 8 ∧ (sample.entry 5).multiplexId ≠ some 0xABCE ∧
        (sample.entry 6).multiplexId = none) ∧
      ((∃ x ∈ sample.carriages, x.2.entry = 5 ∧ x.2.service = 1) ∧
        sample.services.length + 48 ≤ 512 ∧ sample.carriages.length + 48 ≤ 1024) :=
  ⟨⟨base_catalogue, base_shaped, by decide, by decide⟩, by decide +kernel, ⟨_, List.mem_cons_self, rfl, rfl⟩,
    by decide +kernel⟩

/-- The bind attempts of a reconciliation: a key without a carriage on the entry (9 on entry 5), one listed as it is and
one listed with another flow (1 on entry 5), and a SHELVED one (1 on entry 7). -/
theorem witness_ReconciliationsMakeBindAttempts :
    (sample.carriages.all fun x => decide (x.2.entry = 5 → x.2.service ≠ 9)) = true ∧
      (onAirCarriage.entry = 5 ∧ onAirCarriage.service = 1 ∧ onAirCarriage.state ≠ .shelved ∧
        (onAirCarriage.components.map fun d => (d.kind, d.flow)) = [(.video, 10)] ∧ onAirCarriage.timing = some 0 ∧
        (onAirCarriage.components.map fun d => (d.kind, d.flow)) ≠ [(.video, 11)]) ∧
      (shelvedCarriage.entry = 7 ∧ shelvedCarriage.service = 1 ∧ shelvedCarriage.state = .shelved ∧
        (shelvedCarriage.components.map fun d => (d.kind, d.flow)) = [(.video, 30)]) := by decide +kernel

/-- A part whose Service Table is full, with no carriage. -/
def crowdedServices (n : Nat) : List (Nat × Service) :=
  (List.range n).map fun i => (i, Service.fresh (BitVec.ofNat 32 (i + 100)) [])

theorem crowdedServices_ordered (n : Nat) (hn : n ≤ 512) :
    (crowdedServices n).Pairwise (fun a b => a.1 < b.1) ∧ ((crowdedServices n).map fun x => x.2.key).Nodup ∧
      ∀ x ∈ crowdedServices n, x.1 < 512 := by
  refine ⟨List.pairwise_map.2 List.pairwise_lt_range, ?_, fun x hx => ?_⟩
  · unfold crowdedServices
    rw [List.map_map]
    refine (List.nodup_map_iff_inj_on List.nodup_range).2 fun i hi j hj h => ?_
    have h : (BitVec.ofNat 32 (i + 100)).toNat = (BitVec.ofNat 32 (j + 100)).toNat := congrArg BitVec.toNat h
    simp only [BitVec.toNat_ofNat, List.mem_range] at hi hj h
    omega
  · obtain ⟨i, hi, rfl⟩ := List.mem_map.1 hx
    exact (List.mem_range.1 hi).trans_le hn

def crowdedTable (n : Nat) : State := { State.reset with services := crowdedServices n }

theorem crowdedTable_catalogue (n : Nat) (hn : n ≤ 512) : (crowdedTable n).CatalogueOrdered := by
  obtain ⟨h1, h2, h3⟩ := crowdedServices_ordered n hn
  exact ⟨h1, List.Pairwise.nil, h2, List.nodup_nil, h3, fun x hx => (by cases hx), fun x hx => (by cases hx)⟩

def gone : DiscoveryRecord := { kind := .vanished, entry := 0, key := 0, carriage := none, time := 0 }
def logged (n : Nat) : State := { sample with mgmt := { Management.fresh with log := .replicate n gone } }

/-- The records of a reconciliation: one place left in the log and none; a key with a reference, and one without; a
carriage gone for want of being listed; a change of multiplex; and a key that the tables have no place for. -/
theorem witness_ReconciliationsAreRecorded :
    (∀ n ∈ [31, 32], (logged n).CatalogueOrdered ∧ (logged n).mgmt.log.length = n) ∧
      (onAirService.slotRefs = 1 ∧ surveyService.slotRefs = 0 ∧ sample.output.logAll = false ∧
        sample.watch.contains (some 2) = false) ∧
      ((reconcile sample 3 5 { multiplexId := 0xABCE, version := 1, services := [] } false).mgmt.log.map
        fun r => (r.kind, r.entry, r.carriage)) = [(.entryChanged, 5, none), (.vanished, 5, some 0)] ∧
      ((crowdedTable 512).CatalogueOrdered ∧ (crowdedTable 512).services.length = 512 ∧
        (crowdedTable 512).service 1 = none) :=
  ⟨fun n _ => ⟨base_catalogue, List.length_replicate⟩, by decide +kernel, by decide +kernel,
    crowdedTable_catalogue 512 (Nat.le_refl _), by decide +kernel, by decide +kernel⟩

/-! ### Timers -/

/-- The sample with lane 3's silence timer, and lane 2's in tuning, run out. -/
def silent : State :=
  sampleWith { rovingLane .tuning running with silenceTimer := ranOut } { parkedLane with silenceTimer := ranOut }

theorem witness_OrdersAndLaneTimersAct :
    (silent.resetHeld = false ∧ silent.Settled ∧ silent.Shaped ∧ silent.CatalogueOrdered) ∧
      ((silent.lane 15).pendingOrder = none ∧
        ({ Lane.fresh with pendingOrder := some { kind := .halt, tag := 255, word := 0 } } : Lane).pendingOrder ≠ none) ∧
      (∀ p ∈ [ParkedState.await, .unlocked], ((parkedIn p ranOut).lane 3).mode = .parked ∧
        ((parkedIn p ranOut).lane 3).parkedState = some p ∧ ((parkedIn p ranOut).lane 3).lockTimer = ranOut ∧
        ((parkedIn p ranOut).lane 3).entry = some 5 ∧ ((parkedIn p ranOut).entry 5).tuningWord = some 0x55) ∧
      (∃ r, ranOut = some r ∧ r.span ≤ (silent.clock - r.start).toNat) ∧
      (¬ ∃ r, (sample.lane 3).lockTimer = some r ∧ r.span ≤ (sample.clock - r.start).toNat) ∧
      ((silent.lane 3).silenceTimer = ranOut ∧ (silent.lane 3).mode = .parked) ∧
      ((silent.lane 2).silenceTimer = ranOut ∧ (silent.lane 2).mode ≠ .parked ∧
        (silent.lane 2).visitState ≠ some .settling ∧ (silent.lane 2).visitState ≠ some .dwelling) ∧
      ¬ ∃ r, (sample.lane 3).silenceTimer = some r ∧ r.span ≤ (sample.clock - r.start).toNat := by
  refine ⟨⟨rfl, rfl, base_shaped, base_catalogue⟩, by decide +kernel, by decide +kernel, ⟨_, rfl, by decide⟩,
    fun h => ?_, by decide +kernel, by decide +kernel, fun h => ?_⟩
  · obtain ⟨r, h, -⟩ := h
    cases h
  · obtain ⟨r, h, h'⟩ := h
    cases h
    revert h'
    decide +kernel

/-- 10.7's clock near its wrap: carriage 0 was bound at 30 ms, its last cell came 40 ms before the wrap, and its stall
time is 100 ms. -/
def wrapped (clock : BitVec 32) : State :=
  { sample with
    clock := clock
    policy := { Policy.standard with stallTime := 100 }
    carriages := [(0, { onAirCarriage with heard := true, boundTime := 30000 })]
    bindings := [{ bindingOf 3 10 with lastCellTime := 0 - 40000 }] }

/-- A carriage whose bind is the later, and one whose last cell is; and one under survey, which does not stall. -/
theorem witness_SilentCarriagesStall :
    (sample.resetHeld = false ∧ sample.Settled ∧ sample.CatalogueOrdered) ∧
      (sample.carriage 0 = some onAirCarriage ∧
        onAirCarriage.components.head? = some { kind := .video, flow := 10, binding := some feedName } ∧
        sample.binding feedName.lane feedName.flow = some (bindingOf 3 10) ∧ onAirCarriage.state = .usable ∧
        onAirCarriage.stalled = false ∧ onAirCarriage.heard = false ∧
        1000 * sample.policy.stallTime ≤ (sample.clock - onAirCarriage.boundTime).toNat) ∧
      ((wrapped 60000).resetHeld = false ∧ (wrapped 60000).Settled ∧ (wrapped 60000).CatalogueOrdered ∧
        (wrapped 60000).carriage 0 = some { onAirCarriage with heard := true, boundTime := 30000 } ∧
        (wrapped 60000).binding 3 10 = some { bindingOf 3 10 with lastCellTime := 0 - 40000 } ∧
        1000 * (wrapped 60000).policy.stallTime = ((wrapped 60000).clock - (0 - 40000)).toNat) ∧
      (sample.carriage 1 = some surveyCarriage ∧
        surveyCarriage.components.head? =
          some { kind := .video, flow := 20, binding := some { lane := 2, flow := 20 } } ∧
        sample.binding 2 20 = some (bindingOf 2 20) ∧
        ¬ (surveyCarriage.state = .probation ∨ surveyCarriage.state = .usable ∨ surveyCarriage.state = .faulted)) :=
  ⟨⟨rfl, rfl, base_catalogue⟩, by decide +kernel,
    ⟨rfl, rfl, by refine ⟨?_, ?_, ?_, ?_, ?_, ?_, ?_⟩ <;> decide +kernel, by decide +kernel⟩, by decide +kernel⟩

def takenVisit : Rover := { visit .dwelling ranOut with directoryTaken := true }
def dwelt : State := sampleWith { rovingLane .dwelling ranOut with rover := some takenVisit } parkedLane

theorem dwelt_tenancy : dwelt.TenancyLawful :=
  sample_tenancy _ _ (roving_lawful _ takenVisit rfl rfl rfl rfl (by decide))
    (parkedLane_lawful .locked none) ⟨rfl, rfl, rfl⟩ ⟨rfl, rfl, rfl⟩

/-- The sample's visit in settling with the lane's silence timer run out. -/
def silentVisit : State := sampleWith { rovingLane .settling running with silenceTimer := ranOut } parkedLane

theorem silentVisit_tenancy : silentVisit.TenancyLawful :=
  sample_tenancy _ _ (rovingLane_lawful .settling running (by decide)) (parkedLane_lawful .locked none)
    ⟨rfl, rfl, rfl⟩ ⟨rfl, rfl, rfl⟩

theorem witness_VisitTimersEndVisits :
    (∀ v ∈ [VisitState.tuning, .settling, .dwelling], (visiting v ranOut).resetHeld = false ∧
        (visiting v ranOut).Settled ∧ (visiting v ranOut).CatalogueOrdered ∧ (visiting v ranOut).TenancyLawful ∧
        ((visiting v ranOut).lane 2).mode = .roving ∧ ((visiting v ranOut).lane 2).rover = some (visit v ranOut) ∧
        (visit v ranOut).claimedEntry = some 6 ∧ (visit v ranOut).visitState = v ∧
        (visit v ranOut).directoryTaken = false) ∧
      (∃ r, ranOut = some r ∧ r.span ≤ (sample.clock - r.start).toNat) ∧
      (silentVisit.TenancyLawful ∧ (silentVisit.lane 2).rover = some (visit .settling running) ∧
        (silentVisit.lane 2).silenceTimer = ranOut) ∧
      (dwelt.TenancyLawful ∧ (dwelt.lane 2).rover = some takenVisit ∧ takenVisit.directoryTaken = true) ∧
      ¬ ∃ r, (visit .tuning running).visitTimer = some r ∧ r.span ≤ (sample.clock - r.start).toNat := by
  refine ⟨fun v hv => ⟨rfl, rfl, base_catalogue, visiting_tenancy v ranOut ?_, rfl, rfl, rfl, rfl, rfl⟩,
    ⟨_, rfl, by decide⟩, ⟨silentVisit_tenancy, rfl, rfl⟩, ⟨dwelt_tenancy, rfl, rfl⟩, fun h => ?_⟩
  · rintro rfl
    revert hv
    decide
  · obtain ⟨r, h, h'⟩ := h
    cases h
    revert h'
    decide +kernel

/-! ### Window assessment and the lineup port -/

theorem witness_WindowScoresFollowTheStages :
    (onAirCarriage.components.map fun d => d.binding.bind fun nm => sample.binding nm.lane nm.flow) =
        [bindingOf 3 10].map some ∧
      (onAirCarriage.timing = some 0 ∧ [bindingOf 3 10][0]? = some (bindingOf 3 10)) ∧
      ({ onAirCarriage with timing := none } : Carriage).timing = none ∧
      (0 < (⟨1, 0, 1, 120, 15⟩ : Inputs).n ∧ (⟨1, 0, 1, 120, 15⟩ : Inputs).x ≤ (⟨1, 0, 1, 120, 15⟩ : Inputs).n) ∧
      (⟨0, 5, 0, 0, 0⟩ : Inputs).n = 0 := by decide +kernel

/-- Lane 3 with its window run out and not yet; unlocked, so that its window is void; and the house lane. -/
theorem witness_WindowEndsScoreTheLane :
    (sample.resetHeld = false ∧ sample.Settled ∧ sample.Shaped ∧ sample.CatalogueOrdered) ∧
      ((sample.lane 3).windowTimer = some { start := 0, span := 1000000 } ∧ (sample.lane 3).mode = .parked ∧
        1000000 ≤ (sample.clock - 0).toNat ∧ (sample.lane 3).parkedState = some .locked) ∧
      ((sample.lane 16).windowTimer = some { start := 0, span := 1000000 } ∧ (sample.lane 16).mode = .parked) ∧
      (onAirCarriage.lane = some 3 ∧ onAirCarriage.state = .usable ∧ onAirCarriage.wholeWindow = some true ∧
        onAirCarriage.merit = some 700) ∧
      (surveyCarriage.lane ≠ some 3 ∧ surveyCarriage.state ≠ .incomplete) ∧
      ((parkedIn .unlocked none).lane 3).parkedState ≠ some .locked ∧
      (((sampleWith (rovingLane .dwelling ranOut) { parkedLane with windowTimer := running }).lane 3).windowTimer =
          some { start := 0, span := 60000000 } ∧ (sample.clock - 0).toNat < 60000000) :=
  ⟨⟨rfl, rfl, base_shaped, base_catalogue⟩, by decide +kernel⟩

/-- A carriage INCOMPLETE on the parked lane 3, whose retry finds its flow new there. -/
def incompleteSample : State :=
  { sample with carriages := [(0, onAirCarriage), (1, carriageOf 5 2 40 .incomplete (some 3))] }

theorem witness_WindowEndsRetryBindings :
    (incompleteSample.resetHeld = false ∧ incompleteSample.Settled ∧ incompleteSample.Shaped ∧
        incompleteSample.CatalogueOrdered) ∧
      ((incompleteSample.lane 3).windowTimer = some { start := 0, span := 1000000 } ∧
        (incompleteSample.lane 3).mode = .parked ∧ 1000000 ≤ (incompleteSample.clock - 0).toNat) ∧
      (incompleteSample.carriage 1 = some (carriageOf 5 2 40 .incomplete (some 3)) ∧
        (carriageOf 5 2 40 .incomplete (some 3)).state = .incomplete ∧
        (carriageOf 5 2 40 .incomplete (some 3)).lane = some 3 ∧ incompleteSample.binding 3 40 = none) := by
  refine ⟨⟨rfl, rfl, base_shaped, ?_⟩, by decide +kernel⟩
  refine ⟨?_, ?_, ?_, ?_, ?_, ?_, ?_⟩ <;> decide +kernel

/-- A part with one directory cell waiting and nothing else. -/
def directoryWaits : State :=
  { State.reset with store := { Store.fresh with directoryQueue := [{ first := true, payload := zeros 152 }] } }

theorem witness_OpportunitiesEmitOneCell :
    (∀ s ∈ [arbitration 15 12 1 1, arbitration 13 15 2 5, arbitration 13 14 2 2, directoryWaits, State.reset],
        s.resetHeld = false ∧ s.handed = [] ∧ s.store.pressuredPtr < 128 ∧ s.store.servicePtr < 128 ∧
          s.slots.length = 128 ∧
          s.store.oppIndex * 1000000 / s.store.oppRate ≤ (s.clock - s.store.oppOrigin).toNat) ∧
      ((arbitration 13 15 2 5).store.controlQueue ≠ [] ∧ (arbitration 13 15 2 5).store.spacingCount = 15) ∧
      (directoryWaits.store.controlQueue = [] ∧ directoryWaits.store.directoryQueue ≠ [] ∧
        ∀ x ∈ directoryWaits.slots, x.queue = []) ∧
      ((arbitration 15 12 1 1).pressured ((arbitration 15 12 1 1).slot 2) = true ∧
        ((arbitration 15 12 1 1).slot 2).queue ≠ [] ∧
        ∀ j < 128, (arbitration 15 12 1 1).pressured ((arbitration 15 12 1 1).slot j) = true →
          (2 + 127 - 1) % 128 ≤ (j + 127 - 1) % 128) ∧
      ((∀ j < 128, (arbitration 13 14 2 2).pressured ((arbitration 13 14 2 2).slot j) = false) ∧
        ∀ j < 128, ((arbitration 13 14 2 2).slot j).queue ≠ [] → (5 + 127 - 2) % 128 ≤ (j + 127 - 2) % 128) ∧
      (State.reset.store.controlQueue = [] ∧ State.reset.store.directoryQueue = [] ∧
        ∀ x ∈ State.reset.slots, x.queue = []) ∧
      (quiet.clock - quiet.store.oppOrigin).toNat < quiet.store.oppIndex * 1000000 / quiet.store.oppRate ∧
      ((arbitration 15 12 1 1).effectiveCapacity ((arbitration 15 12 1 1).slot 2) = some 16 ∧
        ((arbitration 15 12 1 1).slot 2).margin = some .standard) := by decide +kernel

/-- A directory period that has run out, with the directory queue empty and not, and one that has not. -/
theorem witness_DirectoryPeriodsCompose :
    (∀ s ∈ [{ State.reset with clock := 500000 }, { directoryWaits with clock := 500000 }], s.resetHeld = false ∧
        s.handed = [] ∧ s.store.directoryTimer = some { start := 0, span := 500000 } ∧
        500000 ≤ (s.clock - 0).toNat) ∧
      State.reset.store.directoryQueue = [] ∧ directoryWaits.store.directoryQueue ≠ [] ∧
      (State.reset.store.directoryTimer = some { start := 0, span := 500000 } ∧
        (State.reset.clock - 0).toNat < 500000) := by decide +kernel

/-! ## Single steps

Expected values are worked by hand from the rules named. -/

/-- 2.5's lane 4, entry 9 and carriage 52, before the PARK LANE. -/
def locking : State :=
  { State.reset with
    entries := State.reset.entries.set 9 { PlanEntry.fresh with tuningWord := some 9 }
    lanes := State.reset.lanes.set 4 { Lane.fresh with tagCounter := 17 }
    services := [(0, { Service.fresh 5 [] with slotRefs := 0 })]
    carriages := [(52, { carriageOf 9 5 100 .shelved none with wholeWindow := none })] }

theorem test_park_lane_as_in_2_5 :
    after .parkLane (asking locking 0x07 [4, 9]) (fun t => decide ((t.lane 4).parkedState = some .await ∧
      (t.lane 4).currentTag = some 17 ∧ (t.lane 4).tagCounter = 18 ∧
      (t.carriage 52).map (fun x => (x.state, x.laneDown, x.lane)) = some (.probation, true, some 4) ∧
      (t.entry 9).parkedLane = some 4)) = true := by decide +kernel

/-- R180: the shelved carriage is forgotten, and the reply carries its entry and key. -/
theorem test_forget_carriage :
    after .forgetCarriage (asks 0x17 [0, 2]) (fun t => decide (t.carriage 2 = none ∧
      t.store.controlQueue.map (·.result) = [[7, 0, 0, 0, 1]])) = true := by decide +kernel

/-- R170: the fault clear is taken below the fault limit as taken. -/
theorem test_set_policy_clamps_fault_clear :
    after .setPolicy (asks 0x02 [4, 2, 1, 44, 10, 32, 2, 0, 40, 3, 3, 2, 88, 7, 208]) (fun t =>
      decide (t.policy.faultLimit = 10 ∧ t.policy.faultClear = 9 ∧
        t.store.controlQueue.map (·.status) = [.clamped])) = true := by decide +kernel

/-- R169: a wrong length is UNKNOWN. -/
theorem test_unknown_command :
    after .unknownCommand (asks 0x02 [1]) (fun t => decide (t.policy = Policy.standard ∧ t.mgmt.inputQueue = [] ∧
      t.store.controlQueue.map (fun r => (r.status, r.result)) = [(.unknown, [])])) = true := by decide +kernel

/-- R30, R31, R138: run 39 for an expected 38 is one cell lost; the cell goes out on flow 100 with the flow's run 5. -/
theorem test_bound_cell_goes_to_its_slot :
    after (.cellArrival 3 (cellToBytes { exampleCell with flow := 10, run := 39, d := false })) sample (fun t =>
      decide ((t.binding 3 10).map (fun b => (b.n, b.g, b.x, b.expectedRun)) = some (2401, 1, 0, some 40) ∧
        (t.slot 0).queue.map (fun c => (c.flow, c.run, c.d)) = [(100, 5, false)] ∧
        t.store.freeBuffers = 8191)) = true := by decide +kernel

/-- R91 to R98: N 2400, no loss, M 80, J 0 give W = 640 + 240 = 880; F = 700 + 180 / 4 = 745. -/
theorem test_window_end_scores :
    after (.windowEnd 3) sample (fun t => decide ((t.carriage 0).map (fun x => (x.merit, x.faultScore)) =
      some (some 745, 0) ∧ (t.binding 3 10).map (·.n) = some 0 ∧ (t.lane 3).windowStatusCount = 0)) = true := by
  decide +kernel

/-- R79, R81: a dwell end without a directory is NO-DIRECTORY, and the visit's carriage is shelved. -/
theorem test_dwell_end_without_directory :
    after (.dwellEnd 2) sample (fun t => decide ((t.entry 6).surveyOutcome = .noDirectory ∧
      (t.carriage 1).map (·.state) = some .shelved ∧ (t.lane 2).rover.bind (·.claimedEntry) = some 8 ∧
      t.promptSet = [])) = true := by decide +kernel

/-- R37: a lock timeout sends the TUNE again with a new tag, and counts it. -/
theorem test_lock_timeout_sends_again :
    after (.lockTimeout 3) (parkedIn .unlocked ranOut) (fun t => decide ((t.lane 3).parkedState = some .await ∧
      (t.lane 3).currentTag = some 255 ∧ (t.lane 3).tagCounter = 1 ∧ (t.lane 3).counters.resends = 1)) = true := by
  decide +kernel

/-- R5, R15, R20: releasing the lane shelves its carriage, and its slot goes dark. -/
theorem test_release_lane_darkens_the_slot :
    after .releaseLane (asks 0x09 [3]) (fun t => decide ((t.carriage 0).map (·.state) = some .shelved ∧
      (t.slot 0).state = .dark ∧ (t.service 1).bind (·.selected) = none ∧
      t.store.controlQueue.map (·.result) = [[3, 255]])) = true := by decide +kernel

/-- R144: a cleared slot is vacant, and its key has one reference fewer. -/
theorem test_clear_slot :
    after .clearSlot (asks 0x0C [0]) (fun t => decide (t.slot 0 = Slot.vacant ∧
      (t.service 1).map (·.slotRefs) = some 0)) = true := by decide +kernel

/-- R177: index, key and selection of each record, then the number and no next index. -/
theorem test_list_services :
    after .listServices (asks 0x1A [0, 0]) (fun t => decide (t.store.controlQueue.map (·.result) =
      [[0, 0, 0, 0, 0, 1, 0, 0, 0, 1, 0, 0, 0, 2, 0xFF, 0xFF, 2, 0xFF, 0xFF]])) = true := by decide +kernel

/-- R40, R47: of a last cell 40 ms before the wrap and a stall time of 100 ms the stall is due 60 ms after the wrap, and
not before. -/
theorem test_stall_across_a_wrap :
    after (.stallExpiry 0) (wrapped 60000) (fun t => (t.carriage 0).any (·.stalled)) = true ∧
      after (.stallExpiry 0) (wrapped 59999) (fun t => (t.carriage 0).any (!·.stalled)) = true ∧
      (wrapped 60000).dueSteps.contains (.stallExpiry 0) = true := by decide +kernel

/-- R194, in SPLICING, for a target (1) that feeds flow 0 and an old carriage (0) that feeds flow 1: the target's list
that grows from one component to three marks its own flow and the two it adds, fed or not; the old carriage's from two to
three marks flow 1 and the one it adds; a carriage that feeds nothing of the slot marks nothing. -/
theorem test_rebinding_marks_the_flows :
    let x : Slot :=
      { Slot.vacant with
        flows := [some (Feed.mk 1 0), some (Feed.mk 0 1), none, none, none, none].map fun f => ⟨5, f, false⟩ }
    ([(1, 1, 3), (0, 2, 3), (2, 1, 3)].map fun r => (List.range 6).map (x.rebindingMarks r.1 r.2.1 r.2.2)) =
      [[true, true, true, false, false, false], [false, true, true, false, false, false],
        [false, false, false, false, false, false]] := by decide

/-- R17, R84: at the window end the INCOMPLETE carriage binds, in PROBATION with its mark set. -/
theorem test_window_end_retries :
    after (.windowEnd 3) incompleteSample (fun t => decide ((t.carriage 1).map (fun x => (x.state, x.wholeWindow)) =
      some (.probation, some true) ∧ (t.binding 3 40).map (·.refCount) = some 1)) = true := by decide +kernel

/-- R29, R44: a void cell on an idle lane is counted as idle alone (log 40). -/
theorem test_void_cell_on_an_idle_lane :
    after (.cellArrival 0 (cellOn 4095 0 [])) sample (fun t =>
      decide ((t.lane 0).counters.idle = 1 ∧ (t.lane 0).counters.void = 0)) = true := by decide +kernel

/-- The sample state with a directory of lane 2's dwell, and one of parked lane 3, rejected for its check. -/
def rejectedSample : State :=
  let rejecting (n : Lane) : Lane := { n with asm := { n.asm with lastRejection := some .badCheck } }
  sampleWith (rejecting (rovingLane .dwelling running)) (rejecting parkedLane)

/-- R67: a lane that leaves roving, for idle or for a park, has no rejection of its visits left; a parked lane that is
released keeps its own (log 16). -/
theorem test_leaving_roving_leaves_no_trace :
    after .releaseLane (asking rejectedSample 0x09 [2]) (fun t =>
        decide ((t.lane 2).mode = .idle ∧ (t.lane 2).asm.lastRejection = none)) = true ∧
      after .parkLane (asking rejectedSample 0x07 [2, 8]) (fun t =>
        decide ((t.lane 2).mode = .parked ∧ (t.lane 2).asm.lastRejection = none)) = true ∧
      after .releaseLane (asking rejectedSample 0x09 [3]) (fun t =>
        decide ((t.lane 3).mode = .idle ∧ (t.lane 3).asm.lastRejection = some .badCheck)) = true := by decide +kernel

end Sys2Proof.Tests
end

section
namespace Sys2Proof.Machine

open Sys2Proof Host

/-! ## Refusals: what each command's act answers when a check fails (R26, R3 to R5, R64, R174 to R180) -/

theorem laneRefusal_above {l : Nat} (h : 16 < l) : laneRefusal l = some .badIndex := by
  simp [laneRefusal, Config.houseLane, h]

theorem laneRefusal_house : laneRefusal 16 = some .inUse := rfl

theorem laneRefusal_feed {l : Nat} (h : l ≤ 15) : laneRefusal l = none := by
  have above : ¬ 16 < l := by omega
  have house : l ≠ 16 := by omega
  simp [laneRefusal, Config.houseLane, above, house]

/-- The four lane commands make the check of their lane first (R26). -/
theorem laneActs_refuse {s : State} {args : List Byte} {r : Status} (h : laneRefusal (byteAt args 0) = some r) :
    parkLaneAct s args = refuse s r ∧ roveLaneAct s args = refuse s r ∧ releaseLaneAct s args = refuse s r ∧
      setLaneAct s args = refuse s r := by
  simp [parkLaneAct, parkRefusal, roveLaneAct, releaseLaneAct, setLaneAct, h]

theorem laneCommands_refused {s : State} {args : List Byte} {c : Command} {rest : List Command} {st : Status}
    (h : laneRefusal (byteAt args 0) = some st) :
    ∀ r ∈ [(0x07, 2, Instr.parkLane), (0x08, 1, .roveLane), (0x09, 1, .releaseLane), (0x0A, 3, .setLane)],
      Offers s r.1 args c rest → args.length = r.2.1 → exec r.2.2 s = .next (refusedWith s c rest st) := by
  obtain ⟨park, rove, release, set⟩ := laneActs_refuse (s := dropHead s rest) h
  intro r hr offers len
  simp only [List.mem_cons, List.not_mem_nil, or_false] at hr
  rcases hr with rfl | rfl | rfl | rfl
  · exact congrArg Outcome.next (takeCommand_refused offers len park)
  · exact congrArg Outcome.next (takeCommand_refused offers len rove)
  · exact congrArg Outcome.next (takeCommand_refused offers len release)
  · exact congrArg Outcome.next (takeCommand_refused offers len set)

theorem parkRefusal_badEntry {s : State} {l e : Nat} (hl : l ≤ 15) (h : 63 < e) :
    parkRefusal s l e = some .badIndex := by
  simp [parkRefusal, laneRefusal_feed hl, Config.houseEntry, h]

theorem parkRefusal_empty {s : State} {l e : Nat} (hl : l ≤ 15) (he : e ≤ 62)
    (h : (s.entry e).tuningWord = none) : parkRefusal s l e = some .inUse := by
  have above : ¬ 63 < e := by omega
  have house : e ≠ 63 := by omega
  simp [parkRefusal, laneRefusal_feed hl, Config.houseEntry, above, State.entryEmpty, house, h]

theorem entryEmpty_eq_false {s : State} {e : Nat} (h : e ≤ 62 → (s.entry e).tuningWord ≠ none) (he : e ≤ 63) :
    s.entryEmpty e = false := by
  by_cases house : e = 63
  · simp [State.entryEmpty, Config.houseEntry, house]
  · simp [State.entryEmpty, Option.isSome_iff_ne_none.2 (h (by omega))]

theorem parkRefusal_conflict {s : State} {l e m : Nat} (hl : l ≤ 15) (he : e ≤ 63)
    (h : e ≤ 62 → (s.entry e).tuningWord ≠ none) (hm : (s.entry e).parkedLane = some m) (hne : m ≠ l) :
    parkRefusal s l e = some .conflict := by
  have above : ¬ 63 < e := by omega
  simp [parkRefusal, laneRefusal_feed hl, Config.houseEntry, above, entryEmpty_eq_false h he, hm, hne]

theorem parkLaneAct_refused {s : State} {args : List Byte} {r : Status}
    (h : parkRefusal s (byteAt args 0) (byteAt args 1) = some r) : parkLaneAct s args = refuse s r := by
  simp [parkLaneAct, h]

theorem parkLane_refused {s : State} {args : List Byte} {c : Command} {rest : List Command} {r : Status}
    (offers : Offers s 0x07 args c rest) (len : args.length = 2)
    (h : parkRefusal s (byteAt args 0) (byteAt args 1) = some r) :
    exec .parkLane s = .next (refusedWith s c rest r) :=
  congrArg Outcome.next (takeCommand_refused offers len (parkLaneAct_refused (s := dropHead s rest) h))

theorem setPlanEntry_refused {s : State} {args : List Byte} {c : Command} {rest : List Command} {r : Status}
    (offers : Offers s 0x05 args c rest) (len : args.length = 12)
    (h : planRefusal s (byteAt args 0) (BitVec.ofNat 64 (numberAt args 1 8)) = some r) :
    exec .setPlanEntry s = .next (refusedWith s c rest r) := by
  have act : setPlanEntryAct (dropHead s rest) args = refuse (dropHead s rest) r := by
    have h' : planRefusal (dropHead s rest) (byteAt args 0) (BitVec.ofNat 64 (numberAt args 1 8)) = some r := h
    simp [setPlanEntryAct, h']
  exact congrArg Outcome.next (takeCommand_refused offers len act)

theorem clearPlanEntry_refused {s : State} {args : List Byte} {c : Command} {rest : List Command} {r : Status}
    (offers : Offers s 0x06 args c rest) (len : args.length = 1) (h : clearRefusal s (byteAt args 0) = some r) :
    exec .clearPlanEntry s = .next (refusedWith s c rest r) := by
  have act : clearPlanEntryAct (dropHead s rest) args = refuse (dropHead s rest) r := by
    have h' : clearRefusal (dropHead s rest) (byteAt args 0) = some r := h
    simp [clearPlanEntryAct, h']
  exact congrArg Outcome.next (takeCommand_refused offers len act)

/-- The three commands on carriages make the two checks of the carriage index first (R175, R179, R180). -/
theorem carriageCommands_refused {s : State} {args : List Byte} {c : Command} {rest : List Command} {st : Status}
    (h : s.namedCarriage (numberAt args 0 2) = .error st) :
    ∀ r ∈ [(0x14, Instr.readCarriage), (0x16, .flushCarriage), (0x17, .forgetCarriage)],
      Offers s r.1 args c rest → args.length = 2 → exec r.2 s = .next (refusedWith s c rest st) := by
  have h' : (dropHead s rest).namedCarriage (numberAt args 0 2) = .error st := h
  have read : readCarriageAct (dropHead s rest) args = refuse (dropHead s rest) st := by
    simp [readCarriageAct, h']
  have flush : flushCarriageAct (dropHead s rest) args = refuse (dropHead s rest) st := by
    simp [flushCarriageAct, h']
  have forget : forgetCarriageAct (dropHead s rest) args = refuse (dropHead s rest) st := by
    simp [forgetCarriageAct, h']
  intro r hr offers len
  simp only [List.mem_cons, List.not_mem_nil, or_false] at hr
  rcases hr with rfl | rfl | rfl
  · exact congrArg Outcome.next (takeCommand_refused offers len read)
  · exact congrArg Outcome.next (takeCommand_refused offers len flush)
  · exact congrArg Outcome.next (takeCommand_refused offers len forget)

theorem namedCarriage_above {s : State} {i : Nat} (h : 1023 < i) : s.namedCarriage i = .error .badIndex := by
  have : 1024 ≤ i := by omega
  simp [State.namedCarriage, Config.maxCarriages, this]

theorem namedCarriage_free {s : State} {i : Nat} (h : i ≤ 1023) (hc : s.carriage i = none) :
    s.namedCarriage i = .error .notFound := by
  have : ¬ 1024 ≤ i := by omega
  simp [State.namedCarriage, Config.maxCarriages, this, hc]

theorem namedCarriage_used {s : State} {i : Nat} {x : Carriage} (h : i ≤ 1023) (hc : s.carriage i = some x) :
    s.namedCarriage i = .ok x := by
  have : ¬ 1024 ≤ i := by omega
  simp [State.namedCarriage, Config.maxCarriages, this, hc]

/-- Checks 3 and 4 of R180. -/
theorem carriageInUse_of {s : State} {i : Nat} {x : Carriage}
    (h : (∃ v, s.service x.service = some v ∧ v.selected = some i) ∨
      ∃ k ∈ s.slots, (k.state = .armed ∨ k.state = .splicing) ∧ k.target = some i) :
    s.carriageInUse i x = true := by
  rcases h with ⟨v, hv, sel⟩ | ⟨k, hk, st, target⟩
  · simp [State.carriageInUse, State.selectedOf, hv, sel]
  · have : s.isTarget i = true := List.any_eq_true.2 ⟨k, hk, by simp [st, target]⟩
    simp [State.carriageInUse, this]

end Sys2Proof.Machine

open Sys2Proof Sys2Proof.Machine Host

/-- Settles O30: each refusal is the first check of its command's act that fails. -/
theorem commandsAreRefusedInOrder : Obligations.CommandsAreRefusedInOrder := by
  intro s args c rest
  refine ⟨fun r hr offers len => ⟨fun h => ?_, fun h => ?_⟩, fun offers len hl => ⟨fun h => ?_, fun he h => ?_,
      fun m he word hm hne => ?_⟩, fun offers len => ⟨fun h => ?_, fun he word used => ?_⟩,
    fun offers len => ⟨fun h => ?_, fun he h => ?_⟩, fun offers len h => ?_, fun offers len h => ?_,
    fun offers len h => ?_, fun r hr offers len => ⟨fun h => ?_, fun h free => ?_⟩, fun offers len hi x hx used => ?_,
    fun offers len h => ?_, fun offers len h => ?_, fun offers len h => ?_⟩
  · exact laneCommands_refused (laneRefusal_above h) r hr offers len
  · exact laneCommands_refused (by rw [h]; exact laneRefusal_house) r hr offers len
  · exact parkLane_refused offers len (parkRefusal_badEntry hl h)
  · exact parkLane_refused offers len (parkRefusal_empty hl he h)
  · exact parkLane_refused offers len (parkRefusal_conflict hl he word hm hne)
  · exact setPlanEntry_refused offers len (by simp [planRefusal, h])
  · refine setPlanEntry_refused offers len ?_
    have above : ¬ 62 < byteAt args 0 := by omega
    simp [planRefusal, above, word, PlanEntry.inUse, used]
  · exact clearPlanEntry_refused offers len (by simp [clearRefusal, h])
  · have above : ¬ 62 < byteAt args 0 := by omega
    exact clearPlanEntry_refused offers len (by simp [clearRefusal, above, h])
  · exact congrArg Outcome.next (takeCommand_refused offers len (by simp [setWatchAct, h]))
  · exact congrArg Outcome.next (takeCommand_refused offers len (by simp [readLaneAct, Config.houseLane, h]))
  · exact congrArg Outcome.next (takeCommand_refused offers len (by simp [readPlanEntryAct, Config.houseEntry, h]))
  · exact carriageCommands_refused (namedCarriage_above h) r hr offers len
  · exact carriageCommands_refused (namedCarriage_free h free) r hr offers len
  · have named : (dropHead s rest).namedCarriage (numberAt args 0 2) = .ok x := namedCarriage_used hi hx
    have inUse : (dropHead s rest).carriageInUse (numberAt args 0 2) x = true := carriageInUse_of (s := s) used
    exact congrArg Outcome.next (takeCommand_refused offers len (by simp [forgetCarriageAct, named, inUse]))
  · have free : (dropHead s rest).service (keyAt args 0) = none := h
    exact congrArg Outcome.next (takeCommand_refused offers len (by simp [readServiceAct, free]))
  · have : 512 ≤ numberAt args 0 2 := by omega
    exact congrArg Outcome.next (takeCommand_refused offers len (by simp [listServicesAct, Config.maxServices, this]))
  · have outside : Config.maxCarriages ≤ numberAt args 0 2 ∨ Config.houseEntry < (entryArg args).getD 0 := by
      rcases h with h | ⟨h, hne⟩
      · exact .inl (by simp only [Config.maxCarriages]; omega)
      · exact .inr (by simp [entryArg, hne, Config.houseEntry, h])
    exact congrArg Outcome.next (takeCommand_refused offers len (by simp [listCarriagesAct, outside]))
end

section
namespace Sys2Proof.Machine

open Sys2Proof Host

/-! ## SET PLAN ENTRY (R3) -/

/-- A claim reads and writes nothing of the management unit. -/
theorem claim_dropHead (s : State) (rest : List Command) (l : Nat) :
    claim (dropHead s rest) l = dropHead (claim s l) rest := by
  have next : (dropHead s rest).nextClaim = s.nextClaim := rfl
  unfold claim
  rw [next, dropHead_lane]
  split
  · cases s.nextClaim with
    | none => rfl
    | some e => rfl
  · rfl

theorem pausedClaims_dropHead (s : State) (rest : List Command) :
    pausedClaims (dropHead s rest) = dropHead (pausedClaims s) rest := by
  unfold pausedClaims
  induction List.range Config.houseLane generalizing s with
  | nil => rfl
  | cons l ls ih =>
    simp only [List.foldl_cons]
    by_cases paused : (s.lane l).paused = true
    · have paused' : ((dropHead s rest).lane l).paused = true := paused
      rw [if_pos paused, if_pos paused', claim_dropHead, ih]
    · have paused' : ¬ ((dropHead s rest).lane l).paused = true := paused
      rw [if_neg paused, if_neg paused', ih]

/-- An act that hands nothing on and leaves the services as they were ends with the claims of the paused lanes. -/
theorem closeWithClaims_nothing {s t : State} (h : t.handed = []) (hs : t.services = s.services) :
    closeWithClaims s t [] = pausedClaims t := by
  rw [closeWithClaims, closeAct_nothing h hs, List.foldl_nil]

theorem takenStatus_eq {α : Type} [DecidableEq α] (a b : α) :
    takenStatus (decide (a ≠ b)) = if a = b then .done else .clamped := by
  by_cases h : a = b <;> simp [takenStatus, h]

/-- The entries and the prompt set that SET PLAN ENTRY leaves before the paused lanes claim (R3, R68). -/
def planSet (s : State) (e : Nat) (word : BitVec 64) (bias : Int) (enable : Bool) : State :=
  { s with
    entries := s.entries.modify e fun p =>
      if p.tuningWord = some word then { p with bias := bias, surveyEnable := enable }
      else { p with tuningWord := some word, bias := bias, surveyEnable := enable,
                    surveyOutcome := .notVisited, surveyTime := none, surveyMargin := none, serviceCount := 0 }
    promptSet := if enable then s.promptSet else s.promptSet.filter (· ≠ e) }

theorem planEntry_set_eq (p : PlanEntry) (word : BitVec 64) (bias : Int) (enable : Bool) :
    p.set word bias enable =
      if p.tuningWord = some word then { p with bias := bias, surveyEnable := enable }
      else { p with tuningWord := some word, bias := bias, surveyEnable := enable,
                    surveyOutcome := .notVisited, surveyTime := none, surveyMargin := none, serviceCount := 0 } := by
  by_cases h : p.tuningWord = some word <;> simp [PlanEntry.set, PlanEntry.surveyReset, h]

/-- The model writes the entry and then takes it out of the prompt set when it is disabled. -/
theorem planSet_eq (s : State) (e : Nat) (word : BitVec 64) (bias : Int) (enable : Bool) :
    (if enable then s.modEntry e fun p => p.set word bias enable
      else leavePrompt (s.modEntry e fun p => p.set word bias enable) e) = planSet s e word bias enable := by
  cases enable <;> simp [planSet, planEntry_set_eq, State.modEntry, leavePrompt]

/-- The bias as a command's result holds it (R3). -/
theorem signedField_one (v : Int) : signedField 1 v = bytesOf 1 (v % 256).toNat := by
  simp [signedField]

/-- What the act of SET PLAN ENTRY leaves and answers when its checks pass. -/
theorem setPlanEntryAct_taken {s : State} {args : List Byte} (hs : s.Settled)
    (pass : planRefusal s (byteAt args 0) (BitVec.ofNat 64 (numberAt args 1 8)) = none) :
    setPlanEntryAct s args =
      { state := pausedClaims (planSet s (byteAt args 0) (BitVec.ofNat 64 (numberAt args 1 8))
          (clampInt (-100) 100 (signedAt args 9)) (choiceAt args 11))
        status := if clampInt (-100) 100 (signedAt args 9) = signedAt args 9 then .done else .clamped
        result := bytesOf 1 (byteAt args 0) ++ bytesOf 1 (clampInt (-100) 100 (signedAt args 9) % 256).toNat } := by
  unfold setPlanEntryAct
  simp only [pass, planSet_eq, takenStatus_eq, signedField_one]
  have closes : ∀ word bias enable, closeWithClaims s (planSet s (byteAt args 0) word bias enable) [] =
      pausedClaims (planSet s (byteAt args 0) word bias enable) :=
    fun word bias enable => closeWithClaims_nothing hs rfl
  rw [closes]

end Sys2Proof.Machine

open Sys2Proof Sys2Proof.Machine Host

/-- Settles O21: the act writes the entry, and its end is the claims of the paused lanes alone. -/
theorem setPlanEntryWritesTheEntry : Obligations.SetPlanEntryWritesTheEntry := by
  intro s args c rest offers len settled e word asked bias enable he free
  have inUse : (s.entry e).tuningWord ≠ some word → (s.entry e).inUse = false := by
    intro differs
    obtain ⟨parked, visiting⟩ := free.resolve_left differs
    simp [PlanEntry.inUse, parked, visiting]
  have pass : planRefusal (dropHead s rest) e word = none := by
    have above : ¬ 62 < e := by omega
    by_cases same : (s.entry e).tuningWord = some word
    · simp [planRefusal, above, same]
    · simp [planRefusal, above, inUse same]
  have clamped : clampInt (-100) 100 (signedAt args 9) = bias := by
    simp only [clampInt, min_comm, bias, asked, signedAt]
  have act : setPlanEntryAct (dropHead s rest) args =
      { state := dropHead (pausedClaims (planSet s e word bias enable)) rest
        status := if bias = asked then .done else .clamped
        result := bytesOf 1 e ++ bytesOf 1 (bias % 256).toNat } := by
    rw [setPlanEntryAct_taken (s := dropHead s rest) settled pass, clamped, ← pausedClaims_dropHead]
    rfl
  exact congrArg Outcome.next (takeCommand_taken offers len act)
end

section
namespace Sys2Proof.Machine

open Sys2Proof Host

/-! ## Tables in rising order of index -/

/-- The records stand in rising order of index, each index once. -/
def TableOrdered {α : Type} (t : List (Nat × α)) : Prop := t.Pairwise fun a b => a.1 < b.1

theorem tableOrdered_iff_keys {α : Type} (t : List (Nat × α)) :
    TableOrdered t ↔ (t.map Prod.fst).Pairwise (· < ·) := by
  simp [TableOrdered, List.pairwise_map]

theorem tableOrdered_of_keys {α β : Type} {t : List (Nat × α)} {u : List (Nat × β)}
    (h : u.map Prod.fst = t.map Prod.fst) (ho : TableOrdered t) : TableOrdered u := by
  rw [tableOrdered_iff_keys, h, ← tableOrdered_iff_keys]
  exact ho

theorem TableOrdered.filter {α : Type} {t : List (Nat × α)} (p : Nat × α → Bool) (ho : TableOrdered t) :
    TableOrdered (t.filter p) := List.Pairwise.filter p ho

theorem TableOrdered.map {α β : Type} {t : List (Nat × α)} (f : Nat × α → β) (ho : TableOrdered t) :
    TableOrdered (t.map fun x => (x.1, f x)) := by
  refine tableOrdered_of_keys ?_ ho
  simp [Function.comp_def]

theorem TableOrdered.keys_nodup {α : Type} {t : List (Nat × α)} (ho : TableOrdered t) :
    (t.map Prod.fst).Nodup :=
  ((tableOrdered_iff_keys t).1 ho).imp fun h => Nat.ne_of_lt h

/-- In an ordered table a record is in use at an index exactly when it is listed there. -/
theorem tableGet_eq_some {α : Type} {t : List (Nat × α)} (ho : TableOrdered t) (i : Nat) (a : α) :
    tableGet t i = some a ↔ (i, a) ∈ t := ⟨tableGet_mem, tableGet_of_mem ho⟩

theorem tableGet_eq_none {α : Type} {t : List (Nat × α)} {i : Nat} :
    tableGet t i = none ↔ ∀ x ∈ t, x.1 ≠ i := by
  induction t with
  | nil => simp [tableGet]
  | cons x t ih =>
    obtain ⟨j, b⟩ := x
    by_cases hj : j = i <;> simp [tableGet, hj, ih]

/-- Changing the record at an index, as a map over the table. -/
theorem tableModify_eq_map {α : Type} (t : List (Nat × α)) (i : Nat) (f : α → α) :
    tableModify t i f = t.map fun x => (x.1, if x.1 = i then f x.2 else x.2) := by
  unfold tableModify
  refine List.map_congr_left fun x _ => ?_
  split <;> rfl

theorem tableGet_erase_other {α : Type} (t : List (Nat × α)) {i j : Nat} (h : i ≠ j) :
    tableGet (tableErase t i) j = tableGet t j := by
  induction t with
  | nil => rfl
  | cons x t ih =>
    obtain ⟨k, a⟩ := x
    unfold tableErase at ih ⊢
    by_cases hk : k = i
    · subst hk
      simpa [tableGet, h] using ih
    · by_cases hj : k = j
      · subst hj
        simp [tableGet, hk]
      · simpa [tableGet, hk, hj] using ih

/-- A record written at a free index joins the records in use. -/
theorem tableSet_perm {α : Type} {t : List (Nat × α)} {i : Nat} (a : α) (h : tableGet t i = none) :
    (tableSet t i a).Perm ((i, a) :: t) := by
  induction t with
  | nil => exact List.Perm.refl _
  | cons x t ih =>
    obtain ⟨j, b⟩ := x
    rw [tableGet_eq_none] at h
    have hj : j ≠ i := h (j, b) (List.mem_cons_self ..)
    have ih' := ih (tableGet_eq_none.2 fun y hy => h y (List.mem_cons_of_mem _ hy))
    unfold tableSet
    rw [if_neg hj]
    split
    · exact List.Perm.refl _
    · exact (ih'.cons (j, b)).trans (List.Perm.swap _ _ _)

theorem mem_tableSet {α : Type} {t : List (Nat × α)} {i : Nat} {a : α} (h : tableGet t i = none) (x : Nat × α) :
    x ∈ tableSet t i a ↔ x = (i, a) ∨ x ∈ t := by
  rw [(tableSet_perm a h).mem_iff, List.mem_cons]

theorem tableOrdered_set {α : Type} {t : List (Nat × α)} {i : Nat} (a : α) (ho : TableOrdered t)
    (h : tableGet t i = none) : TableOrdered (tableSet t i a) := by
  induction t with
  | nil => exact List.pairwise_singleton _ _
  | cons x t ih =>
    obtain ⟨j, b⟩ := x
    obtain ⟨hb, ht⟩ := List.pairwise_cons.1 ho
    have hj : j ≠ i := tableGet_eq_none.1 h (j, b) (List.mem_cons_self ..)
    have free : tableGet t i = none :=
      tableGet_eq_none.2 fun y hy => tableGet_eq_none.1 h y (List.mem_cons_of_mem _ hy)
    unfold tableSet
    rw [if_neg hj]
    split
    · rename_i lt
      refine List.pairwise_cons.2 ⟨fun y hy => ?_, ho⟩
      rcases List.mem_cons.1 hy with rfl | hy
      · exact lt
      · exact Nat.lt_trans lt (hb y hy)
    · refine List.pairwise_cons.2 ⟨fun y hy => ?_, ih ht free⟩
      rcases (mem_tableSet free y).1 hy with rfl | hy
      · show j < i
        omega
      · exact hb y hy

theorem tableGet_set_same {α : Type} {t : List (Nat × α)} {i : Nat} (a : α) (ho : TableOrdered t)
    (h : tableGet t i = none) : tableGet (tableSet t i a) i = some a :=
  (tableGet_eq_some (tableOrdered_set a ho h) i a).2 ((mem_tableSet h _).2 (.inl rfl))

theorem lowestFree_some {α : Type} {t : List (Nat × α)} {size i : Nat} (h : lowestFree t size = some i) :
    i < size ∧ tableGet t i = none := by
  unfold lowestFree at h
  refine ⟨List.mem_range.1 (List.mem_of_find?_eq_some h), ?_⟩
  simpa using List.find?_some h

/-- A table with a record to spare has a free index. -/
theorem lowestFree_isSome {α : Type} {t : List (Nat × α)} {size : Nat} (h : t.length < size) :
    (lowestFree t size).isSome := by
  by_contra none
  have full : ∀ i ∈ List.range size, i ∈ t.map Prod.fst := by
    intro i hi
    by_contra free
    refine none (List.find?_isSome.2 ⟨i, hi, ?_⟩)
    have : tableGet t i = Option.none := tableGet_eq_none.2 fun x hx he => free (List.mem_map.2 ⟨x, hx, he⟩)
    simp [this]
  have fits := (List.nodup_range.subperm full).length_le
  simp only [List.length_range, List.length_map] at fits
  omega

/-! ## Services, carriages and bindings as the tables hold them -/

theorem State.CatalogueOrdered.carriages_ordered {s : State} (h : s.CatalogueOrdered) : TableOrdered s.carriages :=
  h.2.1

theorem State.CatalogueOrdered.keys_nodup {s : State} (h : s.CatalogueOrdered) :
    (s.services.map fun x => x.2.key).Nodup := h.2.2.1

theorem State.CatalogueOrdered.pairs_nodup {s : State} (h : s.CatalogueOrdered) :
    (s.carriages.map fun x => (x.2.entry, x.2.service)).Nodup := h.2.2.2.1

theorem State.CatalogueOrdered.carriage_eq_some {s : State} (h : s.CatalogueOrdered) (i : Nat) (x : Carriage) :
    s.carriage i = some x ↔ (i, x) ∈ s.carriages := tableGet_eq_some h.carriages_ordered i x

/-- A record of a key is found by the key exactly when the key stands in the table. -/
theorem State.service_isSome (s : State) (key : Key) :
    (s.service key).isSome ↔ key ∈ s.services.map fun x => x.2.key := by
  simp [State.service]

theorem State.service_eq_none (s : State) (key : Key) :
    s.service key = none ↔ ∀ x ∈ s.services, x.2.key ≠ key := by
  simp [State.service]

theorem State.service_mem {s : State} {key : Key} {v : Service} (h : s.service key = some v) :
    (∃ i, (i, v) ∈ s.services) ∧ v.key = key := by
  unfold State.service at h
  obtain ⟨x, hx, rfl⟩ := Option.map_eq_some_iff.1 h
  exact ⟨⟨x.1, List.mem_of_find?_eq_some hx⟩, by simpa using List.find?_some hx⟩

/-- Two records of one key are one. -/
theorem eq_of_nodup_map {α β : Type} {l : List α} {f : α → β} (h : (l.map f).Nodup) {a b : α} (ha : a ∈ l)
    (hb : b ∈ l) (hab : f a = f b) : a = b := List.inj_on_of_nodup_map h ha hb hab

theorem State.CatalogueOrdered.service_of_mem {s : State} (h : s.CatalogueOrdered) {x : Nat × Service}
    (hx : x ∈ s.services) : s.service x.2.key = some x.2 := by
  have found : (s.services.find? fun y => y.2.key = x.2.key).isSome :=
    List.find?_isSome.2 ⟨x, hx, by simp⟩
  obtain ⟨y, hy⟩ := Option.isSome_iff_exists.1 found
  have key : y.2.key = x.2.key := by simpa using List.find?_some hy
  have : y = x := eq_of_nodup_map h.keys_nodup (List.mem_of_find?_eq_some hy) hx key
  unfold State.service
  rw [hy, this]
  rfl

theorem State.CatalogueOrdered.carriage_of_mem {s : State} (h : s.CatalogueOrdered) {x : Nat × Carriage}
    (hx : x ∈ s.carriages) : s.carriage x.1 = some x.2 := (h.carriage_eq_some x.1 x.2).2 hx

theorem State.carriage_mem {s : State} {c : Nat} {x : Carriage} (h : s.carriage c = some x) :
    (c, x) ∈ s.carriages := tableGet_mem h

/-- Changing one carriage, when its record is known. -/
theorem State.modCarriage_eq_map (s : State) (c : Nat) (f : Carriage → Carriage) :
    s.modCarriage c f = { s with carriages := s.carriages.map fun x => (x.1, if x.1 = c then f x.2 else x.2) } := by
  rw [State.modCarriage, tableModify_eq_map]

end Sys2Proof.Machine
end

section
namespace Sys2Proof.Machine

open Sys2Proof Host

/-! ## The Binding Table (R14 to R16) -/

theorem BindingName.before_iff (a b : BindingName) :
    a.before b = true ↔ a.lane < b.lane ∨ a.lane = b.lane ∧ a.flow < b.flow := by
  simp [BindingName.before]

theorem BindingName.not_before_self (a : BindingName) : ¬ a.before a = true := by
  simp [BindingName.before_iff]

theorem BindingName.before_trans {a b c : BindingName} (h : a.before b = true) (g : b.before c = true) :
    a.before c = true := by
  rw [BindingName.before_iff] at *
  omega

theorem BindingName.before_of_not {a b : BindingName} (h : ¬ b.before a = true) (hne : a ≠ b) :
    a.before b = true := by
  rw [BindingName.before_iff] at *
  have : ¬ (a.lane = b.lane ∧ a.flow = b.flow) := by
    rintro ⟨lane, flow⟩
    cases a
    cases b
    simp_all
  omega

/-- The Binding Table stands in rising order of lane and flow. -/
def BindingsOrdered (bs : List Binding) : Prop := bs.Pairwise fun a b => a.name.before b.name = true

/-- The binding of a name in a table. -/
def findBinding (bs : List Binding) (name : BindingName) : Option Binding := bs.find? fun b => b.name = name

theorem State.binding_eq (s : State) (name : BindingName) :
    s.binding name.lane name.flow = findBinding s.bindings name := rfl

theorem State.binding_mk (s : State) (l f : Nat) : s.binding l f = findBinding s.bindings { lane := l, flow := f } := rfl

theorem findBinding_name {bs : List Binding} {name : BindingName} {b : Binding} (h : findBinding bs name = some b) :
    b ∈ bs ∧ b.name = name := ⟨List.mem_of_find?_eq_some h, by simpa using List.find?_some h⟩

theorem findBinding_none {bs : List Binding} {name : BindingName} :
    findBinding bs name = none ↔ ∀ b ∈ bs, b.name ≠ name := by
  simp [findBinding]

theorem findBinding_of_mem {bs : List Binding} (ho : BindingsOrdered bs) {b : Binding} (hb : b ∈ bs) :
    findBinding bs b.name = some b := by
  induction bs with
  | nil => simp at hb
  | cons a bs ih =>
    obtain ⟨ha, ho'⟩ := List.pairwise_cons.1 ho
    rcases List.mem_cons.1 hb with rfl | hb
    · simp [findBinding]
    · have hne : a.name ≠ b.name := fun e => BindingName.not_before_self _ (e ▸ ha b hb)
      simpa [findBinding, hne] using ih ho' hb

/-- A change of every record of one name, seen from the lookups. -/
theorem findBinding_modify (bs : List Binding) (name m : BindingName) (f : Binding → Binding)
    (hf : ∀ b, (f b).name = b.name) :
    findBinding (bs.map fun b => if b.name = name then f b else b) m =
      (findBinding bs m).map fun b => if b.name = name then f b else b := by
  unfold findBinding
  rw [List.find?_map]
  refine congrArg _ (congrArg (fun p => List.find? p bs) (funext fun b => ?_))
  simp only [Function.comp]
  split <;> simp [hf]

/-- A change of every record that keeps the names, seen from the lookups. -/
theorem findBinding_map (bs : List Binding) (m : BindingName) (f : Binding → Binding) (hf : ∀ b, (f b).name = b.name) :
    findBinding (bs.map f) m = (findBinding bs m).map f := by
  unfold findBinding
  rw [List.find?_map]
  exact congrArg _ (congrArg (fun p => List.find? p bs) (funext fun b => by simp [hf]))

theorem findBinding_remove (bs : List Binding) (name m : BindingName) :
    findBinding (bs.filter fun b => b.name ≠ name) m = if m = name then none else findBinding bs m := by
  split
  · subst m
    rw [findBinding_none]
    intro b hb
    simpa using (List.mem_filter.1 hb).2
  · rename_i hne
    unfold findBinding
    rw [List.find?_filter]
    refine congrArg (fun p => List.find? p bs) (funext fun b => ?_)
    by_cases hb : b.name = m <;> simp [hb, hne]

theorem insertBinding_perm (bs : List Binding) (b : Binding) : (insertBinding bs b).Perm (b :: bs) := by
  induction bs with
  | nil => exact List.Perm.refl _
  | cons a bs ih =>
    unfold insertBinding
    split
    · exact List.Perm.refl _
    · exact (ih.cons a).trans (List.Perm.swap _ _ _)

theorem insertBinding_ordered {bs : List Binding} {b : Binding} (ho : BindingsOrdered bs)
    (new : ∀ a ∈ bs, a.name ≠ b.name) : BindingsOrdered (insertBinding bs b) := by
  induction bs with
  | nil => exact List.pairwise_singleton _ _
  | cons a bs ih =>
    obtain ⟨ha, ho'⟩ := List.pairwise_cons.1 ho
    unfold insertBinding
    split
    · rename_i before
      refine List.pairwise_cons.2 ⟨fun d hd => ?_, ho⟩
      rcases List.mem_cons.1 hd with rfl | hd
      · exact before
      · exact BindingName.before_trans before (ha d hd)
    · rename_i before
      refine List.pairwise_cons.2 ⟨fun d hd => ?_, ih ho' fun d hd => new d (List.mem_cons_of_mem _ hd)⟩
      rcases List.mem_cons.1 ((insertBinding_perm bs b).mem_iff.1 hd) with rfl | hd
      · exact BindingName.before_of_not before (new a (List.mem_cons_self ..))
      · exact ha d hd

/-- A new binding is found under its own name, and no other lookup changes. -/
theorem findBinding_insert (bs : List Binding) (b : Binding) (m : BindingName)
    (new : findBinding bs b.name = none) :
    findBinding (insertBinding bs b) m = if m = b.name then some b else findBinding bs m := by
  rw [findBinding_none] at new
  induction bs with
  | nil => by_cases h : m = b.name <;> simp [insertBinding, findBinding, h, eq_comm]
  | cons a bs ih =>
    have ih' := ih fun d hd => new d (List.mem_cons_of_mem _ hd)
    have ha : a.name ≠ b.name := new a (List.mem_cons_self ..)
    unfold insertBinding
    split
    · by_cases h : m = b.name
      · simp [findBinding, h]
      · have : b.name ≠ m := fun e => h e.symm
        simp [findBinding, h, this]
    · by_cases hm : a.name = m
      · have : m ≠ b.name := hm ▸ ha
        simp [findBinding, hm, this]
      · simpa [findBinding, hm] using ih'

/-! ### Joining and leaving a binding -/

/-- What joining makes of the binding of a name, if there is one (R14, R15). -/
def joined (name : BindingName) (now : Clock) : Option Binding → Binding
  | some b => { b with refCount := b.refCount + 1 }
  | none => Binding.fresh name now

/-- What leaving makes of the binding of a name (R16). -/
def left (b : Binding) : Option Binding := if b.refCount ≤ 1 then none else some { b with refCount := b.refCount - 1 }

theorem joinBinding_find (s : State) (name m : BindingName) :
    findBinding (joinBinding s name).bindings m =
      if m = name then some (joined name s.clock (findBinding s.bindings name)) else findBinding s.bindings m := by
  unfold joinBinding
  rw [State.binding_eq]
  cases h : findBinding s.bindings name with
  | some b =>
    simp only [State.modBinding]
    rw [findBinding_modify]
    · by_cases hm : m = name
      · subst hm
        simp [h, joined, (findBinding_name h).2]
      · rw [if_neg hm]
        cases g : findBinding s.bindings m with
        | none => rfl
        | some d => simp [(findBinding_name g).2, hm]
    · exact fun _ => rfl
  | none =>
    exact findBinding_insert s.bindings (Binding.fresh name s.clock) m h

theorem leaveBinding_find (s : State) (name m : BindingName) :
    findBinding (leaveBinding s name).bindings m =
      if m = name then (findBinding s.bindings name).bind left else findBinding s.bindings m := by
  unfold leaveBinding
  rw [State.binding_eq]
  cases h : findBinding s.bindings name with
  | none =>
    by_cases hm : m = name
    · subst hm
      simp [h]
    · simp [hm]
  | some b =>
    by_cases last : b.refCount ≤ 1
    · simp only [if_pos last]
      rw [findBinding_remove]
      simp [left, last]
    · simp only [if_neg last, State.modBinding]
      rw [findBinding_modify]
      · by_cases hm : m = name
        · subst hm
          simp [h, left, last, (findBinding_name h).2]
        · rw [if_neg hm]
          cases g : findBinding s.bindings m with
          | none => rfl
          | some d => simp [(findBinding_name g).2, hm]
      · exact fun _ => rfl

theorem bindingsOrdered_map {bs : List Binding} (f : Binding → Binding) (hf : ∀ b, (f b).name = b.name)
    (ho : BindingsOrdered bs) : BindingsOrdered (bs.map f) := by
  unfold BindingsOrdered
  rw [List.pairwise_map]
  simp only [hf]
  exact ho

theorem modBinding_ordered {s : State} (name : BindingName) (f : Binding → Binding) (hf : ∀ b, (f b).name = b.name)
    (ho : BindingsOrdered s.bindings) : BindingsOrdered (s.modBinding name f).bindings := by
  refine bindingsOrdered_map _ (fun b => ?_) ho
  split <;> simp [hf]

theorem joinBinding_ordered {s : State} (name : BindingName) (ho : BindingsOrdered s.bindings) :
    BindingsOrdered (joinBinding s name).bindings := by
  unfold joinBinding
  rw [State.binding_eq]
  cases h : findBinding s.bindings name with
  | some b => exact modBinding_ordered name _ (fun _ => rfl) ho
  | none => exact insertBinding_ordered ho (findBinding_none.1 h)

theorem joinBinding_length (s : State) (name : BindingName) :
    (joinBinding s name).bindings.length =
      s.bindings.length + if (findBinding s.bindings name).isNone then 1 else 0 := by
  unfold joinBinding
  rw [State.binding_eq]
  cases h : findBinding s.bindings name with
  | some b => simp
  | none => simp [(insertBinding_perm s.bindings (Binding.fresh name s.clock)).length_eq]

theorem leaveBinding_ordered {s : State} (name : BindingName) (ho : BindingsOrdered s.bindings) :
    BindingsOrdered (leaveBinding s name).bindings := by
  unfold leaveBinding
  split
  · exact ho
  · split
    · exact List.Pairwise.filter _ ho
    · exact modBinding_ordered name _ (fun _ => rfl) ho

theorem leaveBinding_length_le (s : State) (name : BindingName) :
    (leaveBinding s name).bindings.length ≤ s.bindings.length := by
  unfold leaveBinding
  split
  · exact le_refl _
  · split
    · exact List.length_filter_le _ _
    · simp

/-! ### Many components at once -/

theorem foldl_join_within (names : List BindingName) (s : State) :
    Within [.bindings] s (names.foldl joinBinding s) := Within.foldl _ (fun s n => joinBinding_within s n) names s

theorem foldl_leave_within (names : List BindingName) (s : State) :
    Within [.bindings] s (names.foldl leaveBinding s) := Within.foldl _ (fun s n => leaveBinding_within s n) names s

theorem foldl_join_find (names : List BindingName) (nodup : names.Nodup) (s : State) (m : BindingName) :
    findBinding (names.foldl joinBinding s).bindings m =
      if m ∈ names then some (joined m s.clock (findBinding s.bindings m)) else findBinding s.bindings m := by
  induction names generalizing s with
  | nil => simp
  | cons a names ih =>
    obtain ⟨new, nodup'⟩ := List.nodup_cons.1 nodup
    have clock : (joinBinding s a).clock = s.clock := joinBinding_within s a .clock (by decide)
    rw [List.foldl_cons, ih nodup', joinBinding_find, clock]
    by_cases ha : m = a
    · subst ha
      simp [new]
    · simp [ha]

theorem foldl_leave_find (names : List BindingName) (nodup : names.Nodup) (s : State) (m : BindingName) :
    findBinding (names.foldl leaveBinding s).bindings m =
      if m ∈ names then (findBinding s.bindings m).bind left else findBinding s.bindings m := by
  induction names generalizing s with
  | nil => simp
  | cons a names ih =>
    obtain ⟨new, nodup'⟩ := List.nodup_cons.1 nodup
    rw [List.foldl_cons, ih nodup', leaveBinding_find]
    by_cases ha : m = a
    · subst ha
      simp [new]
    · simp [ha]

theorem foldl_join_ordered (names : List BindingName) (s : State) (ho : BindingsOrdered s.bindings) :
    BindingsOrdered (names.foldl joinBinding s).bindings := by
  induction names generalizing s with
  | nil => exact ho
  | cons a names ih => exact ih _ (joinBinding_ordered a ho)

theorem foldl_leave_ordered (names : List BindingName) (s : State) (ho : BindingsOrdered s.bindings) :
    BindingsOrdered (names.foldl leaveBinding s).bindings := by
  induction names generalizing s with
  | nil => exact ho
  | cons a names ih => exact ih _ (leaveBinding_ordered a ho)

theorem foldl_leave_length_le (names : List BindingName) (s : State) :
    (names.foldl leaveBinding s).bindings.length ≤ s.bindings.length := by
  induction names generalizing s with
  | nil => exact le_refl _
  | cons a names ih => exact (ih _).trans (leaveBinding_length_le s a)

/-- Joining distinct bindings adds as many records as there are new names among them. -/
theorem foldl_join_length (names : List BindingName) (nodup : names.Nodup) (s : State) :
    (names.foldl joinBinding s).bindings.length =
      s.bindings.length + names.countP fun n => (findBinding s.bindings n).isNone := by
  induction names generalizing s with
  | nil => simp
  | cons a names ih =>
    obtain ⟨new, nodup'⟩ := List.nodup_cons.1 nodup
    have same : (names.countP fun n => (findBinding (joinBinding s a).bindings n).isNone) =
        names.countP fun n => (findBinding s.bindings n).isNone := by
      refine List.countP_congr fun n hn => ?_
      have : n ≠ a := fun e => new (e ▸ hn)
      rw [joinBinding_find, if_neg this]
    rw [List.foldl_cons, ih nodup', joinBinding_length, same, List.countP_cons]
    omega

end Sys2Proof.Machine
end

section
namespace Sys2Proof.Machine

open Sys2Proof Host

/-! ## What the catalogue's operations make of the carriages -/

/-- The carriages with the record at index `c` in place of what stands there. -/
def replaceAt (t : List (Nat × Carriage)) (c : Nat) (y : Carriage) : List (Nat × Carriage) :=
  t.map fun z => (z.1, if z.1 = c then y else z.2)

theorem replaceAt_eq (t : List (Nat × Carriage)) (c : Nat) (y : Carriage) :
    replaceAt t c y = t.map fun z => if z.1 = c then (c, y) else z := by
  refine List.map_congr_left fun z _ => ?_
  by_cases h : z.1 = c <;> simp [h]

theorem tableGet_replaceAt {t : List (Nat × Carriage)} {c : Nat} {x : Carriage} (y : Carriage)
    (h : tableGet t c = some x) : tableGet (replaceAt t c y) c = some y := by
  rw [replaceAt, tableGet_map]
  simp [h]

theorem tableGet_replaceAt_other (t : List (Nat × Carriage)) {c d : Nat} (y : Carriage) (h : d ≠ c) :
    tableGet (replaceAt t c y) d = tableGet t d := by
  rw [replaceAt, tableGet_map]
  simp [h]

theorem mem_replaceAt {t : List (Nat × Carriage)} {c : Nat} {y : Carriage} {z : Nat × Carriage}
    (h : z ∈ replaceAt t c y) : z = (c, y) ∨ z ∈ t ∧ z.1 ≠ c := by
  obtain ⟨w, hw, rfl⟩ := List.mem_map.1 h
  by_cases hc : w.1 = c
  · exact .inl (by simp [hc])
  · exact .inr ⟨by simpa [hc] using hw, hc⟩

/-- Changing the carriage in use at an index puts the changed record in its place. -/
theorem modCarriage_replaces {s : State} {c : Nat} {x : Carriage} (f : Carriage → Carriage)
    (ho : TableOrdered s.carriages) (hx : s.carriage c = some x) :
    (s.modCarriage c f).carriages = replaceAt s.carriages c (f x) := by
  rw [State.modCarriage_eq_map]
  refine List.map_congr_left fun z hz => ?_
  by_cases h : z.1 = c
  · have : z.2 = x := by
      have := tableGet_of_mem ho hz
      rw [h] at this
      exact Option.some.inj (this.symm.trans hx)
    simp [h, this]
  · simp [h]

theorem replaceAt_replaceAt (t : List (Nat × Carriage)) (c : Nat) (y z : Carriage) :
    replaceAt (replaceAt t c y) c z = replaceAt t c z := by
  unfold replaceAt
  rw [List.map_map]
  refine List.map_congr_left fun w _ => ?_
  by_cases h : w.1 = c <;> simp [h]

/-- Changing a record twice, the second time from the record that the first change left. -/
theorem modCarriage_replaces_again {s t : State} {c : Nat} {x y : Carriage} (f : Carriage → Carriage)
    (ho : TableOrdered s.carriages) (hx : s.carriage c = some x) (ht : t.carriages = replaceAt s.carriages c y) :
    (t.modCarriage c f).carriages = replaceAt s.carriages c (f y) := by
  have get : t.carriage c = some y := by
    rw [State.carriage, ht]
    exact tableGet_replaceAt y hx
  have ordered : TableOrdered t.carriages := by
    rw [ht]
    exact ho.map _
  rw [modCarriage_replaces f ordered get, ht, replaceAt_replaceAt]

/-- A carriage with no component bound, and no whole-window mark (R16, R84). -/
def Carriage.released (x : Carriage) : Carriage :=
  { x with components := x.components.map fun d => { d with binding := none }, wholeWindow := none }

/-- The names of the bindings a carriage holds. -/
def Carriage.names (x : Carriage) : List BindingName := x.components.filterMap (·.binding)

theorem releaseBindings_none {s : State} {c : Nat} (h : s.carriage c = none) : releaseBindings s c = s := by
  simp [releaseBindings, h]

theorem releaseBindings_some {s : State} {c : Nat} {x : Carriage} (h : s.carriage c = some x) :
    releaseBindings s c = (x.names.foldl leaveBinding s).modCarriage c Carriage.released := by
  simp only [releaseBindings, h]
  rfl

theorem releaseBindings_carriages {s : State} {c : Nat} {x : Carriage} (ho : TableOrdered s.carriages)
    (hx : s.carriage c = some x) : (releaseBindings s c).carriages = replaceAt s.carriages c x.released := by
  have frame : (x.names.foldl leaveBinding s).carriages = s.carriages :=
    foldl_leave_within x.names s .carriages (by decide)
  rw [releaseBindings_some hx, ← frame]
  refine modCarriage_replaces _ (by rw [frame]; exact ho) ?_
  rw [State.carriage, frame]
  exact hx

theorem releaseBindings_bindings {s : State} {c : Nat} {x : Carriage} (hx : s.carriage c = some x) :
    (releaseBindings s c).bindings = (x.names.foldl leaveBinding s).bindings := by
  rw [releaseBindings_some hx]
  rfl

/-- A carriage as a bind attempt on lane `l` leaves it (R15). -/
def State.attempted (s : State) (l : Nat) (mark : Bool) (x : Carriage) : Carriage :=
  if canBind s l x.components then x.bound l (s.boundState l) (s.laneDownOf l) (s.markOn l mark) s.clock
  else x.unbound l (s.laneDownOf l)

/-- The names a carriage's components take on a lane. -/
def Carriage.namesOn (x : Carriage) (l : Nat) : List BindingName :=
  x.components.map fun d => { lane := l, flow := d.flow }

theorem attemptBind_none {s : State} {c : Nat} (h : s.carriage c = none) (l : Nat) (mark : Bool) :
    attemptBind s c l mark = s := by
  simp [attemptBind, h]

theorem attempted_service (s : State) (l : Nat) (mark : Bool) (x : Carriage) :
    (s.attempted l mark x).service = x.service := by
  unfold State.attempted
  split <;> rfl

theorem attempted_entry (s : State) (l : Nat) (mark : Bool) (x : Carriage) :
    (s.attempted l mark x).entry = x.entry := by
  unfold State.attempted
  split <;> rfl

theorem attempted_lane (s : State) (l : Nat) (mark : Bool) (x : Carriage) :
    (s.attempted l mark x).lane = some l := by
  unfold State.attempted
  split <;> rfl

/-- The state a bind attempt leaves. -/
theorem attempted_state (s : State) (l : Nat) (mark : Bool) (x : Carriage) :
    (s.attempted l mark x).state = if canBind s l x.components then s.boundState l else .incomplete := by
  unfold State.attempted
  split <;> rfl

theorem foldl_join_components (s : State) (l : Nat) (cs : List Component) :
    cs.foldl (fun s d => joinBinding s { lane := l, flow := d.flow }) s =
      (cs.map fun d => ({ lane := l, flow := d.flow } : BindingName)).foldl joinBinding s := by
  rw [List.foldl_map]

/-- A bind attempt: the bindings joined when it can succeed, the record written, the service handed on. -/
theorem attemptBind_some {s : State} {c : Nat} {x : Carriage} (h : s.carriage c = some x) (l : Nat) (mark : Bool) :
    attemptBind s c l mark =
      putBound (if canBind s l x.components then (x.namesOn l).foldl joinBinding s else s) c
        (s.attempted l mark x) := by
  unfold attemptBind State.attempted
  simp only [h, foldl_join_components]
  split <;> rfl

theorem attemptBind_carriages {s : State} {c : Nat} {x : Carriage} (ho : TableOrdered s.carriages)
    (hx : s.carriage c = some x) (l : Nat) (mark : Bool) :
    (attemptBind s c l mark).carriages = replaceAt s.carriages c (s.attempted l mark x) := by
  have frame : (if canBind s l x.components then (x.namesOn l).foldl joinBinding s else s).carriages =
      s.carriages := by
    split
    · exact foldl_join_within _ s .carriages (by decide)
    · rfl
  rw [attemptBind_some hx]
  unfold putBound
  rw [State.hand_carriages, ← frame]
  refine modCarriage_replaces (fun _ => s.attempted l mark x) (by rw [frame]; exact ho) (x := x) ?_
  rw [State.carriage, frame]
  exact hx

theorem attemptBind_bindings {s : State} {c : Nat} {x : Carriage} (hx : s.carriage c = some x) (l : Nat)
    (mark : Bool) : (attemptBind s c l mark).bindings =
      if canBind s l x.components then ((x.namesOn l).foldl joinBinding s).bindings else s.bindings := by
  rw [attemptBind_some hx]
  split <;> rfl

theorem attemptBind_handed {s : State} {c : Nat} {x : Carriage} (hx : s.carriage c = some x) (l : Nat)
    (mark : Bool) :
    (attemptBind s c l mark).handed = s.handed ++ [{ key := x.service, scored := none }] := by
  have frame : (if canBind s l x.components then (x.namesOn l).foldl joinBinding s else s).handed = s.handed := by
    split
    · exact foldl_join_within _ s .handed (by decide)
    · rfl
  rw [attemptBind_some hx, putBound, State.hand_handed, State.modCarriage_handed, frame, attempted_service]

/-- A carriage as shelving leaves it (R20). -/
def Carriage.shelvedNow (x : Carriage) : Carriage :=
  { x with
    components := x.components.map fun d => { d with binding := none }
    state := .shelved, lane := none, laneDown := false, stalled := false, probation := 0, wholeWindow := none }

theorem Carriage.shelvedFrom_eq (x : Carriage) : x.shelvedFrom = if x.state = .shelved then x else x.shelvedNow := rfl

theorem shelve_none {s : State} {c : Nat} (h : s.carriage c = none) : shelve s c = s := by
  simp [shelve, h]

theorem shelve_some {s : State} {c : Nat} {x : Carriage} (h : s.carriage c = some x) :
    shelve s c = ((releaseBindings s c).modCarriage c fun y =>
      { y with state := .shelved, lane := none, laneDown := false, stalled := false, probation := 0 }).hand
        x.service := by
  simp only [shelve, h]

theorem shelve_carriages {s : State} {c : Nat} {x : Carriage} (ho : TableOrdered s.carriages)
    (hx : s.carriage c = some x) : (shelve s c).carriages = replaceAt s.carriages c x.shelvedNow := by
  rw [shelve_some hx, State.hand_carriages]
  exact modCarriage_replaces_again _ ho hx (releaseBindings_carriages ho hx)

theorem shelve_bindings {s : State} {c : Nat} {x : Carriage} (hx : s.carriage c = some x) :
    (shelve s c).bindings = (releaseBindings s c).bindings := by
  rw [shelve_some hx]
  rfl

theorem releaseBindings_handed (s : State) (c : Nat) : (releaseBindings s c).handed = s.handed :=
  releaseBindings_within s c .handed (by decide)

theorem shelve_handed {s : State} {c : Nat} {x : Carriage} (hx : s.carriage c = some x) :
    (shelve s c).handed = s.handed ++ [{ key := x.service, scored := none }] := by
  rw [shelve_some hx, State.hand_handed, State.modCarriage_handed, releaseBindings_handed]

/-! ### Removal (R22) -/

theorem removeCarriage_none {s : State} {c : Nat} (h : s.carriage c = none) : removeCarriage s c = s := by
  simp [removeCarriage, h]

/-- A removal up to its third step: bindings released, references dropped, the slots told (R22). -/
def withdrawn (s : State) (c : Nat) (x : Carriage) : State :=
  slotsLoseCarriage ((releaseBindings s c).modService x.service fun v => v.forget c) c

theorem withdrawn_within (s : State) (c : Nat) (x : Carriage) :
    Within [.slots] ((releaseBindings s c).modService x.service fun v => v.forget c) (withdrawn s c x) :=
  slotsLoseCarriage_within _ c

/-- The state of a removal before the service record is freed: the record erased. -/
def removed (s : State) (c : Nat) (x : Carriage) : State :=
  { withdrawn s c x with carriages := tableErase (withdrawn s c x).carriages c }

theorem removeCarriage_some {s : State} {c : Nat} {x : Carriage} (h : s.carriage c = some x) :
    removeCarriage s c = (freeIfUnheld (removed s c x) x.service).hand x.service := by
  simp only [removeCarriage, h]
  rfl

theorem freeIfUnheld_cases (s : State) (key : Key) :
    freeIfUnheld s key = s ∨ s.held key = false ∧
      freeIfUnheld s key = { s with services := s.services.filter fun x => x.2.key ≠ key } := by
  unfold freeIfUnheld
  by_cases h : s.held key = true
  · exact .inl (if_pos h)
  · exact .inr ⟨by simpa using h, if_neg h⟩

/-- A record that is not held names no carriage, has no slot reference and no pin, and is not watched (R9). -/
theorem held_eq_false {s : State} {key : Key} (h : s.held key = false) :
    (∀ x ∈ s.carriages, x.2.service ≠ key) ∧ (∀ v, s.service key = some v → v.slotRefs = 0 ∧ v.pinned = none) ∧
      s.watched key = false := by
  simp only [State.held, Bool.or_eq_false_iff] at h
  obtain ⟨⟨carriages, record⟩, watched⟩ := h
  refine ⟨by simpa using carriages, fun v hv => ?_, watched⟩
  rw [hv] at record
  simpa using record

theorem freeIfUnheld_carriages (s : State) (key : Key) : (freeIfUnheld s key).carriages = s.carriages :=
  freeIfUnheld_within s key .carriages (by decide)

theorem erase_replaceAt (t : List (Nat × Carriage)) (c : Nat) (y : Carriage) :
    tableErase (replaceAt t c y) c = tableErase t c := by
  unfold tableErase replaceAt
  rw [List.filter_map]
  have same : ∀ z ∈ t.filter ((fun x : Nat × Carriage => decide (x.1 ≠ c)) ∘ fun z => (z.1, if z.1 = c then y else z.2)),
      (z.1, if z.1 = c then y else z.2) = z := by
    intro z hz
    have : z.1 ≠ c := by simpa using (List.mem_filter.1 hz).2
    simp [this]
  rw [List.map_congr_left same, List.map_id']
  rfl

theorem withdrawn_carriages (s : State) (c : Nat) (x : Carriage) :
    (withdrawn s c x).carriages = (releaseBindings s c).carriages := withdrawn_within s c x .carriages (by decide)

theorem removed_carriages {s : State} {c : Nat} {x : Carriage} (ho : TableOrdered s.carriages)
    (hx : s.carriage c = some x) : (removed s c x).carriages = tableErase s.carriages c := by
  simp only [removed, withdrawn_carriages, releaseBindings_carriages ho hx, erase_replaceAt]

theorem removeCarriage_carriages {s : State} {c : Nat} {x : Carriage} (ho : TableOrdered s.carriages)
    (hx : s.carriage c = some x) : (removeCarriage s c).carriages = tableErase s.carriages c := by
  rw [removeCarriage_some hx, State.hand_carriages, freeIfUnheld_carriages, removed_carriages ho hx]

theorem removed_bindings (s : State) (c : Nat) (x : Carriage) :
    (removed s c x).bindings = (releaseBindings s c).bindings := by
  have told : (withdrawn s c x).bindings = _ := withdrawn_within s c x .bindings (by decide)
  simp only [removed, told, State.modService_bindings]

theorem releaseBindings_services (s : State) (c : Nat) : (releaseBindings s c).services = s.services :=
  releaseBindings_within s c .services (by decide)

theorem removed_services (s : State) (c : Nat) (x : Carriage) :
    (removed s c x).services = (s.modService x.service fun v => v.forget c).services := by
  have told : (withdrawn s c x).services = _ := withdrawn_within s c x .services (by decide)
  simp only [removed, told, State.modService_services, releaseBindings_services]

theorem removeCarriage_bindings {s : State} {c : Nat} {x : Carriage} (hx : s.carriage c = some x) :
    (removeCarriage s c).bindings = (releaseBindings s c).bindings := by
  have free : (freeIfUnheld (removed s c x) x.service).bindings = (removed s c x).bindings :=
    freeIfUnheld_within _ _ .bindings (by decide)
  rw [removeCarriage_some hx, State.hand_bindings, free, removed_bindings]

theorem removed_handed (s : State) (c : Nat) (x : Carriage) : (removed s c x).handed = s.handed := by
  have told : (withdrawn s c x).handed = _ := withdrawn_within s c x .handed (by decide)
  simp only [removed, told, State.modService_handed, releaseBindings_handed]

theorem removeCarriage_handed {s : State} {c : Nat} {x : Carriage} (hx : s.carriage c = some x) :
    (removeCarriage s c).handed = s.handed ++ [{ key := x.service, scored := none }] := by
  have free : (freeIfUnheld (removed s c x) x.service).handed = (removed s c x).handed :=
    freeIfUnheld_within _ _ .handed (by decide)
  rw [removeCarriage_some hx, State.hand_handed, free, removed_handed]

/-! ### Rebinding (R21) -/

/-- A released carriage with the list and the timing component a directory gives. -/
def Carriage.relisted (x : Carriage) (comps : List (Kind × Nat)) (timing : Option Nat) : Carriage :=
  { x.released with
    components := comps.map fun d => { kind := d.1, flow := d.2, binding := none }, timing := timing }

/-- The state of a rebinding before its bind attempt. -/
def relist (s : State) (c : Nat) (comps : List (Kind × Nat)) (timing : Option Nat) : State :=
  (releaseBindings s c).modCarriage c fun y =>
    { y with components := comps.map fun d => { kind := d.1, flow := d.2, binding := none }, timing := timing }

theorem rebind_eq (s : State) (c l : Nat) (comps : List (Kind × Nat)) (timing : Option Nat) :
    rebind s c l comps timing =
      refeedAll (attemptBind (relist s c comps timing) c l false) c (s.componentCount c) := rfl

theorem relist_carriages {s : State} {c : Nat} {x : Carriage} (ho : TableOrdered s.carriages)
    (hx : s.carriage c = some x) (comps : List (Kind × Nat)) (timing : Option Nat) :
    (relist s c comps timing).carriages = replaceAt s.carriages c (x.relisted comps timing) :=
  modCarriage_replaces_again _ ho hx (releaseBindings_carriages ho hx)

theorem relist_carriage {s : State} {c : Nat} {x : Carriage} (ho : TableOrdered s.carriages)
    (hx : s.carriage c = some x) (comps : List (Kind × Nat)) (timing : Option Nat) :
    (relist s c comps timing).carriage c = some (x.relisted comps timing) := by
  rw [State.carriage, relist_carriages ho hx]
  exact tableGet_replaceAt _ hx

theorem rebind_carriages {s : State} {c : Nat} {x : Carriage} (ho : TableOrdered s.carriages)
    (hx : s.carriage c = some x) (l : Nat) (comps : List (Kind × Nat)) (timing : Option Nat) :
    (rebind s c l comps timing).carriages =
      replaceAt s.carriages c ((relist s c comps timing).attempted l false (x.relisted comps timing)) := by
  have frame : ∀ t : State, (refeedAll t c (s.componentCount c)).carriages = t.carriages := fun t =>
    refeedAll_within t c _ .carriages (by decide)
  have relisted := relist_carriages ho hx comps timing
  have ordered : TableOrdered (relist s c comps timing).carriages := by
    rw [relisted]
    exact ho.map _
  rw [rebind_eq, frame, attemptBind_carriages ordered (relist_carriage ho hx comps timing), relisted,
    replaceAt_replaceAt]

theorem rebind_bindings (s : State) (c l : Nat) (comps : List (Kind × Nat)) (timing : Option Nat) :
    (rebind s c l comps timing).bindings = (attemptBind (relist s c comps timing) c l false).bindings :=
  refeedAll_within _ c _ .bindings (by decide)

theorem relist_handed (s : State) (c : Nat) (comps : List (Kind × Nat)) (timing : Option Nat) :
    (relist s c comps timing).handed = s.handed := releaseBindings_handed s c

theorem relist_bindings (s : State) (c : Nat) (comps : List (Kind × Nat)) (timing : Option Nat) :
    (relist s c comps timing).bindings = (releaseBindings s c).bindings := rfl

theorem rebind_handed {s : State} {c : Nat} {x : Carriage} (ho : TableOrdered s.carriages)
    (hx : s.carriage c = some x) (l : Nat) (comps : List (Kind × Nat)) (timing : Option Nat) :
    (rebind s c l comps timing).handed = s.handed ++ [{ key := x.service, scored := none }] := by
  have frame : (rebind s c l comps timing).handed = (attemptBind (relist s c comps timing) c l false).handed :=
    refeedAll_within _ c _ .handed (by decide)
  rw [frame, attemptBind_handed (relist_carriage ho hx comps timing), relist_handed]
  rfl

end Sys2Proof.Machine
end

section
namespace Sys2Proof.Machine

open Sys2Proof Host

/-! ## Changes that leave the catalogue alone

A change is calm when it leaves the services, the carriages, the bindings and what is handed on as they were, keeps
the numbers of records, and lets each slot keep its keys and its flows. -/

/-- A slot record after a change of the composer or the port: one at the values of a vacant slot stays so, and a slot
that is not vacant keeps its keys and its base flow (R126). -/
structure Slot.Follows (x y : Slot) : Prop where
  vacant : x = Slot.vacant → y = Slot.vacant
  tenure : x.state ≠ .vacant →
    y.state ≠ .vacant ∧ y.primary = x.primary ∧ y.fallback = x.fallback ∧ y.baseFlow = x.baseFlow
  flows : x.flows.length = 6 → y.flows.length = 6

theorem Slot.Follows.refl (x : Slot) : x.Follows x := ⟨id, fun h => ⟨h, rfl, rfl, rfl⟩, id⟩

theorem Slot.Follows.trans {x y z : Slot} (h : x.Follows y) (g : y.Follows z) : x.Follows z := by
  refine ⟨g.vacant ∘ h.vacant, fun hx => ?_, g.flows ∘ h.flows⟩
  obtain ⟨state, primary, fallback, base⟩ := h.tenure hx
  obtain ⟨state', primary', fallback', base'⟩ := g.tenure state
  exact ⟨state', primary'.trans primary, fallback'.trans fallback, base'.trans base⟩

/-- A change of a slot that is not vacant and stays so, its keys, its base flow and the number of its flows kept. -/
theorem Slot.Follows.of_live {x y : Slot} (live : x.state ≠ .vacant) (state : y.state ≠ .vacant)
    (primary : y.primary = x.primary) (fallback : y.fallback = x.fallback) (base : y.baseFlow = x.baseFlow)
    (flows : y.flows.length = x.flows.length) : x.Follows y :=
  ⟨fun h => absurd (congrArg Slot.state h) live, fun _ => ⟨state, primary, fallback, base⟩, fun h => flows.trans h⟩

structure Calm (s t : State) : Prop where
  services : t.services = s.services
  carriages : t.carriages = s.carriages
  bindings : t.bindings = s.bindings
  handed : t.handed = s.handed
  slots : List.Forall₂ Slot.Follows s.slots t.slots
  entries : t.entries.length = s.entries.length
  lanes : t.lanes.length = s.lanes.length
  watch : t.watch.length = s.watch.length
  seen : s.watch.length = 32 → s.watchSeen.length = 32 → t.watchSeen.length = 32

theorem follows_refl (l : List Slot) : List.Forall₂ Slot.Follows l l := by
  induction l with
  | nil => exact .nil
  | cons a l ih => exact .cons (Slot.Follows.refl a) ih

theorem follows_trans {a b c : List Slot} (h : List.Forall₂ Slot.Follows a b) (g : List.Forall₂ Slot.Follows b c) :
    List.Forall₂ Slot.Follows a c := by
  induction h generalizing c with
  | nil => exact g
  | cons h _ ih =>
    cases g with
    | cons g gs => exact .cons (h.trans g) (ih gs)

theorem follows_modify {l : List Slot} {k : Nat} {f : Slot → Slot} (h : ∀ x, l[k]? = some x → x.Follows (f x)) :
    List.Forall₂ Slot.Follows l (l.modify k f) := by
  induction l generalizing k with
  | nil => simp
  | cons a l ih =>
    cases k with
    | zero => exact .cons (h a rfl) (follows_refl l)
    | succ k => exact .cons (Slot.Follows.refl a) (ih fun x hx => h x (by simpa using hx))

theorem follows_length {a b : List Slot} (h : List.Forall₂ Slot.Follows a b) : b.length = a.length :=
  h.length_eq.symm

/-- Each slot of the later list follows the one at its place. -/
theorem follows_mem {a b : List Slot} (h : List.Forall₂ Slot.Follows a b) {y : Slot} (hy : y ∈ b) :
    ∃ x ∈ a, x.Follows y := by
  induction h with
  | nil => simp at hy
  | cons h _ ih =>
    rcases List.mem_cons.1 hy with rfl | hy
    · exact ⟨_, List.mem_cons_self .., h⟩
    · obtain ⟨x, hx, follows⟩ := ih hy
      exact ⟨x, List.mem_cons_of_mem _ hx, follows⟩

theorem Calm.refl (s : State) : Calm s s :=
  ⟨rfl, rfl, rfl, rfl, follows_refl s.slots, rfl, rfl, rfl, fun _ h => h⟩

theorem Calm.trans {s t u : State} (h : Calm s t) (g : Calm t u) : Calm s u where
  services := g.services.trans h.services
  carriages := g.carriages.trans h.carriages
  bindings := g.bindings.trans h.bindings
  handed := g.handed.trans h.handed
  slots := follows_trans h.slots g.slots
  entries := g.entries.trans h.entries
  lanes := g.lanes.trans h.lanes
  watch := g.watch.trans h.watch
  seen := fun watch seen => g.seen (h.watch.trans watch) (h.seen watch seen)

theorem Calm.shaped {s t : State} (h : Calm s t) (hs : s.Shaped) : t.Shaped := by
  obtain ⟨entries, lanes, slots, watch, seen, flows⟩ := hs
  refine ⟨h.entries.trans entries, h.lanes.trans lanes, (follows_length h.slots).trans slots, h.watch.trans watch,
    h.seen watch seen, fun y hy => ?_⟩
  obtain ⟨x, hx, follows⟩ := follows_mem h.slots hy
  exact follows.flows (flows x hx)

theorem Calm.foldl {α : Type} {f : State → α → State} (h : ∀ s a, Calm s (f s a)) (l : List α) (s : State) :
    Calm s (l.foldl f s) := by
  induction l generalizing s with
  | nil => exact Calm.refl s
  | cons a l ih => exact (h s a).trans (ih (f s a))

theorem Calm.ite {s t u : State} {b : Prop} [Decidable b] (h : b → Calm s t) (g : ¬ b → Calm s u) :
    Calm s (if b then t else u) := by
  split
  · exact h ‹_›
  · exact g ‹_›

/-- The parts that the laws of the catalogue, the bindings and the lineup speak of. -/
def ledgerParts : List Part :=
  [.entries, .lanes, .services, .carriages, .bindings, .watch, .watchSeen, .slots, .handed]

/-- A change that touches none of those parts is calm. -/
theorem Calm.of_within {ps : List Part} {s t : State} (h : Within ps s t) (hp : ∀ p ∈ ledgerParts, p ∉ ps) :
    Calm s t := by
  have keeps : ∀ p ∈ ledgerParts, p.alike s t := fun p hm => h p (hp p hm)
  have entries : t.entries = s.entries := keeps .entries (by decide)
  have lanes : t.lanes = s.lanes := keeps .lanes (by decide)
  have slots : t.slots = s.slots := keeps .slots (by decide)
  have watch : t.watch = s.watch := keeps .watch (by decide)
  have seen : t.watchSeen = s.watchSeen := keeps .watchSeen (by decide)
  exact ⟨keeps .services (by decide), keeps .carriages (by decide), keeps .bindings (by decide),
    keeps .handed (by decide), slots ▸ follows_refl s.slots, by rw [entries], by rw [lanes], by rw [watch],
    fun _ h => by rw [seen]; exact h⟩

theorem Calm.modLane (s : State) (l : Nat) (f : Lane → Lane) : Calm s (s.modLane l f) :=
  ⟨rfl, rfl, rfl, rfl, follows_refl s.slots, rfl, by simp, rfl, fun _ h => h⟩

theorem Calm.modCounters (s : State) (l : Nat) (f : LaneCounters → LaneCounters) : Calm s (s.modCounters l f) :=
  Calm.modLane s l _

theorem Calm.modAsm (s : State) (l : Nat) (f : Assembler → Assembler) : Calm s (s.modAsm l f) := Calm.modLane s l _

theorem Calm.modRover (s : State) (l : Nat) (f : Rover → Rover) : Calm s (s.modRover l f) := Calm.modLane s l _

theorem Calm.modEntry (s : State) (e : Nat) (f : PlanEntry → PlanEntry) : Calm s (s.modEntry e f) :=
  ⟨rfl, rfl, rfl, rfl, follows_refl s.slots, by simp, rfl, rfl, fun _ h => h⟩

theorem Calm.leavePrompt (s : State) (e : Nat) : Calm s (leavePrompt s e) :=
  Calm.of_within (leavePrompt_within s e) (by decide)

theorem Calm.modSlot {s : State} {k : Nat} {f : Slot → Slot} (h : (s.slot k).Follows (f (s.slot k))) :
    Calm s (s.modSlot k f) := by
  refine ⟨rfl, rfl, rfl, rfl, follows_modify fun x hx => ?_, rfl, rfl, rfl, fun _ h => h⟩
  have : s.slot k = x := by simp [State.slot, hx]
  rwa [this] at h

/-! ### The slot composer -/

/-- The feeds of a vacant slot stay absent, as long as the act marks none of its flows. -/
theorem refeedMarking_calm {s : State} {k : Nat} {marks : Nat → Bool}
    (h : s.slot k = Slot.vacant → ∀ i < 6, marks i = false) : Calm s (refeedMarking s k marks) := by
  refine Calm.modSlot ⟨fun vacant => ?_, fun live => ⟨live, rfl, rfl, rfl⟩, fun _ => by simp⟩
  have flows : ((List.range 6).map fun i =>
      (Slot.vacant.flows.getD i OutFlow.fresh).take (s.feedOf Slot.vacant i) (marks i)) = Slot.vacant.flows := by
    simp [List.range_succ, Slot.vacant, OutFlow.take, State.feedOf, OutFlow.fresh, h vacant]
  rw [vacant, flows]

theorem refeed_calm (s : State) (k : Nat) : Calm s (refeed s k) := refeedMarking_calm fun _ _ _ => rfl

/-- A rebinding marks no flow of a vacant slot. -/
theorem rebindingMarks_vacant (c had has i : Nat) (hi : i < 6) :
    Slot.vacant.rebindingMarks c had has i = false := by
  refine Slot.rebindingMarks_unfed _ _ _ _ _ hi fun j _ => ?_
  have feed : (Slot.vacant.flows.getD j OutFlow.fresh).feed = none := by
    rw [List.getD_eq_getElem?_getD, show Slot.vacant.flows = List.replicate 6 OutFlow.fresh from rfl,
      List.getElem?_replicate]
    split <;> rfl
  simp only [Slot.fedBy, feed]
  rfl

theorem refeedAll_calm (s : State) (c had : Nat) : Calm s (refeedAll s c had) :=
  Calm.foldl (fun s k => refeedMarking_calm fun vacant i hi => by rw [vacant]; exact rebindingMarks_vacant c had _ i hi)
    slotOrder s

theorem enterDark_calm {s : State} {k : Nat} (live : (s.slot k).state ≠ .vacant) : Calm s (enterDark s k) :=
  (Calm.modSlot (Slot.Follows.of_live live (by nofun) rfl rfl rfl rfl)).trans (refeed_calm _ k)

theorem armSlot_calm {s : State} {k : Nat} (live : (s.slot k).state ≠ .vacant) (w : Nat) : Calm s (armSlot s k w) :=
  (Calm.modSlot (Slot.Follows.of_live live (by nofun) rfl rfl rfl rfl)).trans (refeed_calm _ k)

theorem cancelChangeover_calm {s : State} {k : Nat} (live : (s.slot k).state ≠ .vacant) :
    Calm s (cancelChangeover s k) :=
  (Calm.modSlot (Slot.Follows.of_live live (by nofun) rfl rfl rfl rfl)).trans (refeed_calm _ k)

theorem moveTo_calm (s : State) (k : Nat) (w : Option Nat) : Calm s (moveTo s k w) := by
  have live : ∀ st, (s.slot k).state = st → st ≠ .vacant → (s.slot k).state ≠ .vacant := fun st h hne => h ▸ hne
  unfold moveTo
  split
  · exact Calm.refl s
  · exact Calm.refl s
  · exact armSlot_calm (live _ ‹_› (by decide)) _
  · exact enterDark_calm (live _ ‹_› (by decide))
  · exact Calm.ite (fun _ => Calm.refl s) fun _ => armSlot_calm (live _ ‹_› (by decide)) _
  · exact Calm.ite (fun _ => Calm.refl s) fun _ => Calm.ite (fun _ => cancelChangeover_calm (live _ ‹_› (by decide)))
      fun _ => armSlot_calm (live _ ‹_› (by decide)) _
  · exact Calm.ite (fun _ => cancelChangeover_calm (live _ ‹_› (by decide)))
      fun _ => enterDark_calm (live _ ‹_› (by decide))
  · have splicing := live _ ‹_› (by decide)
    exact Calm.modSlot (Slot.Follows.of_live splicing splicing rfl rfl rfl rfl)

/-- The wanted carriage of a vacant slot is none, and the slot is as it was. -/
theorem reviewSlot_calm (s : State) (k : Nat) : Calm s (reviewSlot s k) := by
  refine Calm.trans (Calm.modSlot ⟨fun vacant => ?_, fun live => ⟨live, rfl, rfl, rfl⟩, id⟩) (moveTo_calm _ k _)
  rw [vacant]
  rfl

theorem completeSplice_calm {s : State} {k : Nat} (live : (s.slot k).state ≠ .vacant) : Calm s (completeSplice s k) :=
  (Calm.modSlot (Slot.Follows.of_live live (by nofun) rfl rfl rfl rfl)).trans (refeed_calm _ k)

theorem endSplice_calm {s : State} {k : Nat} (live : (s.slot k).state ≠ .vacant) : Calm s (endSplice s k) := by
  refine Calm.ite (fun _ => ?_) fun _ => completeSplice_calm live
  refine ((completeSplice_calm live).trans (Calm.modSlot ?_)).trans (reviewSlot_calm _ k)
  exact ⟨fun vacant => by rw [vacant]; rfl, fun live => ⟨live, rfl, rfl, rfl⟩, id⟩

theorem spliceStep_calm (s : State) (k : Nat) (name : BindingName) (c : Cell) :
    Calm s (spliceStep s k name c) := by
  refine Calm.ite (fun h => ?_) fun _ => Calm.refl s
  have live : (s.slot k).state ≠ .vacant := by
    simp only [Bool.and_eq_true, decide_eq_true_eq] at h
    simp [h.1]
  refine Calm.ite (fun _ => ?_) fun _ => Calm.ite (fun _ => ?_) fun _ => Calm.refl s
  · exact (Calm.modSlot (Slot.Follows.of_live live (by nofun) rfl rfl rfl rfl)).trans (refeed_calm _ k)
  · exact (Calm.modSlot (Slot.Follows.of_live live (by nofun) rfl rfl rfl rfl)).trans (refeed_calm _ k)

theorem switchStep_calm (s : State) (k : Nat) (name : BindingName) (c : Cell) :
    Calm s (switchStep s k name c) := by
  refine Calm.ite (fun h => ?_) fun _ => Calm.refl s
  have live : (s.slot k).state ≠ .vacant := by
    simp only [Bool.and_eq_true, decide_eq_true_eq] at h
    simp [h.1.1]
  exact (Calm.modSlot (Slot.Follows.of_live live live rfl rfl rfl rfl)).trans (refeed_calm _ k)

/-- What a cell offered to a slot changes of the slots: the queue or the overflow count of that slot. -/
theorem offerCell_slots (s : State) (k : Nat) (c : Cell) : ∃ g : Slot → Slot,
    (offerCell s k c).slots = s.slots.modify k g ∧ ∀ x, (g x).state = x.state ∧ (g x).primary = x.primary ∧
      (g x).fallback = x.fallback ∧ (g x).baseFlow = x.baseFlow ∧ (g x).flows = x.flows := by
  unfold offerCell
  split
  · exact ⟨fun x => { x with queue := x.queue ++ [c] }, rfl, fun x => ⟨rfl, rfl, rfl, rfl, rfl⟩⟩
  · exact ⟨fun x => { x with overflows := saturate Config.counter32 (x.overflows + 1) }, rfl,
      fun x => ⟨rfl, rfl, rfl, rfl, rfl⟩⟩

theorem flowFedBy_vacant {s : State} {k : Nat} (h : s.slot k = Slot.vacant) (i : Nat) (name : BindingName) :
    s.flowFedBy k i name = false := by
  have feed : (Slot.vacant.flows.getD i OutFlow.fresh).feed = none := by
    rw [List.getD_eq_getElem?_getD, show Slot.vacant.flows = List.replicate 6 OutFlow.fresh from rfl,
      List.getElem?_replicate]
    split <;> rfl
  simp only [State.flowFedBy, h, feed]

theorem offerOnFlow_calm {s : State} {k : Nat} (h : s.slot k ≠ Slot.vacant) (i : Nat) (c : Cell) :
    Calm s (offerOnFlow s k i c) := by
  have within := offerOnFlow_within s k i c
  have keeps : ∀ p ∉ [Part.slots, .buffers], p.alike s (offerOnFlow s k i c) := within
  have entries : (offerOnFlow s k i c).entries = s.entries := keeps .entries (by decide)
  have lanes : (offerOnFlow s k i c).lanes = s.lanes := keeps .lanes (by decide)
  have watch : (offerOnFlow s k i c).watch = s.watch := keeps .watch (by decide)
  have seen : (offerOnFlow s k i c).watchSeen = s.watchSeen := keeps .watchSeen (by decide)
  refine ⟨keeps .services (by decide), keeps .carriages (by decide), keeps .bindings (by decide),
    keeps .handed (by decide), ?_, by rw [entries], by rw [lanes], by rw [watch], fun _ h => by rw [seen]; exact h⟩
  obtain ⟨g, slots, hg⟩ := offerCell_slots (s.modSlot k fun x =>
    { x with flows := x.flows.modify i fun f => { f with run := f.run + 1, restart := false } }) k
    (renumber (s.slot k) i c)
  unfold offerOnFlow
  rw [slots, State.modSlot_slots, modify_modify_same]
  refine follows_modify fun x hx => ?_
  have hk : s.slot k = x := by simp [State.slot, hx]
  obtain ⟨state, primary, fallback, base, flows⟩ := hg
    { x with flows := x.flows.modify i fun f => { f with run := f.run + 1, restart := false } }
  exact ⟨fun vacant => absurd (hk.trans vacant) h, fun live => ⟨by rw [state]; exact live, primary, fallback, base⟩,
    fun len => by rw [flows]; simpa using len⟩

theorem offerStep_calm (s : State) (k : Nat) (name : BindingName) (c : Cell) : Calm s (offerStep s k name c) := by
  refine Calm.foldl (fun s i => Calm.ite (fun fed => ?_) fun _ => Calm.refl s) _ s
  refine offerOnFlow_calm (fun vacant => ?_) i c
  rw [flowFedBy_vacant vacant] at fed
  cases fed

theorem endStep_calm (s : State) (k : Nat) : Calm s (endStep s k) := by
  refine Calm.ite (fun h => ?_) fun _ => Calm.refl s
  simp only [Bool.and_eq_true, decide_eq_true_eq] at h
  exact endSplice_calm (by simp [h.1])

theorem slotTakesCell_calm (s : State) (k : Nat) (name : BindingName) (c : Cell) :
    Calm s (slotTakesCell s k name c) := by
  refine Calm.ite (fun _ => ?_) fun _ => Calm.refl s
  exact (((spliceStep_calm s k name c).trans (switchStep_calm _ k name c)).trans (offerStep_calm _ k name c)).trans
    (endStep_calm _ k)

theorem forwardCell_calm (s : State) (name : BindingName) (c : Cell) : Calm s (forwardCell s name c) :=
  Calm.foldl (fun s k => slotTakesCell_calm s k name c) slotOrder s

theorem slotLosesCarriage_calm (s : State) (c k : Nat) : Calm s (slotLosesCarriage s c k) := by
  have live : ∀ st, (s.slot k).state = st → st ≠ .vacant → (s.slot k).state ≠ .vacant := fun st h hne => h ▸ hne
  have off : (s.slot k).state ≠ .vacant → Calm s (refeed (s.modSlot k fun y => { y with onAir := none }) k) := fun h =>
    (Calm.modSlot (Slot.Follows.of_live h h rfl rfl rfl rfl)).trans (refeed_calm _ k)
  unfold slotLosesCarriage
  simp only
  split
  · exact Calm.refl s
  · exact Calm.refl s
  · exact Calm.ite (fun _ => enterDark_calm (live _ ‹_› (by decide))) fun _ => Calm.refl s
  · have armed := live _ ‹_› (by decide)
    refine Calm.ite (fun _ => Calm.ite (fun _ => ?_) fun _ => enterDark_calm armed)
      fun _ => Calm.ite (fun _ => off armed) fun _ => Calm.refl s
    exact (Calm.modSlot (Slot.Follows.of_live armed (by nofun) rfl rfl rfl rfl)).trans (refeed_calm _ k)
  · have splicing := live _ ‹_› (by decide)
    exact Calm.ite (fun _ => enterDark_calm splicing)
      fun _ => Calm.ite (fun _ => off splicing) fun _ => Calm.refl s

theorem slotsLoseCarriage_calm (s : State) (c : Nat) : Calm s (slotsLoseCarriage s c) :=
  Calm.foldl (fun s k => slotLosesCarriage_calm s c k) slotOrder s

theorem deliver_calm (s0 s : State) : Calm s (deliver s0 s) :=
  Calm.foldl (fun t k => Calm.ite (fun _ => reviewSlot_calm t k) fun _ => Calm.refl t) slotOrder s

theorem armedExpired_calm {s : State} {k : Nat} (live : (s.slot k).state ≠ .vacant) : Calm s (armedExpired s k) :=
  Calm.modSlot (Slot.Follows.of_live live live rfl rfl rfl rfl)

theorem slotReported_calm (s : State) (k : Nat) : Calm s (s.modSlot k Slot.reported) := by
  have keeps : (s.slot k).reported.state = (s.slot k).state ∧ (s.slot k).reported.primary = (s.slot k).primary ∧
      (s.slot k).reported.fallback = (s.slot k).fallback ∧ (s.slot k).reported.baseFlow = (s.slot k).baseFlow ∧
      (s.slot k).reported.flows = (s.slot k).flows := by
    unfold Slot.reported
    split <;> simp
  obtain ⟨state, primary, fallback, base, flows⟩ := keeps
  exact Calm.modSlot ⟨fun vacant => by rw [vacant]; rfl, fun live => ⟨by rw [state]; exact live, primary, fallback, base⟩,
    fun h => by rw [flows]; exact h⟩

/-! ### The port -/

theorem store_calm (s : State) (y : Store) : Calm s { s with store := y } :=
  ⟨rfl, rfl, rfl, rfl, follows_refl s.slots, rfl, rfl, rfl, fun _ h => h⟩

theorem mgmt_calm (s : State) (y : Management) : Calm s { s with mgmt := y } :=
  ⟨rfl, rfl, rfl, rfl, follows_refl s.slots, rfl, rfl, rfl, fun _ h => h⟩

theorem serveSlot_calm (s : State) (k : Nat) : Calm s (serveSlot s k) := by
  unfold serveSlot
  split
  · exact Calm.refl s
  · rename_i c rest queue
    refine Calm.trans (Calm.modSlot (k := k) (f := fun x => { x with queue := rest }) ?_) (store_calm _ _)
    refine ⟨fun vacant => ?_, fun live => ⟨live, rfl, rfl, rfl⟩, id⟩
    rw [vacant] at queue
    cases queue

theorem serve_calm (s : State) (choice : Choice) : Calm s (serve s choice) := by
  cases choice with
  | control =>
    simp only [serve, serveControl]
    split
    · exact store_calm s _
    · exact store_calm s _
    · exact Calm.refl s
  | pressuredSlot k => exact (serveSlot_calm s k).trans (store_calm _ _)
  | otherSlot k => exact serveSlot_calm s k
  | void => exact store_calm s _

/-! ### Rover control -/

theorem takeEntry_calm (s : State) (l e : Nat) : Calm s (takeEntry s l e) := by
  refine Calm.trans ?_ (Calm.modRover _ l _)
  refine Calm.trans ?_ (Calm.modLane _ l _)
  refine Calm.trans (t := leavePrompt (s.modEntry e fun p => { p with visitingLane := some l }) e) ?_
    (Calm.of_within (surveyPointer_within _ e) (by decide))
  exact (Calm.modEntry s e _).trans (Calm.leavePrompt _ e)

theorem claim_calm (s : State) (l : Nat) : Calm s (claim s l) := by
  refine Calm.ite (fun _ => ?_) fun _ => Calm.refl s
  split
  · exact takeEntry_calm s l _
  · exact Calm.modRover s l _

theorem pausedClaims_calm (s : State) : Calm s (pausedClaims s) :=
  Calm.foldl (fun s l => Calm.ite (fun _ => claim_calm s l) fun _ => Calm.refl s) _ s

theorem settleNotice_calm (s0 s : State) : Calm s (settleNotice s0 s) := mgmt_calm s _

theorem noteRestart_calm (s : State) : Calm s (noteRestart s) := Calm.of_within (noteRestart_within s) (by decide)

theorem admitCommand_calm (s : State) (c : Cell) : Calm s (admitCommand s c) :=
  Calm.of_within (admitCommand_within s c) (by decide)

theorem writeRecord_calm (s : State) (kind : RecordKind) (e : Nat) (key : Key) (c : Option Nat) :
    Calm s (writeRecord s kind e key c) := Calm.of_within (writeRecord_within s kind e key c) (by decide)

theorem offerRecord_calm (s : State) (kind : RecordKind) (e : Nat) (key : Key) (c : Nat) :
    Calm s (offerRecord s kind e key c) := Calm.of_within (offerRecord_within s kind e key c) (by decide)

end Sys2Proof.Machine
end

section
namespace Sys2Proof.Machine

open Sys2Proof Host

/-! ## What the order of the catalogue depends on (R7, R11) -/

/-- The indices and keys of the Service Table. -/
def State.serviceKeys (s : State) : List (Nat × Key) := s.services.map fun x => (x.1, x.2.key)

/-- The indices, entries and services of the Carriage Table. -/
def State.carriageKeys (s : State) : List (Nat × Nat × Key) :=
  s.carriages.map fun x => (x.1, x.2.entry, x.2.service)

theorem serviceKeys_eq_of_map {s t : State} (g : Nat × Service → Service) (hg : ∀ x, (g x).key = x.2.key)
    (h : t.services = s.services.map fun x => (x.1, g x)) : t.serviceKeys = s.serviceKeys := by
  simp [State.serviceKeys, h, hg, Function.comp_def]

theorem carriageKeys_eq_of_map {s t : State} (f : Nat × Carriage → Carriage)
    (hf : ∀ x ∈ s.carriages, (f x).entry = x.2.entry ∧ (f x).service = x.2.service)
    (h : t.carriages = s.carriages.map fun x => (x.1, f x)) : t.carriageKeys = s.carriageKeys := by
  unfold State.carriageKeys
  rw [h, List.map_map]
  refine List.map_congr_left fun x hx => ?_
  obtain ⟨entry, service⟩ := hf x hx
  simp [entry, service]

theorem carriageKeys_replaceAt {s t : State} {c : Nat} {x y : Carriage} (ho : TableOrdered s.carriages)
    (hx : s.carriage c = some x) (entry : y.entry = x.entry) (service : y.service = x.service)
    (h : t.carriages = replaceAt s.carriages c y) : t.carriageKeys = s.carriageKeys := by
  refine carriageKeys_eq_of_map (fun z => if z.1 = c then y else z.2) (fun z hz => ?_) h
  by_cases hc : z.1 = c
  · have : x = z.2 := by
      have := tableGet_of_mem ho hz
      rw [hc] at this
      exact Option.some.inj (hx.symm.trans this)
    simp [hc, entry, service, this]
  · simp [hc]

/-- The law speaks of nothing but those keys. -/
theorem catalogueOrdered_iff (s : State) : s.CatalogueOrdered ↔
    (s.serviceKeys.Pairwise fun a b => a.1 < b.1) ∧ (s.carriageKeys.Pairwise fun a b => a.1 < b.1) ∧
      (s.serviceKeys.map Prod.snd).Nodup ∧ (s.carriageKeys.map Prod.snd).Nodup ∧
      (∀ x ∈ s.serviceKeys, x.1 < 512) ∧ (∀ x ∈ s.carriageKeys, x.1 < 1024) ∧
      ∀ x ∈ s.carriageKeys, x.2.2 ∈ s.serviceKeys.map Prod.snd := by
  simp only [State.CatalogueOrdered, State.serviceKeys, State.carriageKeys, List.pairwise_map, List.map_map,
    List.forall_mem_map, State.service_isSome]
  rfl

theorem catalogueOrdered_of_keys {s t : State} (services : t.serviceKeys = s.serviceKeys)
    (carriages : t.carriageKeys = s.carriageKeys) (h : s.CatalogueOrdered) : t.CatalogueOrdered := by
  rw [catalogueOrdered_iff, services, carriages, ← catalogueOrdered_iff]
  exact h

theorem catalogueOrdered_of_eq {s t : State} (services : t.services = s.services)
    (carriages : t.carriages = s.carriages) (h : s.CatalogueOrdered) : t.CatalogueOrdered :=
  catalogueOrdered_of_keys (by rw [State.serviceKeys, services]; rfl) (by rw [State.carriageKeys, carriages]; rfl) h

theorem createService_some {s t : State} {key : Key} {name : List Byte} (h : createService s key name = some t) :
    ∃ i, lowestFree s.services Config.maxServices = some i ∧
      t = { s with services := tableSet s.services i (Service.fresh key name) } := by
  unfold createService at h
  obtain ⟨i, free, rfl⟩ := Option.map_eq_some_iff.1 h
  exact ⟨i, free, rfl⟩

/-- A new record keeps the order, when its key has none. -/
theorem createService_ordered {s t : State} {key : Key} {name : List Byte} (new : s.service key = none)
    (h : createService s key name = some t) (hs : s.CatalogueOrdered) : t.CatalogueOrdered := by
  obtain ⟨i, free, rfl⟩ := createService_some h
  obtain ⟨below, vacant⟩ := lowestFree_some free
  obtain ⟨so, co, keys, pairs, sBelow, cBelow, recorded⟩ := hs
  have perm := tableSet_perm (Service.fresh key name) vacant
  refine ⟨tableOrdered_set _ so vacant, co, ?_, pairs, fun x hx => ?_, cBelow, fun x hx => ?_⟩
  · rw [(perm.map _).nodup_iff, List.map_cons, List.nodup_cons]
    refine ⟨fun hm => ?_, keys⟩
    obtain ⟨x, hx, hk⟩ := List.mem_map.1 hm
    exact (State.service_eq_none s key).1 new x hx hk
  · rcases (mem_tableSet vacant x).1 hx with rfl | hx
    · exact below
    · exact sBelow x hx
  · have := recorded x hx
    rw [State.service_isSome] at this ⊢
    exact (perm.map fun x => x.2.key).mem_iff.2 (List.mem_cons_of_mem _ this)

/-- Freeing a record that is not held keeps the order: no carriage has lost its record. -/
theorem freeIfUnheld_ordered {s : State} (key : Key) (hs : s.CatalogueOrdered) :
    (freeIfUnheld s key).CatalogueOrdered := by
  rcases freeIfUnheld_cases s key with h | ⟨unheld, h⟩ <;> rw [h]
  · exact hs
  obtain ⟨so, co, keys, pairs, sBelow, cBelow, recorded⟩ := hs
  refine ⟨so.filter _, co, (List.Sublist.map _ List.filter_sublist).nodup keys, pairs,
    fun x hx => sBelow x (List.mem_filter.1 hx).1, cBelow, fun x hx => ?_⟩
  have found := recorded x hx
  rw [State.service_isSome, List.mem_map] at found ⊢
  obtain ⟨v, hv, hk⟩ := found
  refine ⟨v, List.mem_filter.2 ⟨hv, ?_⟩, hk⟩
  have : x.2.service ≠ key := (held_eq_false unheld).1 x hx
  rw [hk]
  simpa using this

/-- A carriage less keeps the order. -/
theorem erase_ordered {s t : State} {c : Nat} (services : t.serviceKeys = s.serviceKeys)
    (carriages : t.carriages = tableErase s.carriages c) (hs : s.CatalogueOrdered) : t.CatalogueOrdered := by
  rw [catalogueOrdered_iff] at hs ⊢
  obtain ⟨so, co, keys, pairs, sBelow, cBelow, recorded⟩ := hs
  have sub : t.carriageKeys.Sublist s.carriageKeys := by
    rw [State.carriageKeys, carriages]
    exact List.Sublist.map _ List.filter_sublist
  rw [services]
  exact ⟨so, co.sublist sub, keys, (sub.map _).nodup pairs, sBelow, fun x hx => cBelow x (sub.subset hx),
    fun x hx => recorded x (sub.subset hx)⟩

/-- A new carriage keeps the order, when its service has a record and its entry has no carriage of it. -/
theorem create_ordered {s t : State} {c : Nat} {y : Carriage} (free : lowestFree s.carriages Config.maxCarriages = some c)
    (recorded : (s.service y.service).isSome) (new : ∀ x ∈ s.carriages, x.2.entry = y.entry → x.2.service ≠ y.service)
    (services : t.services = s.services) (carriages : t.carriages = tableSet s.carriages c y)
    (hs : s.CatalogueOrdered) : t.CatalogueOrdered := by
  obtain ⟨below, vacant⟩ := lowestFree_some free
  obtain ⟨so, co, keys, pairs, sBelow, cBelow, known⟩ := hs
  have perm := tableSet_perm y vacant
  have record : ∀ key, t.service key = s.service key := fun key => by rw [State.service, services]; rfl
  refine ⟨services ▸ so, carriages ▸ tableOrdered_set y co vacant, services ▸ keys, ?_, services ▸ sBelow,
    fun x hx => ?_, fun x hx => ?_⟩
  · rw [carriages, (perm.map _).nodup_iff, List.map_cons, List.nodup_cons]
    refine ⟨fun hm => ?_, pairs⟩
    obtain ⟨x, hx, hk⟩ := List.mem_map.1 hm
    obtain ⟨entry, service⟩ := Prod.mk.inj hk
    exact new x hx entry service
  · rw [carriages] at hx
    rcases (mem_tableSet vacant x).1 hx with rfl | hx
    · exact below
    · exact cBelow x hx
  · rw [carriages] at hx
    rw [record]
    rcases (mem_tableSet vacant x).1 hx with rfl | hx
    · exact recorded
    · exact known x hx

/-! ## Moves: the elementary changes of the catalogue, the bindings and the slots

Every step is a sequence of moves. Each law of the catalogue, the bindings and the lineup is shown of each move
once. -/

/-- A carriage changed in its figures and flags alone: it keeps its place, its components and its bindings, and its
state but for the three in which a carriage is scored (R18). -/
structure Carriage.Stands (x y : Carriage) : Prop where
  entry : y.entry = x.entry
  service : y.service = x.service
  components : y.components = x.components
  lane : y.lane = x.lane
  state : y.state = x.state ∨ x.state.isScored = true ∧ y.state.isScored = true

/-- A change that the ranking engine need not hear of (R23, R108, R113). -/
structure Carriage.RankedAs (x y : Carriage) : Prop where
  state : y.state = x.state
  selectable : y.selectable = x.selectable
  figure : y.surveyFigure.isSome = x.surveyFigure.isSome

/-- A service record changed in its name, its flags and its references alone. -/
structure Service.Stands (v w : Service) : Prop where
  key : w.key = v.key
  rankedList : w.rankedList = v.rankedList
  selected : w.selected = v.selected
  candidate : w.candidate = v.candidate
  confirmCount : w.confirmCount = v.confirmCount
  pinned : w.pinned = v.pinned
  bestProspect : w.bestProspect = v.bestProspect
  selectableCount : w.selectableCount = v.selectableCount

/-- Which entry's carriages may be bound on which lane, and in what state (R18). -/
abbrev BindRule := Nat → Option Nat → CarriageState → Prop

/-- The state with a new carriage at an index. -/
def withCarriage (s : State) (c : Nat) (y : Carriage) : State := { s with carriages := tableSet s.carriages c y }

/-- The elementary changes. `relists` allows those of the slot commands, which give slots their keys (R143 to R145);
`B` says where carriages may be bound. -/
inductive Move (relists : Bool) (B : BindRule) : State → State → Prop
  /-- A change that leaves the catalogue alone. -/
  | rest {s t : State} (calm : Calm s t) : Move relists B s t
  /-- Carriages change in figures and flags; what the ranking engine must hear of is handed on. -/
  | adjust {s t : State} (f : Nat × Carriage → Carriage) (hs : List Handed)
      (stands : ∀ x ∈ s.carriages, x.2.Stands (f x))
      (told : ∀ x ∈ s.carriages, x.2.RankedAs (f x) ∨ ∃ h ∈ hs, h.key = x.2.service)
      (result : t = { s with carriages := s.carriages.map fun x => (x.1, f x), handed := s.handed ++ hs }) :
      Move relists B s t
  /-- Service records change in names and flags. -/
  | record {s t : State} (g : Service → Service) (stands : ∀ v : Service, v.Stands (g v)) (refs : ∀ v, (g v).slotRefs = v.slotRefs)
      (result : t = { s with services := s.services.map fun x => (x.1, g x.2) }) : Move relists B s t
  /-- Bindings change in their counts. -/
  | tally {s t : State} (g : Binding → Binding) (stands : ∀ b, (g b).name = b.name ∧ (g b).refCount = b.refCount)
      (result : t = { s with bindings := s.bindings.map g }) : Move relists B s t
  /-- A carriage that holds no bindings makes a bind attempt (R15, R17, R19). -/
  | attempt {s : State} {c l : Nat} {mark : Bool} {x : Carriage} (found : s.carriage c = some x)
      (idle : x.state.holdsBindings = false) (rule : B x.entry (some l) (s.attempted l mark x).state) :
      Move relists B s (attemptBind s c l mark)
  /-- A carriage is shelved (R20). -/
  | shelve (s : State) (c : Nat) : Move relists B s (shelve s c)
  /-- A carriage is rebound with another list (R21). -/
  | rebind {s : State} {c l : Nat} {comps : List (Kind × Nat)} {timing : Option Nat} {x : Carriage}
      (found : s.carriage c = some x) (flows : (comps.map Prod.snd).Nodup)
      (rule : ∀ st, st = s.boundState l ∨ st = .incomplete → B x.entry (some l) st) :
      Move relists B s (rebind s c l comps timing)
  /-- A carriage is removed (R22). -/
  | remove (s : State) (c : Nat) : Move relists B s (removeCarriage s c)
  /-- A carriage is created and makes its bind attempt (R12). -/
  | create {s : State} {c l e : Nat} {v : Listed} {mark : Bool} (recorded : (s.service v.key).isSome)
      (new : ∀ x ∈ s.carriages, x.2.entry = e → x.2.service ≠ v.key)
      (free : lowestFree s.carriages Config.maxCarriages = some c) (flows : (v.components.map Prod.snd).Nodup)
      (rule : ∀ st, st = s.boundState l ∨ st = .incomplete → B e (some l) st) :
      Move relists B s (attemptBind (withCarriage s c (Carriage.created e v s.clock)) c l mark)
  /-- A service record is created (R8). -/
  | newService {s t : State} {key : Key} {name : List Byte} (new : s.service key = none)
      (created : createService s key name = some t) : Move relists B s t
  /-- A service record that is not held is freed (R9). -/
  | free (s : State) (key : Key) : Move relists B s (freeIfUnheld s key)
  /-- The services handed on are evaluated (R111). -/
  | evaluate (s : State) : Move relists B s (evaluateHanded s)
  /-- A service takes a pin, or loses it, and is handed on (R117). -/
  | pin {s : State} {key : Key} {p : Option Nat} (own : ∀ c, p = some c → s.belongs c key = true) :
      Move relists B s ((s.modService key fun v => { v with pinned := p }).hand key)
  /-- A slot command moves references and writes slots (R143 to R145). -/
  | relist {s t : State} (allowed : relists = true) (g : Service → Service) (stands : ∀ v : Service, v.Stands (g v))
      (services : t.services = s.services.map fun x => (x.1, g x.2)) (carriages : t.carriages = s.carriages)
      (bindings : t.bindings = s.bindings) (handed : t.handed = s.handed) (shaped : s.Shaped → t.Shaped) :
      Move relists B s t

theorem evaluateService_services (s : State) (key : Key) (scored : Option Nat) :
    (evaluateService s key scored).services =
      s.services.map fun x => (x.1, if x.2.key = key then s.evaluated x.2 scored else x.2) := by
  simp only [evaluateService, State.modService]
  refine List.map_congr_left fun x _ => ?_
  split <;> rfl

theorem modService_services_eq (s : State) (key : Key) (f : Service → Service) :
    (s.modService key f).services = s.services.map fun x => (x.1, if x.2.key = key then f x.2 else x.2) := by
  simp only [State.modService]
  refine List.map_congr_left fun x _ => ?_
  split <;> rfl

theorem modService_keys (s : State) (key : Key) (f : Service → Service) (hf : ∀ v, (f v).key = v.key) :
    (s.modService key f).serviceKeys = s.serviceKeys := by
  refine serviceKeys_eq_of_map (fun x => if x.2.key = key then f x.2 else x.2) (fun x => ?_)
    (modService_services_eq s key f)
  split <;> simp [hf]

theorem evaluated_key (s : State) (v : Service) (scored : Option Nat) : (s.evaluated v scored).key = v.key := by
  unfold State.evaluated
  simp only
  split <;> split <;> rfl

theorem evaluateHanded_keys (s : State) : (evaluateHanded s).serviceKeys = s.serviceKeys := by
  have fold : ∀ (keys : List Key) (t : State) (scored : Key → Option Nat),
      (keys.foldl (fun t key => evaluateService t key (scored key)) t).serviceKeys = t.serviceKeys := by
    intro keys
    induction keys with
    | nil => exact fun t _ => rfl
    | cons key keys ih =>
      intro t scored
      rw [List.foldl_cons, ih, evaluateService, modService_keys _ _ _ fun v => evaluated_key t v _]
  unfold evaluateHanded
  rw [fold]
  rfl

theorem evaluateHanded_carriages (s : State) : (evaluateHanded s).carriages = s.carriages :=
  evaluateHanded_within s .carriages (by decide)

theorem attemptBind_services (s : State) (c l : Nat) (mark : Bool) :
    (attemptBind s c l mark).services = s.services := attemptBind_within s c l mark .services (by decide)

theorem serviceKeys_of_services {s t : State} (h : t.services = s.services) : t.serviceKeys = s.serviceKeys := by
  rw [State.serviceKeys, h]
  rfl

theorem attemptBind_ordered {s : State} (c l : Nat) (mark : Bool) (hs : s.CatalogueOrdered) :
    (attemptBind s c l mark).CatalogueOrdered := by
  cases hx : s.carriage c with
  | none => rw [attemptBind_none hx]; exact hs
  | some x =>
    exact catalogueOrdered_of_keys (serviceKeys_of_services (attemptBind_services s c l mark))
      (carriageKeys_replaceAt hs.carriages_ordered hx (attempted_entry ..) (attempted_service ..)
        (attemptBind_carriages hs.carriages_ordered hx l mark)) hs

theorem shelve_ordered {s : State} (c : Nat) (hs : s.CatalogueOrdered) : (shelve s c).CatalogueOrdered := by
  cases hx : s.carriage c with
  | none => rw [shelve_none hx]; exact hs
  | some x =>
    exact catalogueOrdered_of_keys (serviceKeys_of_services (shelve_within s c .services (by decide)))
      (carriageKeys_replaceAt hs.carriages_ordered hx (y := x.shelvedNow) rfl rfl
        (shelve_carriages hs.carriages_ordered hx)) hs

theorem removeCarriage_ordered {s : State} (c : Nat) (hs : s.CatalogueOrdered) :
    (removeCarriage s c).CatalogueOrdered := by
  cases hx : s.carriage c with
  | none => rw [removeCarriage_none hx]; exact hs
  | some x =>
    have erased : (removed s c x).CatalogueOrdered :=
      erase_ordered ((serviceKeys_of_services (removed_services s c x)).trans (modService_keys s _ _ fun _ => rfl))
        (removed_carriages hs.carriages_ordered hx) hs
    rw [removeCarriage_some hx]
    exact catalogueOrdered_of_eq (State.hand_services ..) (State.hand_carriages ..)
      (freeIfUnheld_ordered x.service erased)

/-- Every move keeps the order of the catalogue. -/
theorem Move.ordered {r : Bool} {B : BindRule} {s t : State} (h : Move r B s t) (hs : s.CatalogueOrdered) :
    t.CatalogueOrdered := by
  cases h with
  | rest calm => exact catalogueOrdered_of_eq calm.services calm.carriages hs
  | adjust f handed stands told result =>
    subst result
    exact catalogueOrdered_of_keys (s := s) rfl
      (carriageKeys_eq_of_map f (fun x hx => ⟨(stands x hx).entry, (stands x hx).service⟩) rfl) hs
  | record g stands refs result =>
    subst result
    exact catalogueOrdered_of_keys (serviceKeys_eq_of_map (fun x => g x.2) (fun x => (stands x.2).key) rfl) rfl hs
  | tally g stands result => subst result; exact hs
  | attempt found idle rule => exact attemptBind_ordered _ _ _ hs
  | shelve c => exact shelve_ordered c hs
  | rebind found flows rule =>
    refine catalogueOrdered_of_keys (serviceKeys_of_services (rebind_within s _ _ _ _ .services (by decide)))
      (carriageKeys_replaceAt hs.carriages_ordered found ?_ ?_ (rebind_carriages hs.carriages_ordered found _ _ _)) hs
    · rw [attempted_entry]; rfl
    · rw [attempted_service]; rfl
  | remove c => exact removeCarriage_ordered c hs
  | create recorded new free flows rule =>
    exact attemptBind_ordered _ _ _ (create_ordered free recorded new rfl rfl hs)
  | newService new created => exact createService_ordered new created hs
  | free key => exact freeIfUnheld_ordered key hs
  | evaluate =>
    exact catalogueOrdered_of_keys (evaluateHanded_keys s) (by rw [State.carriageKeys, evaluateHanded_carriages]; rfl) hs
  | pin own =>
    refine catalogueOrdered_of_keys (s := s) ?_ rfl hs
    exact modService_keys s _ (fun v => { v with pinned := _ }) fun _ => rfl
  | relist allowed g stands services carriages bindings handed shaped =>
    exact catalogueOrdered_of_keys (serviceKeys_eq_of_map (fun x => g x.2) (fun x => (stands x.2).key) services)
      (by rw [State.carriageKeys, carriages]; rfl) hs

/-- From an ordered catalogue, `t` is reached from `s` by moves. -/
def Leads (r : Bool) (B : BindRule) (s t : State) : Prop :=
  s.CatalogueOrdered → Relation.ReflTransGen (Move r B) s t

theorem moves_ordered {r : Bool} {B : BindRule} {s t : State} (h : Relation.ReflTransGen (Move r B) s t)
    (hs : s.CatalogueOrdered) : t.CatalogueOrdered := by
  induction h with
  | refl => exact hs
  | tail _ m ih => exact m.ordered ih

theorem Leads.refl {r : Bool} {B : BindRule} (s : State) : Leads r B s s := fun _ => .refl

theorem Leads.ordered {r : Bool} {B : BindRule} {s t : State} (h : Leads r B s t) (hs : s.CatalogueOrdered) :
    t.CatalogueOrdered := moves_ordered (h hs) hs

theorem Leads.trans {r : Bool} {B : BindRule} {s t u : State} (h : Leads r B s t) (g : Leads r B t u) :
    Leads r B s u := fun hs => (h hs).trans (g (h.ordered hs))

theorem Move.leads {r : Bool} {B : BindRule} {s t : State} (h : Move r B s t) : Leads r B s t := fun _ => .single h

theorem Calm.leads {r : Bool} {B : BindRule} {s t : State} (h : Calm s t) : Leads r B s t := (Move.rest h).leads

/-- What is shown of a state under the order of its catalogue. -/
theorem Leads.of_ordered {r : Bool} {B : BindRule} {s t : State} (h : s.CatalogueOrdered → Leads r B s t) :
    Leads r B s t := fun hs => h hs hs

theorem Leads.ite {r : Bool} {B : BindRule} {s t u : State} {b : Prop} [Decidable b] (h : b → Leads r B s t)
    (g : ¬ b → Leads r B s u) : Leads r B s (if b then t else u) := by
  split
  · exact h ‹_›
  · exact g ‹_›

theorem Leads.foldl {r : Bool} {B : BindRule} {α : Type} {f : State → α → State}
    (h : ∀ s a, Leads r B s (f s a)) (l : List α) (s : State) : Leads r B s (l.foldl f s) := by
  induction l generalizing s with
  | nil => exact Leads.refl s
  | cons a l ih => exact (h s a).trans (ih (f s a))

/-- A property that every move keeps, from an ordered catalogue, is kept by what moves lead to. -/
theorem Leads.keeps {r : Bool} {B : BindRule} {s t : State} {P : State → Prop}
    (step : ∀ u v, Move r B u v → u.CatalogueOrdered → P u → P v) (h : Leads r B s t) (hs : s.CatalogueOrdered)
    (hp : P s) : P t := by
  replace h := h hs
  induction h with
  | refl => exact hp
  | tail before m ih => exact step _ _ m (moves_ordered before hs) ih

end Sys2Proof.Machine
end

section
namespace Sys2Proof.Machine

open Sys2Proof Host

/-! ## Every operation is a sequence of moves -/

section

variable {r : Bool} {B : BindRule}

theorem mem_carriagesWhere {s : State} (ho : TableOrdered s.carriages) (p : Carriage → Bool) (c : Nat) :
    c ∈ s.carriagesWhere p ↔ ∃ x, s.carriage c = some x ∧ p x = true := by
  simp only [State.carriagesWhere, List.mem_map, List.mem_filter, State.carriage, tableGet_eq_some ho]
  constructor
  · rintro ⟨x, ⟨hx, hp⟩, rfl⟩
    exact ⟨x.2, hx, hp⟩
  · rintro ⟨x, hx, hp⟩
    exact ⟨(c, x), ⟨hx, hp⟩, rfl⟩

theorem carriagesWhere_nodup {s : State} (ho : TableOrdered s.carriages) (p : Carriage → Bool) :
    (s.carriagesWhere p).Nodup := (ho.filter fun x => p x.2).keys_nodup

/-! ### Changes of one carriage -/

theorem Carriage.Stands.refl (x : Carriage) : x.Stands x := ⟨rfl, rfl, rfl, rfl, .inl rfl⟩

theorem Carriage.RankedAs.refl (x : Carriage) : x.RankedAs x := ⟨rfl, rfl, rfl⟩

/-- A change of one carriage in figures and flags, with what it hands on. -/
theorem Leads.adjustOne {s t : State} {c : Nat} {x : Carriage} (f : Carriage → Carriage) (hs : List Handed)
    (found : s.carriage c = some x) (stands : x.Stands (f x))
    (told : x.RankedAs (f x) ∨ ∃ h ∈ hs, h.key = x.service)
    (result : t = { s.modCarriage c f with handed := s.handed ++ hs }) : Leads r B s t := by
  refine Leads.of_ordered fun ordered => Move.leads ?_
  have only : ∀ z ∈ s.carriages, z.1 = c → z.2 = x := fun z hz hc => by
    have := ordered.carriage_of_mem hz
    rw [hc, found] at this
    exact (Option.some.inj this).symm
  refine Move.adjust (fun z => if z.1 = c then f z.2 else z.2) hs (fun z hz => ?_) (fun z hz => ?_) ?_
  · by_cases hc : z.1 = c
    · simpa [hc, only z hz hc] using stands
    · simpa [hc] using Carriage.Stands.refl z.2
  · by_cases hc : z.1 = c
    · simpa [hc, only z hz hc] using told
    · exact .inl (by simpa [hc] using Carriage.RankedAs.refl z.2)
  · rw [result, State.modCarriage_eq_map]

theorem Leads.modCarriage {s : State} {c : Nat} {x : Carriage} (f : Carriage → Carriage)
    (found : s.carriage c = some x) (stands : x.Stands (f x)) (ranked : x.RankedAs (f x)) :
    Leads r B s (s.modCarriage c f) :=
  Leads.adjustOne f [] found stands (.inl ranked) (by rw [List.append_nil]; rfl)

theorem Leads.modCarriage_hand {s : State} {c : Nat} {x : Carriage} (f : Carriage → Carriage)
    (found : s.carriage c = some x) (stands : x.Stands (f x)) : Leads r B s ((s.modCarriage c f).hand x.service) :=
  Leads.adjustOne f [{ key := x.service, scored := none }] found stands
    (.inr ⟨_, List.mem_singleton_self _, rfl⟩) rfl

theorem Leads.modCarriage_handScored {s : State} {c : Nat} {x : Carriage} (f : Carriage → Carriage)
    (found : s.carriage c = some x) (stands : x.Stands (f x)) :
    Leads r B s ((s.modCarriage c f).handScored x.service c) :=
  Leads.adjustOne f [{ key := x.service, scored := some c }] found stands
    (.inr ⟨_, List.mem_singleton_self _, rfl⟩) rfl

/-- Handing a service on is a move by itself. -/
theorem Leads.hand (s : State) (key : Key) : Leads r B s (s.hand key) :=
  Move.leads (Move.adjust (fun x => x.2) [{ key := key, scored := none }] (fun x _ => Carriage.Stands.refl x.2)
    (fun x _ => .inl (Carriage.RankedAs.refl x.2)) (by simp [State.hand]))

/-- An unchanged index is one that the change of another leaves. -/
theorem modCarriage_at_none {s : State} {c : Nat} (f : Carriage → Carriage) (h : s.carriage c = none) :
    s.modCarriage c f = s := by
  rw [State.modCarriage_eq_map]
  have same : s.carriages.map (fun x => (x.1, if x.1 = c then f x.2 else x.2)) = s.carriages := by
    rw [List.map_congr_left (g := id) fun z hz => ?_, List.map_id]
    simp [tableGet_eq_none.1 h z hz]
  rw [same]

/-! ### Folds over carriages, each of which changes its own alone -/

/-- A fold over distinct carriages, each round of which changes its own alone: every round finds its carriage as the
fold found it. -/
theorem Leads.foldl_own {f : State → Nat → State} {I : State → Prop} {P : Carriage → Prop}
    (step : ∀ u c x, I u → u.carriage c = some x → P x → Leads r B u (f u c)) (keeps : ∀ u c, I u → I (f u c))
    (own : ∀ u c d, u.CatalogueOrdered → d ≠ c → (f u c).carriage d = u.carriage d) {cs : List Nat}
    (nodup : cs.Nodup) {s : State} (hI : I s) (h : ∀ c ∈ cs, ∃ x, s.carriage c = some x ∧ P x) :
    Leads r B s (cs.foldl f s) := by
  induction cs generalizing s with
  | nil => exact Leads.refl s
  | cons c cs ih =>
    obtain ⟨new, nodup'⟩ := List.nodup_cons.1 nodup
    obtain ⟨x, hx, hp⟩ := h c (List.mem_cons_self ..)
    refine Leads.of_ordered fun ordered => (step s c x hI hx hp).trans (ih nodup' (keeps s c hI) fun d hd => ?_)
    have : d ≠ c := fun e => new (e ▸ hd)
    rw [own s c d ordered this]
    exact h d (List.mem_cons_of_mem _ hd)

theorem attemptBind_own (s : State) (c l : Nat) (mark : Bool) (d : Nat) (ordered : s.CatalogueOrdered) (h : d ≠ c) :
    (attemptBind s c l mark).carriage d = s.carriage d := by
  cases hx : s.carriage c with
  | none => rw [attemptBind_none hx]
  | some x =>
    rw [State.carriage, attemptBind_carriages ordered.carriages_ordered hx, tableGet_replaceAt_other _ _ h]
    rfl

theorem retryBind_own (s : State) (c l d : Nat) (ordered : s.CatalogueOrdered) (h : d ≠ c) :
    (retryBind s c l).carriage d = s.carriage d := by
  unfold retryBind
  split
  · rfl
  · split
    · exact attemptBind_own s c l true d ordered h
    · rfl

/-! ### Lanes (R36 to R39) -/

theorem selectable_iff (x : Carriage) :
    x.selectable = true ↔ x.state = .usable ∧ x.laneDown = false ∧ x.stalled = false := by
  simp [Carriage.selectable, and_assoc]

theorem selectable_eq_false {x : Carriage} (h : x.state ≠ .usable) : x.selectable = false := by
  simp [Carriage.selectable, h]

theorem setLaneDown_leads (s : State) (c : Nat) (down : Bool) : Leads r B s (setLaneDown s c down) := by
  unfold setLaneDown
  split
  · exact Leads.refl s
  · rename_i x found
    refine Leads.ite (fun _ => ?_) fun unscored => ?_
    · exact Leads.modCarriage_hand _ found ⟨rfl, rfl, rfl, rfl, .inl rfl⟩
    · have idle : x.state ≠ .usable := fun e => unscored (by rw [e]; rfl)
      refine Leads.modCarriage _ found ⟨rfl, rfl, rfl, rfl, .inl rfl⟩ ⟨rfl, ?_, rfl⟩
      rw [selectable_eq_false idle, selectable_eq_false (by exact idle)]

theorem laneDownAll_leads (s : State) (l : Nat) (down : Bool) : Leads r B s (laneDownAll s l down) :=
  Leads.foldl (fun s c => setLaneDown_leads s c down) _ s

theorem moveParked_leads (s : State) (l : Nat) (new : ParkedState) : Leads r B s (moveParked s l new) :=
  Leads.ite (fun _ => (Calm.modLane s l _).leads)
    fun _ => ((Calm.modLane s l _).leads).trans (laneDownAll_leads _ l _)

theorem lockSeen_leads (s : State) (l : Nat) : Leads r B s (lockSeen s l) :=
  (moveParked_leads s l _).trans (Calm.modLane _ l _).leads

theorem lockMissing_leads (s : State) (l : Nat) : Leads r B s (lockMissing s l) := by
  unfold lockMissing
  split
  · exact (moveParked_leads s l _).trans (Calm.modLane _ l _).leads
  · exact (moveParked_leads s l _).trans (Calm.modLane _ l _).leads
  · exact moveParked_leads s l _

theorem staleSeen_leads (s : State) (l : Nat) : Leads r B s (staleSeen s l) := by
  unfold staleSeen
  split
  · exact (moveParked_leads s l _).trans (Calm.modLane _ l _).leads
  · exact Leads.refl s

theorem parkedSilence_leads (s : State) (l : Nat) : Leads r B s (parkedSilence s l) :=
  (moveParked_leads s l _).trans (Calm.modLane _ l _).leads

theorem lockExpired_leads (s : State) (l : Nat) : Leads r B s (lockExpired s l) :=
  (((Calm.modLane s l _).leads.trans (moveParked_leads _ l _)).trans (Calm.modCounters _ l _).leads).trans
    (Calm.modLane _ l _).leads

theorem parkedRestart_leads (s : State) (l : Nat) : Leads r B s (parkedRestart s l) :=
  (((Calm.modLane s l _).leads.trans (moveParked_leads _ l _)).trans (Calm.modLane _ l _).leads).trans
    (Calm.modAsm _ l _).leads

theorem countStatus_calm (s : State) (l : Nat) (rep : StatusReport) : Calm s (countStatus s l rep) :=
  (Calm.modLane s l _).trans (Calm.modLane _ l _)

theorem parkedStatus_leads (s : State) (l : Nat) (rep : StatusReport) : Leads r B s (parkedStatus s l rep) := by
  have counted : Leads r B s (countStatus s l rep) := (countStatus_calm s l rep).leads
  have margin : Leads r B s (takeMargin (countStatus s l rep) l rep) := counted.trans (Calm.modLane _ l _).leads
  unfold parkedStatus
  split
  · exact (counted.trans (Calm.modLane _ l _).leads).trans (parkedRestart_leads _ l)
  · exact Leads.ite (fun _ => margin.trans (lockSeen_leads _ l)) fun _ => margin.trans (lockMissing_leads _ l)
  · exact (counted.trans (Calm.modCounters _ l _).leads).trans (staleSeen_leads _ l)

/-! ### Window ends (R41, R86, R17) -/

/-- Scoring keeps a carriage among the scored, and leaves the state of any other (R99, R100). -/
theorem nextState_class (p : Policy) (st : CarriageState) (passed : Bool) (count z : Nat) :
    nextState p st passed count z = st ∨ st.isScored = true ∧ (nextState p st passed count z).isScored = true := by
  cases st with
  | probation => exact .inr ⟨rfl, by simp only [nextState]; split_ifs <;> rfl⟩
  | usable => exact .inr ⟨rfl, by simp only [nextState]; split_ifs <;> rfl⟩
  | faulted => exact .inr ⟨rfl, by simp only [nextState]; split_ifs <;> rfl⟩
  | shelved => exact .inl rfl
  | survey => exact .inl rfl
  | incomplete => exact .inl rfl

theorem scored_stands (x : Carriage) (p : Policy) (i : Inputs) : x.Stands (x.scored p i) :=
  ⟨rfl, rfl, rfl, rfl, nextState_class ..⟩

theorem scoreCarriage_leads (s : State) (l c : Nat) : Leads r B s (scoreCarriage s l c) := by
  unfold scoreCarriage
  split
  · exact Leads.refl s
  · rename_i x found
    exact Leads.modCarriage_handScored _ found (scored_stands ..)

theorem scoreLane_leads (s : State) (l : Nat) : Leads r B s (scoreLane s l) :=
  Leads.ite (fun _ => Leads.refl s) fun _ => Leads.foldl (fun s c => scoreCarriage_leads s l c) _ s

theorem resetCounters_leads (s : State) (l : Nat) : Leads r B s (resetCounters s l) := by
  refine Move.leads (Move.tally (fun b => if b.name.lane = l then
    { b with n := 0, g := 0, x := 0, peakJ := 0, deviationSeen := false } else b) (fun b => ?_) rfl)
  split <;> exact ⟨rfl, rfl⟩

theorem attempted_state_cases (s : State) (l : Nat) (mark : Bool) (x : Carriage) :
    (s.attempted l mark x).state = s.boundState l ∨ (s.attempted l mark x).state = .incomplete := by
  rw [attempted_state]
  split
  · exact .inl rfl
  · exact .inr rfl

theorem attemptBind_leads {s : State} {c l : Nat} {mark : Bool} {x : Carriage} (found : s.carriage c = some x)
    (idle : x.state.holdsBindings = false)
    (rule : ∀ st, st = s.boundState l ∨ st = .incomplete → B x.entry (some l) st) :
    Leads r B s (attemptBind s c l mark) :=
  Move.leads (Move.attempt found idle (rule _ (attempted_state_cases ..)))

/-- The states a bind attempt on a lane may leave depend on the lanes alone. -/
theorem boundState_of_lanes {s t : State} (h : t.lanes = s.lanes) (l : Nat) : t.boundState l = s.boundState l := by
  simp [State.boundState, State.lane, h]

theorem retryBind_leads {s : State} {c l : Nat} {x : Carriage} (found : s.carriage c = some x)
    (idle : x.state.holdsBindings = false)
    (rule : ∀ st, st = s.boundState l ∨ st = .incomplete → B x.entry (some l) st) :
    Leads r B s (retryBind s c l) := by
  simp only [retryBind, found]
  exact Leads.ite (fun _ => attemptBind_leads found idle rule) fun _ => Leads.refl s

/-- The retries of a lane, where its INCOMPLETE carriages may be bound on it. -/
theorem retryAll_leads {s : State} {l : Nat}
    (rule : ∀ x ∈ s.carriages, x.2.lane = some l → x.2.state = .incomplete →
      ∀ st, st = s.boundState l ∨ st = .incomplete → B x.2.entry (some l) st) : Leads r B s (retryAll s l) := by
  refine Leads.of_ordered fun ordered => ?_
  refine Leads.foldl_own (I := fun u => u.lanes = s.lanes)
    (P := fun x => x.state = .incomplete ∧ ∀ st, st = s.boundState l ∨ st = .incomplete → B x.entry (some l) st)
    (fun u c x lanes found hx => ?_) (fun u c lanes => ?_) (fun u c d ho h => retryBind_own u c l d ho h)
    (carriagesWhere_nodup ordered.carriages_ordered _) rfl fun c hc => ?_
  · exact retryBind_leads found (by rw [hx.1]; rfl) (by rw [boundState_of_lanes lanes]; exact hx.2)
  · exact (retryBind_within u c l .lanes (by decide)).trans lanes
  · obtain ⟨x, found, hp⟩ := (mem_carriagesWhere ordered.carriages_ordered _ c).1 hc
    simp only [Bool.and_eq_true, decide_eq_true_eq] at hp
    exact ⟨x, found, hp.2, rule (c, x) (State.carriage_mem found) hp.1 hp.2⟩

theorem laneHealth_calm (s : State) (l : Nat) : Calm s (laneHealth s l) :=
  Calm.ite (fun _ => Calm.modLane s l _) fun _ => Calm.refl s

theorem setMarks_leads (s : State) (l : Nat) : Leads r B s (setMarks s l) := by
  refine Move.leads (Move.adjust (fun x =>
    if x.2.lane = some l && x.2.state.isScored then { x.2 with wholeWindow := some true } else x.2) []
    (fun x _ => ?_) (fun x _ => .inl ?_) ?_)
  · split <;> exact ⟨rfl, rfl, rfl, rfl, .inl rfl⟩
  · split <;> exact ⟨rfl, rfl, rfl⟩
  · rw [List.append_nil]
    unfold setMarks
    congr 1
    exact List.map_congr_left fun x _ => by split <;> rfl

/-- Scoring leaves the INCOMPLETE carriages of a lane as they stand, and the lanes. -/
theorem windowEnd_leads {s : State} {l : Nat}
    (rule : ∀ x ∈ (resetCounters (scoreLane s l) l).carriages, x.2.lane = some l → x.2.state = .incomplete →
      ∀ st, st = s.boundState l ∨ st = .incomplete → B x.2.entry (some l) st) : Leads r B s (windowEnd s l) := by
  have scored : Leads r B s (resetCounters (scoreLane s l) l) := (scoreLane_leads s l).trans (resetCounters_leads _ l)
  have lanes : (resetCounters (scoreLane s l) l).lanes = s.lanes :=
    ((scoreLane_within s l).mono (qs := [.carriages, .bindings, .handed]) (by decide)).trans
      ((resetCounters_within _ l).mono (by decide)) .lanes (by decide)
  rw [← boundState_of_lanes lanes l] at rule
  have healthy : Leads r B s (laneHealth (retryAll (resetCounters (scoreLane s l) l) l) l) :=
    (scored.trans (retryAll_leads rule)).trans (laneHealth_calm _ l).leads
  exact ((healthy.trans (Calm.modLane _ l _).leads).trans (setMarks_leads _ l)).trans (Calm.modLane _ l _).leads

/-! ### Visits and parks (R6, R19, R20, R79, R80) -/

theorem surveyCarriage_leads (s : State) (l c : Nat) : Leads r B s (surveyCarriage s l c) := by
  unfold surveyCarriage
  split
  · exact Leads.refl s
  · rename_i x found
    exact Leads.modCarriage_hand _ found ⟨rfl, rfl, rfl, rfl, .inl rfl⟩

theorem surveyFigures_leads (s : State) (l e : Nat) : Leads r B s (surveyFigures s l e) :=
  Leads.foldl (fun s c => surveyCarriage_leads s l c) _ s

theorem foldl_shelve_leads (cs : List Nat) (s : State) : Leads r B s (cs.foldl shelve s) :=
  Leads.foldl (fun s c => (Move.shelve s c).leads) cs s

theorem shelveVisit_leads (s : State) (e : Nat) : Leads r B s (shelveVisit s e) := foldl_shelve_leads _ s

theorem shelveParked_leads (s : State) (e : Nat) : Leads r B s (shelveParked s e) := foldl_shelve_leads _ s

theorem endVisitTo_leads (s : State) (l e : Nat) (o : Option SurveyOutcome) : Leads r B s (endVisitTo s l e o) := by
  have figures : Leads r B s (if o = some .surveyed then surveyFigures s l e else s) :=
    Leads.ite (fun _ => surveyFigures_leads s l e) fun _ => Leads.refl s
  have left : ∀ f g, Leads r B s
      (((shelveVisit (if o = some .surveyed then surveyFigures s l e else s) e).modLane l f).modEntry e g) := fun f g =>
    ((figures.trans (shelveVisit_leads _ e)).trans (Calm.modLane _ l f).leads).trans (Calm.modEntry _ e g).leads
  unfold endVisitTo
  cases o with
  | none => exact left _ _
  | some o => exact (left _ _).trans (Calm.modEntry _ e _).leads

theorem endVisit_leads (s : State) (l : Nat) (o : Option SurveyOutcome) : Leads r B s (endVisit s l o) := by
  unfold endVisit
  split
  · exact Leads.refl s
  · exact endVisitTo_leads s l _ o

theorem roveLock_calm (s : State) (l : Nat) : Calm s (roveLock s l) :=
  Calm.ite (fun _ => Calm.modRover s l _) fun _ => (Calm.modLane s l _).trans (Calm.modRover _ l _)

theorem rovingStatus_leads (s : State) (l : Nat) (rep : StatusReport) : Leads r B s (rovingStatus s l rep).1 := by
  have counted : Leads r B s (countStatus s l rep) := (countStatus_calm s l rep).leads
  have margin : Leads r B s (takeMargin (countStatus s l rep) l rep) := counted.trans (Calm.modLane _ l _).leads
  unfold rovingStatus
  split
  · exact (counted.trans (Calm.modLane _ l _).leads).trans (endVisit_leads _ l none)
  · split
    · split
      · exact margin.trans (roveLock_calm _ l).leads
      · exact margin
    · split
      · exact margin.trans (endVisit_leads _ l _)
      · exact margin
  · exact (counted.trans (Calm.modCounters _ l _).leads).trans
      (Leads.ite (fun _ => (Calm.modRover _ l _).leads) fun _ => Leads.refl _)

theorem parkRelease_leads (s : State) (l : Nat) : Leads r B s (parkRelease s l) := by
  unfold parkRelease
  split
  · exact (shelveParked_leads s _).trans (Calm.modEntry _ _ _).leads
  · exact Leads.refl s

theorem leaveLane_leads (s : State) (l : Nat) : Leads r B s (leaveLane s l) :=
  (parkRelease_leads s l).trans (endVisit_leads _ l none)

/-- The bind attempts of a park, where the carriages of the entry may be bound on the lane. -/
theorem bindParked_leads {s : State} {l e : Nat}
    (rule : ∀ st, st = s.boundState l ∨ st = .incomplete → B e (some l) st) : Leads r B s (bindParked s l e) := by
  refine Leads.of_ordered fun ordered => ?_
  refine Leads.foldl_own (I := fun u => u.lanes = s.lanes) (P := fun x => x.entry = e ∧ x.state = .shelved)
    (fun u c x lanes found hx => ?_) (fun u c lanes => ?_) (fun u c d ho h => attemptBind_own u c l true d ho h)
    (carriagesWhere_nodup ordered.carriages_ordered _) rfl fun c hc => ?_
  · refine attemptBind_leads found (by rw [hx.2]; rfl) ?_
    rw [boundState_of_lanes lanes, hx.1]
    exact rule
  · exact (attemptBind_within u c l true .lanes (by decide)).trans lanes
  · obtain ⟨x, found, hp⟩ := (mem_carriagesWhere ordered.carriages_ordered _ c).1 hc
    simp only [Bool.and_eq_true, decide_eq_true_eq] at hp
    exact ⟨x, found, hp⟩

theorem parkClaim_leads (s : State) (l e : Nat) : Leads r B s (parkClaim s l e) := by
  refine Leads.trans ?_ (Calm.leavePrompt _ e).leads
  refine Leads.trans ?_ (Calm.modEntry _ e _).leads
  exact (Leads.foldl (fun s l => endVisit_leads s l none) _ s).trans (leaveLane_leads _ l)

theorem parkRecord_leads {s : State} {l e : Nat}
    (rule : ∀ st, st = (s.modLane l fun n => n.parkedOn e).boundState l ∨ st = .incomplete → B e (some l) st) :
    Leads r B s (parkRecord s l e) := by
  have bound : Leads r B s (bindParked (s.modLane l fun n => n.parkedOn e) l e) :=
    (Calm.modLane s l _).leads.trans (bindParked_leads rule)
  exact (((bound.trans (Calm.modLane _ l _).leads).trans (Calm.modLane _ l _).leads).trans
    (Calm.modLane _ l _).leads).trans (Calm.modLane _ l _).leads

/-! ### Directories (R55 to R61) -/

theorem vanish_leads (s : State) (c : Nat) : Leads r B s (vanish s c) := by
  unfold vanish
  split
  · exact Leads.refl s
  · exact (offerRecord_calm s _ _ _ c).leads.trans (Move.remove _ c).leads

theorem resetMissing_leads (s : State) (c : Nat) : Leads r B s (resetMissing s c) := by
  cases found : s.carriage c with
  | none =>
    rw [resetMissing, modCarriage_at_none _ found]
    exact Leads.refl s
  | some x => exact Leads.modCarriage _ found ⟨rfl, rfl, rfl, rfl, .inl rfl⟩ ⟨rfl, rfl, rfl⟩

theorem countMissing_leads (s : State) (c : Nat) : Leads r B s (countMissing s c) := by
  unfold countMissing
  split
  · exact Leads.refl s
  · rename_i x found
    have counted : Leads r B s (s.modCarriage c fun y => { y with missing := saturate 15 (x.missing + 1) }) :=
      Leads.modCarriage _ found ⟨rfl, rfl, rfl, rfl, .inl rfl⟩ ⟨rfl, rfl, rfl⟩
    exact Leads.ite (fun _ => counted.trans (vanish_leads _ c)) fun _ => counted

theorem multiplexChange_leads (s : State) (e : Nat) (old new : BitVec 16) :
    Leads r B s (multiplexChange s e old new) := by
  refine Leads.trans ?_ (Calm.modEntry _ e _).leads
  refine Leads.trans ?_ (Leads.foldl (fun s c => vanish_leads s c) _ _)
  exact Leads.ite (fun _ => (writeRecord_calm s _ _ _ _).leads) fun _ => Leads.refl s

theorem repeatDirectory_leads (s : State) (l e : Nat) (m : DirectoryMessage) :
    Leads r B s (repeatDirectory s l e m) := by
  unfold repeatDirectory
  exact ((Leads.foldl (fun s c => resetMissing_leads s c) _ s).trans
    (Leads.foldl (fun s c => countMissing_leads s c) _ _)).trans (Calm.modAsm _ l _).leads

/-- A change of one service record in its name and flags. -/
theorem Leads.modService (s : State) (key : Key) (f : Service → Service) (stands : ∀ v : Service, v.Stands (f v))
    (refs : ∀ v, (f v).slotRefs = v.slotRefs) : Leads r B s (s.modService key f) := by
  refine Move.leads (Move.record (fun v => if v.key = key then f v else v) (fun v => ?_) (fun v => ?_) ?_)
  · split
    · exact stands v
    · exact ⟨rfl, rfl, rfl, rfl, rfl, rfl, rfl, rfl⟩
  · split <;> simp [refs]
  · show { s with services := _ } = { s with services := _ }
    congr 1
    exact modService_services_eq s key f

theorem rename_leads (s : State) (v : Listed) : Leads r B s (rename s v) :=
  Leads.modService s v.key _ (fun _ => ⟨rfl, rfl, rfl, rfl, rfl, rfl, rfl, rfl⟩) fun _ => rfl

/-- The record found or created for a listed key: the moves, and that it is there (R58). -/
theorem serviceFor_leads {s t : State} {v : Listed} (h : serviceFor s v = some t) :
    Leads r B s t ∧ (t.service v.key).isSome := by
  unfold serviceFor at h
  cases found : s.service v.key with
  | some w =>
    simp only [found, Option.some.injEq] at h
    subst h
    refine ⟨rename_leads s v, ?_⟩
    rw [rename, State.service_modService (f := fun x => { x with name := v.name }) _ _ fun _ => rfl, found]
    rfl
  | none =>
    simp only [found] at h
    refine ⟨Move.leads (Move.newService found h), ?_⟩
    obtain ⟨i, free, rfl⟩ := createService_some h
    obtain ⟨_, vacant⟩ := lowestFree_some free
    rw [State.service_isSome]
    exact List.mem_map.2 ⟨(i, _), (mem_tableSet vacant _).2 (.inl rfl), rfl⟩

/-- No carriage of the entry has the key, when none is found for it. -/
theorem carriageFor_none {s : State} {e : Nat} {key : Key} (h : s.carriageFor e key = none) :
    ∀ x ∈ s.carriages, x.2.entry = e → x.2.service ≠ key := by
  intro x hx entry service
  have : x.1 ∈ s.carriagesWhere fun x => x.entry = e && x.service = key :=
    List.mem_map.2 ⟨x, List.mem_filter.2 ⟨hx, by simp [entry, service]⟩, rfl⟩
  rw [List.head?_eq_none_iff.1 h] at this
  simp at this

theorem carriageFor_some {s : State} {e c : Nat} {key : Key} (ordered : s.CatalogueOrdered)
    (h : s.carriageFor e key = some c) : ∃ x, s.carriage c = some x ∧ x.entry = e ∧ x.service = key := by
  obtain ⟨x, found, hp⟩ := (mem_carriagesWhere ordered.carriages_ordered _ c).1 (List.mem_of_mem_head? h)
  simp only [Bool.and_eq_true, decide_eq_true_eq] at hp
  exact ⟨x, found, hp⟩

theorem newKey_leads {s : State} {l e : Nat} {v : Listed} (none : s.carriageFor e v.key = none)
    (flows : (v.components.map Prod.snd).Nodup)
    (rule : ∀ st, st = s.boundState l ∨ st = .incomplete → B e (some l) st) : Leads r B s (newKey s l e v) := by
  unfold newKey
  split
  · exact (writeRecord_calm s _ _ _ _).leads
  · rename_i s1 h
    obtain ⟨run, recorded⟩ := serviceFor_leads (r := r) (B := B) h
    have carriages : s1.carriages = s.carriages := serviceFor_within h .carriages (by decide)
    have lanes : s1.lanes = s.lanes := serviceFor_within h .lanes (by decide)
    split
    · exact (run.trans (writeRecord_calm s1 _ _ _ _).leads).trans (Move.free _ _).leads
    · rename_i c free
      have create : Leads r B s1 (attemptBind (withCarriage s1 c (Carriage.created e v s1.clock)) c l false) :=
        Move.leads (Move.create recorded (by rw [carriages]; exact carriageFor_none none) free flows
          (by rw [boundState_of_lanes lanes]; exact rule))
      exact ((run.trans create).trans (Leads.hand _ _)).trans (offerRecord_calm _ _ _ _ _).leads

theorem resetMissing_carriage {s : State} {c : Nat} {x : Carriage} (found : s.carriage c = some x) :
    (resetMissing s c).carriage c = some { x with missing := 0 } := by
  rw [resetMissing, State.carriage_modCarriage, found]
  rfl

theorem listedKey_leads {s : State} {l e c : Nat} {v : Listed} {x : Carriage} (found : s.carriage c = some x)
    (entry : x.entry = e) (flows : (v.components.map Prod.snd).Nodup)
    (rule : ∀ st, st = s.boundState l ∨ st = .incomplete → B e (some l) st) :
    Leads r B s (listedKey s l e c v) := by
  have named : Leads r B s (rename (resetMissing s c) v) := (resetMissing_leads s c).trans (rename_leads _ v)
  have found' : (rename (resetMissing s c) v).carriage c = some { x with missing := 0 } :=
    resetMissing_carriage found
  subst entry
  simp only [listedKey, found]
  refine Leads.ite (fun _ => Leads.ite (fun shelved => ?_) fun _ => named) fun _ => ?_
  · exact named.trans (attemptBind_leads found' (by rw [shelved]; rfl) rule)
  · exact (named.trans (Move.leads (Move.rebind found' flows rule))).trans (offerRecord_calm _ _ _ _ _).leads

theorem reconcileKey_leads {s : State} {l e : Nat} {v : Listed} (flows : (v.components.map Prod.snd).Nodup)
    (rule : ∀ st, st = s.boundState l ∨ st = .incomplete → B e (some l) st) :
    Leads r B s (reconcileKey s l e v) := by
  refine Leads.of_ordered fun ordered => ?_
  unfold reconcileKey
  split
  · exact newKey_leads ‹_› flows rule
  · obtain ⟨x, found, entry, _⟩ := carriageFor_some ordered ‹_›
    exact listedKey_leads found entry flows rule

theorem foldl_reconcileKey_leads {l e : Nat} {vs : List Listed} {s : State}
    (flows : ∀ v ∈ vs, (v.components.map Prod.snd).Nodup)
    (rule : ∀ st, st = s.boundState l ∨ st = .incomplete → B e (some l) st) :
    Leads r B s (vs.foldl (fun s v => reconcileKey s l e v) s) := by
  induction vs generalizing s with
  | nil => exact Leads.refl s
  | cons v vs ih =>
    refine (reconcileKey_leads (flows v (List.mem_cons_self ..)) rule).trans
      (ih (fun w hw => flows w (List.mem_cons_of_mem _ hw)) ?_)
    rw [boundState_of_lanes (reconcileKey_within s l e v .lanes (by decide))]
    exact rule

theorem fullReconciliation_leads {s : State} {l e : Nat} {m : DirectoryMessage}
    (flows : ∀ v ∈ m.services, (v.components.map Prod.snd).Nodup)
    (rule : ∀ st, st = s.boundState l ∨ st = .incomplete → B e (some l) st) :
    Leads r B s (fullReconciliation s l e m) :=
  ((foldl_reconcileKey_leads flows rule).trans (Leads.foldl (fun s c => countMissing_leads s c) _ _)).trans
    (Calm.modEntry _ e _).leads

theorem multiplexChange_lanes (s : State) (e : Nat) (old new : BitVec 16) :
    (multiplexChange s e old new).lanes = s.lanes := by
  have recorded : Within catalogueParts s
      (if s.changeRecorded e then writeRecord s .entryChanged e (old ++ new) none else s) :=
    Within.ite ((writeRecord_within s _ _ _ _).mono (by decide)) (Within.refl _ s)
  have emptied := fun cs => recorded.trans (Within.foldl (ps := catalogueParts) _ (fun s c => vanish_within s c) cs _)
  exact (emptied _) .lanes (by decide)

theorem reconcile_leads {s : State} {l e : Nat} {m : DirectoryMessage} {first : Bool}
    (flows : ∀ v ∈ m.services, (v.components.map Prod.snd).Nodup)
    (rule : ∀ st, st = s.boundState l ∨ st = .incomplete → B e (some l) st) :
    Leads r B s (reconcile s l e m first) := by
  unfold reconcile
  split
  · exact (Calm.modEntry s e _).leads.trans (fullReconciliation_leads flows rule)
  · rename_i id _
    refine Leads.ite (fun _ => (multiplexChange_leads s e id _).trans (fullReconciliation_leads flows ?_)) fun _ =>
      Leads.ite (fun _ => repeatDirectory_leads s l e m) fun _ => fullReconciliation_leads flows rule
    rw [boundState_of_lanes (multiplexChange_lanes s e id _)]
    exact rule

theorem ok_of_check {c : Prop} [Decidable c] {cause : RejectCause} {r : Except RejectCause DirectoryMessage}
    {m : DirectoryMessage} (h : (if c then .error cause else r) = .ok m) : ¬ c ∧ r = .ok m := by
  split at h
  · cases h
  · exact ⟨‹_›, h⟩

/-- The ninth check of R53: the flows of each listed service are distinct. -/
theorem validate_flows {msg : List Byte} {m : DirectoryMessage} (h : validate msg = .ok m) :
    ∀ v ∈ m.services, (v.components.map Prod.snd).Nodup := by
  unfold validate at h
  obtain ⟨-, h⟩ := ok_of_check h
  obtain ⟨-, h⟩ := ok_of_check h
  obtain ⟨-, h⟩ := ok_of_check h
  obtain ⟨-, h⟩ := ok_of_check h
  split at h
  · cases h
  rename_i raw left _
  obtain ⟨-, h⟩ := ok_of_check h
  obtain ⟨-, h⟩ := ok_of_check h
  obtain ⟨-, h⟩ := ok_of_check h
  obtain ⟨-, h⟩ := ok_of_check h
  obtain ⟨-, h⟩ := ok_of_check h
  obtain ⟨distinct, h⟩ := ok_of_check h
  obtain ⟨-, h⟩ := ok_of_check h
  injection h with h
  subst h
  intro v hv
  obtain ⟨r, hr, rfl⟩ := List.mem_map.1 hv
  have flows : (r.words.map wordFlow).Nodup := by
    by_contra repeated
    exact distinct (List.any_eq_true.2 ⟨r, hr, by simpa using repeated⟩)
  simpa [RawService.listed, Function.comp_def] using flows

end
end Sys2Proof.Machine
end

section
namespace Sys2Proof.Machine

open Sys2Proof Host

/-! ## Cells, expiries and commands as sequences of moves -/

section

variable {r : Bool} {B : BindRule}

/-! ### Reading a lane after an update -/

/-- An update of a lane leaves each lane as it was or as the update gives it. -/
theorem lane_modLane_cases (s : State) (m l : Nat) (f : Lane → Lane) :
    (s.modLane m f).lane l = s.lane l ∨ m = l ∧ (s.modLane m f).lane l = f (s.lane l) := by
  by_cases h : m = l
  · subst h
    by_cases hl : m < s.lanes.length
    · exact .inr ⟨rfl, s.lane_modLane m f hl⟩
    · left
      simp [State.lane, List.getD, List.getElem?_eq_none (Nat.le_of_not_lt hl)]
  · exact .inl (s.lane_modLane_other m l f h)

/-- What an update leaves of every lane record it leaves of the lane at an index. -/
theorem lane_modLane_keeps {α : Type} {s : State} {m : Nat} {f : Lane → Lane} (get : Lane → α)
    (h : ∀ n, get (f n) = get n) (l : Nat) : get ((s.modLane m f).lane l) = get (s.lane l) := by
  rcases lane_modLane_cases s m l f with e | ⟨-, e⟩ <;> rw [e]
  exact h _

theorem boundState_of_mode {s t : State} {l : Nat} (h : (t.lane l).mode = (s.lane l).mode) :
    t.boundState l = s.boundState l := by
  rw [State.boundState, h]
  rfl

/-- What binding a carriage of an entry on a lane may leave it as. -/
def Allows (B : BindRule) (s : State) (l e : Nat) : Prop :=
  ∀ st, st = s.boundState l ∨ st = .incomplete → B e (some l) st

theorem Allows.of_mode {s t : State} {l e : Nat} (h : Allows B s l e)
    (mode : (t.lane l).mode = (s.lane l).mode) : Allows B t l e := by
  unfold Allows
  rw [boundState_of_mode mode]
  exact h

/-- What the acceptance of a directory on a lane may bind. -/
def AllowsAccepted (B : BindRule) (s : State) (l : Nat) : Prop :=
  ∀ e, (s.lane l).acceptingEntry = some e → Allows B s l e

theorem AllowsAccepted.of_lane {s t : State} {l : Nat} (h : AllowsAccepted B s l)
    (mode : (t.lane l).mode = (s.lane l).mode) (entry : (t.lane l).acceptingEntry = (s.lane l).acceptingEntry) :
    AllowsAccepted B t l := fun e he => (h e (entry ▸ he)).of_mode mode

/-! ### Directories -/

theorem modRover_lane_keeps {α : Type} {s : State} {m : Nat} {f : Rover → Rover} (get : Lane → α)
    (h : ∀ n : Lane, get { n with rover := n.rover.map f } = get n) (l : Nat) :
    get ((s.modRover m f).lane l) = get (s.lane l) := lane_modLane_keeps get h l

theorem modAsm_lane_keeps {α : Type} {s : State} {m : Nat} {f : Assembler → Assembler} (get : Lane → α)
    (h : ∀ n : Lane, get { n with asm := f n.asm } = get n) (l : Nat) :
    get ((s.modAsm m f).lane l) = get (s.lane l) := lane_modLane_keeps get h l

theorem modCounters_lane_keeps {α : Type} {s : State} {m : Nat} {f : LaneCounters → LaneCounters} (get : Lane → α)
    (h : ∀ n : Lane, get { n with counters := f n.counters } = get n) (l : Nat) :
    get ((s.modCounters m f).lane l) = get (s.lane l) := lane_modLane_keeps get h l

theorem Calm.watchSeen {s : State} {seen : List Bool} (h : s.watch.length = 32 → s.watchSeen.length = 32 → seen.length = 32) :
    Calm s { s with watchSeen := seen } :=
  ⟨rfl, rfl, rfl, rfl, follows_refl s.slots, rfl, rfl, rfl, h⟩

theorem watchSeenAfter_length {watch : List (Option Key)} {seen : List Bool} (m : DirectoryMessage)
    (hw : watch.length = 32) (hs : seen.length = 32) : (watchSeenAfter watch seen m).length = 32 := by
  simp [watchSeenAfter, hw, hs]

theorem acceptDirectory_leads {s : State} {l e : Nat} {m : DirectoryMessage}
    (flows : ∀ v ∈ m.services, (v.components.map Prod.snd).Nodup) (rule : Allows B s l e) :
    Leads r B s (acceptDirectory s l e m) := by
  unfold acceptDirectory
  refine Leads.trans (((Calm.modAsm s l _).trans (Calm.modRover _ l _)).trans
    (Calm.watchSeen (watchSeenAfter_length m))).leads (reconcile_leads flows (rule.of_mode ?_))
  exact (modRover_lane_keeps (fun n => n.mode) (fun _ => rfl) l).trans
    (modAsm_lane_keeps (fun n => n.mode) (fun _ => rfl) l)

theorem completeMessage_leads {s : State} {l : Nat} {msg : List Byte} (rule : AllowsAccepted B s l) :
    Leads r B s (completeMessage s l msg) := by
  unfold completeMessage
  split
  · exact (Calm.modAsm s l _).leads
  · rename_i m valid
    split
    · exact (Calm.modAsm s l _).leads
    · exact acceptDirectory_leads (validate_flows valid) (rule _ ‹_›)

theorem directoryCell_leads {s : State} {l : Nat} {c : Cell} (rule : AllowsAccepted B s l) :
    Leads r B s (directoryCell s l c) := by
  unfold directoryCell
  dsimp only
  split
  · exact (Calm.modAsm s l _).leads
  · refine (Calm.modAsm s l _).leads.trans (completeMessage_leads (rule.of_lane ?_ ?_))
    · exact modAsm_lane_keeps (fun n => n.mode) (fun _ => rfl) l
    · exact modAsm_lane_keeps (fun n => n.acceptingEntry) (fun _ => rfl) l

/-! ### Bound cells (R30 to R32, R40) -/

theorem Binding.accepting_name (b : Binding) (c : Cell) (gap : Nat) (now : Clock) :
    (b.accepting c gap now).name = b.name ∧ (b.accepting c gap now).refCount = b.refCount := by
  unfold Binding.accepting Binding.paired Binding.deviated
  split
  · split <;> exact ⟨rfl, rfl⟩
  · exact ⟨rfl, rfl⟩

theorem modBinding_leads (s : State) (name : BindingName) (f : Binding → Binding)
    (stands : ∀ b : Binding, (f b).name = b.name ∧ (f b).refCount = b.refCount) :
    Leads r B s (s.modBinding name f) := by
  refine Move.leads (Move.tally (fun b => if b.name = name then f b else b) (fun b => ?_) rfl)
  split
  · exact stands b
  · exact ⟨rfl, rfl⟩

theorem markHeard_leads (s : State) (name : BindingName) : Leads r B s (markHeard s name) := by
  refine Move.leads (Move.adjust (fun x => if x.2.primaryUses name then { x.2 with heard := true } else x.2) []
    (fun x _ => ?_) (fun x _ => .inl ?_) ?_)
  · split <;> exact ⟨rfl, rfl, rfl, rfl, .inl rfl⟩
  · split <;> exact ⟨rfl, rfl, rfl⟩
  · rw [List.append_nil]
    unfold markHeard
    congr 1
    exact List.map_congr_left fun x _ => by split <;> rfl

theorem clearStall_leads (s : State) (c : Nat) : Leads r B s (clearStall s c) := by
  unfold clearStall
  split
  · exact Leads.refl s
  · exact Leads.modCarriage_hand _ ‹_› ⟨rfl, rfl, rfl, rfl, .inl rfl⟩

theorem clearStalls_leads (s : State) (name : BindingName) : Leads r B s (clearStalls s name) :=
  Leads.foldl (fun s c => clearStall_leads s c) _ s

theorem boundCell_leads (s : State) (b : Binding) (c : Cell) : Leads r B s (boundCell s b c) := by
  unfold boundCell
  split
  · exact (modBinding_leads s b.name
      (fun y => { y with duplicates := saturate Config.counter24 (y.duplicates + 1) }) fun _ => ⟨rfl, rfl⟩).trans
      (Calm.modCounters _ _ _).leads
  · rename_i gap _
    exact (((modBinding_leads s b.name _ fun y => y.accepting_name c gap s.clock).trans (markHeard_leads _ _)).trans
      (clearStalls_leads _ _)).trans (forwardCell_calm _ _ _).leads

theorem programmeCell_leads (s : State) (l : Nat) (c : Cell) : Leads r B s (programmeCell s l c) := by
  unfold programmeCell
  split
  · exact boundCell_leads s _ c
  · exact (Calm.modCounters s l _).leads

theorem stallCarriage_leads (s : State) (c : Nat) : Leads r B s (stallCarriage s c) := by
  unfold stallCarriage
  split
  · exact Leads.refl s
  · exact Leads.modCarriage_hand _ ‹_› ⟨rfl, rfl, rfl, rfl, .inl rfl⟩

theorem stallAll_leads (s : State) : Leads r B s (stallAll s) :=
  Leads.foldl (fun s c => stallCarriage_leads s c) _ s

/-! ### Cells as they arrive (R27 to R29) -/

theorem errorStatus_calm (s : State) (l : Nat) : Calm s (errorStatus s l) :=
  (Calm.modLane s l _).trans (Calm.modLane _ l _)

theorem statusCell_leads (s : State) (l : Nat) (c : Cell) : Leads r B s (statusCell s l c).1 := by
  unfold statusCell
  split
  · exact (errorStatus_calm s l).leads
  · split
    · exact rovingStatus_leads s l _
    · exact parkedStatus_leads s l _

theorem voidArrived_calm (s : State) (l : Nat) : Calm s (voidArrived s l) := Calm.modCounters s l _

theorem unexpectedCell_calm (s : State) (l : Nat) : Calm s (unexpectedCell s l) := Calm.modCounters s l _

theorem dispatchCell_leads {s : State} {l : Nat} {c : Cell} (rule : AllowsAccepted B s l) :
    Leads r B s (dispatchCell s l c).1 := by
  unfold dispatchCell
  split
  · exact programmeCell_leads s l c
  split
  · exact (voidArrived_calm s l).leads
  split
  · exact directoryCell_leads rule
  split
  · exact statusCell_leads s l c
  split
  · exact (admitCommand_calm s c).leads
  · exact (unexpectedCell_calm s l).leads

theorem idleCell_calm (s : State) (l : Nat) (c : Cell) : Calm s (idleCell s l c) :=
  Calm.ite (fun _ => Calm.modLane s l _) fun _ => Calm.modCounters s l _

theorem checkedCell_leads {s : State} {l : Nat} {c : Cell} (rule : AllowsAccepted B s l) :
    Leads r B s (checkedCell s l c).1 := by
  unfold checkedCell
  split
  · exact (idleCell_calm s l c).leads
  · exact dispatchCell_leads rule
  · split
    · exact dispatchCell_leads rule
    · split
      · exact statusCell_leads s l c
      · exact Leads.refl s

theorem arriveCell_leads {s : State} {l : Nat} {bytes : List Byte} (rule : AllowsAccepted B s l) :
    Leads r B s (arriveCell s l bytes).1 := by
  unfold arriveCell
  refine Leads.trans (t := s.modCounters l fun n => { n with received := saturate Config.counter32 (n.received + 1) })
    (Calm.modCounters s l _).leads ?_
  dsimp only
  split
  · refine checkedCell_leads (rule.of_lane ?_ ?_)
    · exact modCounters_lane_keeps (fun n => n.mode) (fun _ => rfl) l
    · exact modCounters_lane_keeps (fun n => n.acceptingEntry) (fun _ => rfl) l
  · exact (Calm.modLane _ l _).leads

/-! ### Expiries -/

theorem silenceExpired_leads (s : State) (l : Nat) : Leads r B s (silenceExpired s l).1 := by
  have stopped : Leads r B s (stopSilence s l) := (Calm.modLane s l _).leads
  unfold silenceExpired
  dsimp only
  split
  · exact stopped.trans (parkedSilence_leads _ l)
  · split
    · exact stopped.trans (endVisit_leads _ l _)
    · exact stopped
  · exact stopped

/-! ### The end of an act -/

theorem evaluateHanded_leads (s : State) : Leads r B s (evaluateHanded s) := Move.leads (Move.evaluate s)

theorem closeAct_leads (s0 s : State) : Leads r B s (closeAct s0 s) :=
  (evaluateHanded_leads s).trans (deliver_calm s0 _).leads

theorem evaluateHanded_handed (s : State) : (evaluateHanded s).handed = [] := by
  have fold : ∀ (keys : List Key) (t : State) (scored : Key → Option Nat),
      (keys.foldl (fun t key => evaluateService t key (scored key)) t).handed = t.handed := by
    intro keys
    induction keys with
    | nil => exact fun t _ => rfl
    | cons key keys ih => exact fun t scored => ih _ _
  exact fold _ _ _

theorem closeAct_handed (s0 s : State) : (closeAct s0 s).handed = [] :=
  (deliver_within s0 (evaluateHanded s) .handed (by decide)).trans (evaluateHanded_handed s)

end
end Sys2Proof.Machine
end

section
namespace Sys2Proof.Machine

open Sys2Proof Host

/-! ## Every step is a full reset or a sequence of moves -/

/-- `t` is reached from `s` by moves, and waits for the ranking engine no more than `s` did. -/
structure Concludes (r : Bool) (B : BindRule) (s t : State) : Prop where
  leads : Leads r B s t
  settled : s.handed = [] → t.handed = []

section

variable {r : Bool} {B : BindRule}

theorem Concludes.refl (s : State) : Concludes r B s s := ⟨Leads.refl s, id⟩

theorem Concludes.trans {s t u : State} (h : Concludes r B s t) (g : Concludes r B t u) : Concludes r B s u :=
  ⟨h.leads.trans g.leads, g.settled ∘ h.settled⟩

theorem Calm.concludes {s t : State} (h : Calm s t) : Concludes r B s t := ⟨h.leads, fun hs => h.handed.trans hs⟩

theorem Concludes.of_handed {s t : State} (h : Leads r B s t) (handed : t.handed = s.handed) :
    Concludes r B s t := ⟨h, fun hs => handed.trans hs⟩

theorem Concludes.ite {s t u : State} {b : Prop} [Decidable b] (h : b → Concludes r B s t) (g : ¬ b → Concludes r B s u) :
    Concludes r B s (if b then t else u) := by
  split
  · exact h ‹_›
  · exact g ‹_›

theorem closeAct_concludes {s t : State} (s0 : State) (h : Leads r B s t) : Concludes r B s (closeAct s0 t) :=
  ⟨h.trans (closeAct_leads s0 t), fun _ => closeAct_handed s0 t⟩

theorem closeWithClaims_calm (s0 s : State) (ls : List Nat) : Calm (closeAct s0 s) (closeWithClaims s0 s ls) :=
  (Calm.foldl claim_calm ls _).trans (pausedClaims_calm _)

theorem closeWithClaims_concludes {s t : State} (s0 : State) (ls : List Nat) (h : Leads r B s t) :
    Concludes r B s (closeWithClaims s0 t ls) :=
  (closeAct_concludes s0 h).trans (closeWithClaims_calm s0 t ls).concludes

/-! ### Events and commands -/

theorem event_concludes {s : State} {enabled : Bool} {act : State → State × List Nat}
    (h : Leads r B s (act s).1) : Concludes r B s (event s enabled act) := by
  unfold event
  refine Concludes.ite (fun _ => ?_) fun _ => Concludes.refl s
  refine Concludes.trans ?_ (settleNotice_calm s _).concludes
  exact Concludes.ite (fun _ => closeAct_concludes s h) fun _ => closeWithClaims_concludes s _ h

theorem quietEvent_calm {s : State} {enabled : Bool} {act : State → State} (h : Calm s (act s)) :
    Calm s (quietEvent s enabled act) :=
  Calm.ite (fun _ => h.trans (settleNotice_calm s _)) fun _ => Calm.refl s

theorem takeIf_concludes {p : Command → Bool} {act : State → List Byte → Reply}
    (h : ∀ u args, Concludes r B u (act u args).state) (s : State) : Concludes r B s (takeIf p s act) := by
  unfold takeIf
  split
  · exact Concludes.refl s
  · rename_i c rest _
    have dropped : Calm s (dropHead s rest) := mgmt_calm s _
    have acted := dropped.concludes.trans (h (dropHead s rest) c.args)
    have noticed := acted.trans (settleNotice_calm s _).concludes
    exact noticed.trans (((store_calm _ _).trans (noteRestart_calm _)).concludes (r := r))

theorem takeCommand_concludes {code len : Nat} {act : State → List Byte → Reply}
    (h : ∀ u args, Concludes r B u (act u args).state) (s : State) : Concludes r B s (takeCommand code len s act) :=
  takeIf_concludes h s

/-! ### Commands on carriages -/

theorem namedCarriage_ok {s : State} {c : Nat} {x : Carriage} (h : s.namedCarriage c = .ok x) :
    s.carriage c = some x := by
  unfold State.namedCarriage at h
  split at h
  · cases h
  · split at h
    · cases h
    · injection h with h
      exact h ▸ ‹_›

theorem readCarriageAct_concludes (s : State) (args : List Byte) : Concludes r B s (readCarriageAct s args).state := by
  unfold readCarriageAct
  dsimp only
  split
  · exact Concludes.refl s
  · exact Concludes.of_handed
      (Leads.modCarriage _ (namedCarriage_ok ‹_›) ⟨rfl, rfl, rfl, rfl, .inl rfl⟩ ⟨rfl, rfl, rfl⟩) rfl

theorem flushCarriageAct_concludes (s : State) (args : List Byte) :
    Concludes r B s (flushCarriageAct s args).state := by
  unfold flushCarriageAct
  dsimp only
  split
  · exact Concludes.refl s
  · exact Concludes.of_handed
      (Leads.modCarriage _ (namedCarriage_ok ‹_›) ⟨rfl, rfl, rfl, rfl, .inl rfl⟩ ⟨rfl, rfl, rfl⟩) rfl

theorem forgetCarriageAct_concludes (s : State) (args : List Byte) :
    Concludes r B s (forgetCarriageAct s args).state := by
  unfold forgetCarriageAct
  dsimp only
  split
  · exact Concludes.refl s
  · split
    · exact Concludes.refl s
    · dsimp only [answer]
      exact closeAct_concludes s (Move.remove s _).leads

theorem listCarriagesAct_concludes (s : State) (args : List Byte) :
    Concludes r B s (listCarriagesAct s args).state := by
  unfold listCarriagesAct
  dsimp only
  split <;> exact Concludes.refl s

/-! ### Lane commands -/

theorem parkLaneAct_concludes (rule : ∀ e l st, B e l st) (s : State) (args : List Byte) :
    Concludes r B s (parkLaneAct s args).state := by
  unfold parkLaneAct
  dsimp only
  split
  · exact Concludes.refl s
  · dsimp only [answer]
    exact closeWithClaims_concludes s _ ((parkClaim_leads s _ _).trans (parkRecord_leads fun _ _ => rule _ _ _))

theorem roveRecord_leads (s : State) (l : Nat) : Leads r B s (roveRecord s l) :=
  ((leaveLane_leads s l).trans (Calm.modLane _ l _).leads).trans (Calm.modLane _ l _).leads

theorem releaseRecord_leads (s : State) (l : Nat) : Leads r B s (releaseRecord s l) :=
  (leaveLane_leads s l).trans (Calm.modLane _ l _).leads

theorem roveLaneAct_concludes (s : State) (args : List Byte) : Concludes r B s (roveLaneAct s args).state := by
  unfold roveLaneAct
  dsimp only
  split
  · exact Concludes.refl s
  · dsimp only [answer]
    exact closeWithClaims_concludes s _ (roveRecord_leads s _)

theorem releaseLaneAct_concludes (s : State) (args : List Byte) : Concludes r B s (releaseLaneAct s args).state := by
  unfold releaseLaneAct
  dsimp only
  split
  · exact Concludes.refl s
  · dsimp only [answer]
    exact closeWithClaims_concludes s _ (releaseRecord_leads s _)

theorem setInterval_leads (s : State) (l ms : Nat) : Leads r B s (setInterval s l ms).1 := by
  unfold setInterval
  dsimp only
  split
  · exact (Calm.modLane s l _).leads.trans (silenceExpired_leads _ l)
  · exact (Calm.modLane s l _).leads

theorem setLaneAct_concludes (s : State) (args : List Byte) : Concludes r B s (setLaneAct s args).state := by
  unfold setLaneAct
  dsimp only
  split
  · exact Concludes.refl s
  · have run := setInterval_leads (r := r) (B := B) s (byteAt args 0) (clampNat 10 1000 (numberAt args 1 2))
    exact Concludes.ite (fun _ => closeAct_concludes s run) fun _ => closeWithClaims_concludes s _ run

/-! ### Plan commands -/

theorem setPlanEntryAct_concludes (s : State) (args : List Byte) : Concludes r B s (setPlanEntryAct s args).state := by
  unfold setPlanEntryAct
  dsimp only
  split
  · exact Concludes.refl s
  · dsimp only
    refine closeWithClaims_concludes s _ (Leads.ite (fun _ => (Calm.modEntry s _ _).leads) fun _ => ?_)
    exact ((Calm.modEntry s _ _).trans (Calm.leavePrompt _ _)).leads

theorem clearEntry_leads (s : State) (e : Nat) : Leads r B s (clearEntry s e) := by
  have emptied : Leads r B s ((s.entryCarriages e).foldl vanish s) := Leads.foldl (fun s c => vanish_leads s c) _ s
  exact emptied.trans ((Calm.modEntry _ e _).trans (Calm.leavePrompt _ e)).leads

theorem clearPlanEntryAct_concludes (s : State) (args : List Byte) :
    Concludes r B s (clearPlanEntryAct s args).state := by
  unfold clearPlanEntryAct
  dsimp only
  split
  · exact Concludes.refl s
  · dsimp only [answer]
    exact closeWithClaims_concludes s _
      ((Leads.foldl (fun s l => endVisit_leads s l none) _ s).trans (clearEntry_leads _ _))

theorem writeWatch_concludes (s : State) (i : Nat) (key : Option Key) : Concludes r B s (writeWatch s i key) := by
  have written : Calm s { s with watch := s.watch.set i key, watchSeen := s.watchSeen.set i false } :=
    ⟨rfl, rfl, rfl, rfl, follows_refl s.slots, rfl, rfl, by simp, fun _ h => by simp [h]⟩
  unfold writeWatch
  dsimp only
  split
  · exact written.concludes
  · exact Concludes.of_handed (written.leads.trans (Move.free _ _).leads)
      (freeIfUnheld_within _ _ .handed (by decide))

theorem setWatchAct_concludes (s : State) (args : List Byte) : Concludes r B s (setWatchAct s args).state := by
  unfold setWatchAct
  dsimp only
  split
  · exact Concludes.refl s
  · exact writeWatch_concludes s _ _

theorem joinPrompt_calm (s : State) (e : Nat) : Calm s (joinPrompt s e) := by
  unfold joinPrompt
  split
  · exact Calm.of_within (promptSet_within s _) (by decide)
  all_goals exact Calm.refl s

/-! ### Reads -/

theorem readLaneAct_calm (s : State) (args : List Byte) : Calm s (readLaneAct s args).state := by
  unfold readLaneAct
  dsimp only
  split
  · exact Calm.refl s
  · exact Calm.modLane s _ _

theorem readPlanEntryAct_state (s : State) (args : List Byte) : (readPlanEntryAct s args).state = s := by
  unfold readPlanEntryAct
  dsimp only
  split <;> rfl

theorem drainLog_calm (s : State) : Calm s (drainLog s) :=
  ⟨rfl, rfl, rfl, rfl, follows_refl s.slots, rfl, rfl, rfl, fun _ h => by simp [drainLog, h]⟩

theorem clearCounts_calm (s : State) : Calm s (clearCounts s) :=
  ⟨rfl, rfl, rfl, rfl, follows_refl s.slots, rfl, rfl, rfl, fun _ h => h⟩

theorem readSlotAct_calm (s : State) (args : List Byte) : Calm s (readSlotAct s args).state := by
  unfold readSlotAct
  dsimp only
  split
  · exact Calm.refl s
  · exact slotReported_calm s _

/-! ### Service commands -/

theorem reported_stands (v : Service) : v.Stands v.reported ∧ v.reported.slotRefs = v.slotRefs := by
  unfold Service.reported
  split <;> exact ⟨⟨rfl, rfl, rfl, rfl, rfl, rfl, rfl, rfl⟩, rfl⟩

theorem readServiceAct_concludes (s : State) (args : List Byte) : Concludes r B s (readServiceAct s args).state := by
  unfold readServiceAct
  dsimp only
  split
  · exact Concludes.refl s
  · exact Concludes.of_handed
      (Leads.modService s _ _ (fun v => (reported_stands v).1) fun v => (reported_stands v).2) rfl

theorem listServicesAct_state (s : State) (args : List Byte) : (listServicesAct s args).state = s := by
  unfold listServicesAct
  dsimp only
  split <;> rfl

theorem freeIfUnheld_hand (s : State) (key k : Key) : (freeIfUnheld s key).hand k = freeIfUnheld (s.hand k) key := by
  unfold freeIfUnheld
  have same : (s.hand k).held key = s.held key := rfl
  rw [same]
  split <;> rfl

/-- The carriage a pin names is one of the service's (R117). -/
theorem pinRefusal_none {s : State} {key : Key} {c : Nat} (h : pinRefusal s key (some c) = none) :
    s.belongs c key = true := by
  unfold pinRefusal at h
  split at h
  · cases h
  · simp only at h
    split at h
    · cases h
    · split at h
      · cases h
      · simpa using ‹¬ (!s.belongs c key) = true›

theorem pinTaken_leads {s : State} {key : Key} {pin : Option Nat} (h : pinRefusal s key pin = none) :
    Leads r B s (pinTaken s key pin) := by
  have pinned : Leads r B s ((s.modService key fun v => { v with pinned := pin }).hand key) :=
    Move.leads (Move.pin fun c hc => pinRefusal_none (hc ▸ h))
  unfold pinTaken
  dsimp only
  split
  · rw [freeIfUnheld_hand]
    exact pinned.trans (Move.free _ _).leads
  · exact pinned

theorem pinServiceAct_concludes (s : State) (args : List Byte) : Concludes r B s (pinServiceAct s args).state := by
  unfold pinServiceAct
  dsimp only
  split
  · exact Concludes.refl s
  · dsimp only [answer]
    exact closeAct_concludes s (pinTaken_leads ‹_›)

/-! ### Settings -/

theorem settings_calm (s : State) (p : Policy) (v : SurveySettings) (o : OutputSettings) (y : Store) :
    Calm s { s with policy := p, survey := v, output := o, store := y } :=
  ⟨rfl, rfl, rfl, rfl, follows_refl s.slots, rfl, rfl, rfl, fun _ h => h⟩

theorem setPolicyAct_concludes (s : State) (args : List Byte) : Concludes r B s (setPolicyAct s args).state := by
  have set : Leads r B s { s with policy := policyTaken args } :=
    (settings_calm s (policyTaken args) s.survey s.output s.store).leads
  unfold setPolicyAct
  dsimp only
  exact closeAct_concludes s (Leads.ite (fun _ => set.trans (stallAll_leads _)) fun _ => set)

/-! ### Slot commands -/

theorem modSlot_relists (s : State) (k : Nat) (f : Slot → Slot)
    (flows : ∀ x : Slot, x.flows.length = 6 → (f x).flows.length = 6) : Leads true B s (s.modSlot k f) := by
  refine Move.leads (Move.relist rfl id (fun v => ⟨rfl, rfl, rfl, rfl, rfl, rfl, rfl, rfl⟩) (by simp) rfl rfl rfl ?_)
  rintro ⟨entries, lanes, slots, watch, seen, six⟩
  refine ⟨entries, lanes, by simpa using slots, watch, seen, fun y hy => ?_⟩
  obtain ⟨k', hk, rfl⟩ := List.mem_iff_getElem.1 hy
  simp only [State.modSlot, List.getElem_modify]
  split
  · exact flows _ (six _ (List.getElem_mem _))
  · exact six _ (List.getElem_mem _)

theorem modService_relists (s : State) (key : Key) (f : Service → Service)
    (stands : ∀ v : Service, v.Stands (f v)) : Leads true B s (s.modService key f) := by
  refine Move.leads (Move.relist rfl (fun v => if v.key = key then f v else v) (fun v => ?_)
    (modService_services_eq s key f) rfl rfl rfl id)
  split
  · exact stands v
  · exact ⟨rfl, rfl, rfl, rfl, rfl, rfl, rfl, rfl⟩

theorem moveRefs_leads (s : State) (old new : List Key) : Leads true B s (moveRefs s old new) := by
  unfold moveRefs
  refine Leads.trans (Leads.foldl (fun s key => ?_) _ s) (Leads.foldl (fun s key => ?_) _ _)
  all_goals exact modService_relists s key _ fun v => ⟨rfl, rfl, rfl, rfl, rfl, rfl, rfl, rfl⟩

theorem ensureService_leads (s : State) (key : Key) : Leads r B s (ensureService s key) := by
  unfold ensureService
  split
  · exact Leads.refl s
  · rename_i absent
    cases h : createService s key [] with
    | none => exact Leads.refl s
    | some t => exact Move.leads (Move.newService absent h)

theorem foldl_freeIfUnheld_leads (keys : List Key) (s : State) :
    Leads r B s (keys.foldl freeIfUnheld s) := Leads.foldl (fun s key => (Move.free s key).leads) keys s

theorem recomputeShare_calm (s : State) : Calm s (recomputeShare s) := store_calm s _

/-- SET SLOT up to the review of the slot (R143). -/
def slotWritten (s : State) (a : SlotArgs) : State :=
  (((s.slot a.slot).keys.filter fun key => !a.keys.contains key).foldl freeIfUnheld
    (moveRefs (a.keys.foldl ensureService s) (s.slot a.slot).keys a.keys)).modSlot a.slot fun x => x.set a

theorem setSlotTaken_eq (s : State) (a : SlotArgs) :
    setSlotTaken s a = recomputeShare (reviewSlot (slotWritten s a) a.slot) := rfl

theorem slotWritten_leads (s : State) (a : SlotArgs) : Leads true B s (slotWritten s a) := by
  have listed : Leads true B s (moveRefs (a.keys.foldl ensureService s) (s.slot a.slot).keys a.keys) :=
    (Leads.foldl (fun s key => ensureService_leads s key) _ s).trans (moveRefs_leads _ _ _)
  exact (listed.trans (foldl_freeIfUnheld_leads _ _)).trans (modSlot_relists _ a.slot (fun x => x.set a) fun _ h => h)

theorem setSlotTaken_leads (s : State) (a : SlotArgs) : Leads true B s (setSlotTaken s a) := by
  rw [setSlotTaken_eq]
  exact ((slotWritten_leads s a).trans (reviewSlot_calm _ a.slot).leads).trans (recomputeShare_calm _).leads

/-- CLEAR SLOT up to the shares (R144). -/
def slotCleared (s : State) (k : Nat) : State :=
  (s.slot k).keys.foldl freeIfUnheld
    (moveRefs ((discardQueue s k).modSlot k fun _ => Slot.vacant) (s.slot k).keys [])

theorem slotCleared_leads (s : State) (k : Nat) : Leads true B s (slotCleared s k) := by
  have emptied : Leads true B s ((discardQueue s k).modSlot k fun _ => Slot.vacant) :=
    ((modSlot_relists s k (fun x => { x with queue := [] }) fun _ h => h).trans (store_calm _ _).leads).trans
      (modSlot_relists (discardQueue s k) k _ fun _ _ => rfl)
  exact (emptied.trans (moveRefs_leads _ _ _)).trans (foldl_freeIfUnheld_leads _ _)

theorem clearSlotTaken_eq (s : State) (k : Nat) : clearSlotTaken s k = recomputeShare (slotCleared s k) := rfl

theorem clearSlotTaken_leads (s : State) (k : Nat) : Leads true B s (clearSlotTaken s k) := by
  rw [clearSlotTaken_eq]
  exact (slotCleared_leads s k).trans (recomputeShare_calm _).leads

/-- EXCHANGE SLOTS up to the reviews (R145). -/
def keysExchanged (s : State) (a b : Nat) : State :=
  (s.modSlot a fun z => z.withKeys (s.slot b).primary (s.slot b).fallback).modSlot b fun z =>
    z.withKeys (s.slot a).primary (s.slot a).fallback

theorem keysExchanged_leads (s : State) (a b : Nat) : Leads true B s (keysExchanged s a b) := by
  have given : ∀ u k p f, Leads true B u (u.modSlot k fun z => z.withKeys p f) := fun u k p f =>
    modSlot_relists u k (fun z => z.withKeys p f) fun _ h => h
  exact (given s a _ _).trans (given _ b _ _)

theorem exchangeTaken_eq (s : State) (a b : Nat) :
    exchangeTaken s a b = reviewSlot (reviewSlot (keysExchanged s a b) a) b := rfl

theorem exchangeTaken_leads (s : State) (a b : Nat) : Leads true B s (exchangeTaken s a b) := by
  rw [exchangeTaken_eq]
  exact (keysExchanged_leads s a b).trans ((reviewSlot_calm _ a).trans (reviewSlot_calm _ b)).leads

theorem ensureService_within (s : State) (key : Key) : Within [.services] s (ensureService s key) := by
  unfold ensureService
  split
  · exact Within.refl _ s
  · cases h : createService s key [] with
    | none => exact Within.refl _ s
    | some t => exact createService_within h

theorem moveRefs_within (s : State) (old new : List Key) : Within [.services] s (moveRefs s old new) := by
  unfold moveRefs
  exact (Within.foldl _ (fun s key => modService_within s key _) _ s).trans
    (Within.foldl _ (fun s key => modService_within s key _) _ _)

theorem setSlotTaken_handed (s : State) (a : SlotArgs) : (setSlotTaken s a).handed = s.handed := by
  have listed : Within [.services] s (moveRefs (a.keys.foldl ensureService s) (s.slot a.slot).keys a.keys) :=
    (Within.foldl _ (fun s key => ensureService_within s key) _ s).trans (moveRefs_within _ _ _)
  have freed := fun keys => listed.trans (Within.foldl _ (fun s key => freeIfUnheld_within s key) keys _)
  have moved := fun keys => ((freed keys).mono (qs := [.services, .slots]) (by decide)).trans
    (((modSlot_within _ a.slot fun x => x.set a).trans (reviewSlot_within _ a.slot)).mono (by decide))
  exact moved _ .handed (by decide)

theorem clearSlotTaken_handed (s : State) (k : Nat) : (clearSlotTaken s k).handed = s.handed := by
  have listed := moveRefs_within ((discardQueue s k).modSlot k fun _ => Slot.vacant) (s.slot k).keys []
  have freed := fun keys => listed.trans (Within.foldl _ (fun s key => freeIfUnheld_within s key) keys _)
  exact freed _ .handed (by decide)

theorem exchangeTaken_handed (s : State) (a b : Nat) : (exchangeTaken s a b).handed = s.handed := by
  have moved := fun u => (reviewSlot_within u a).trans (reviewSlot_within _ b)
  exact moved _ .handed (by decide)

theorem setSlotAct_concludes (s : State) (args : List Byte) : Concludes true B s (setSlotAct s args).state := by
  unfold setSlotAct
  dsimp only
  split
  · exact Concludes.refl s
  · exact Concludes.of_handed (setSlotTaken_leads s _) (setSlotTaken_handed s _)

theorem clearSlotAct_concludes (s : State) (args : List Byte) : Concludes true B s (clearSlotAct s args).state := by
  unfold clearSlotAct
  dsimp only
  split
  · exact Concludes.refl s
  split
  · exact Concludes.refl s
  · exact Concludes.of_handed (clearSlotTaken_leads s _) (clearSlotTaken_handed s _)

theorem exchangeSlotsAct_concludes (s : State) (args : List Byte) :
    Concludes true B s (exchangeSlotsAct s args).state := by
  unfold exchangeSlotsAct
  dsimp only
  split
  · exact Concludes.refl s
  split
  · exact Concludes.refl s
  split
  · exact Concludes.refl s
  · exact Concludes.of_handed (exchangeTaken_leads s _ _) (exchangeTaken_handed s _ _)

/-! ### Timer events of slots and rovers -/

theorem enterDwelling_calm (s : State) (l : Nat) : Calm s (enterDwelling s l) :=
  (Calm.modLane s l _).trans (Calm.modRover _ l _)

theorem slotDue_live {s : State} {k : Nat} {st : SlotState} (h : s.slotDue k st = true) (hs : st ≠ .vacant) :
    (s.slot k).state ≠ .vacant := by
  simp only [State.slotDue, Bool.and_eq_true, decide_eq_true_eq] at h
  rw [h.1]
  exact hs

end

/-! ### Resets -/

/-- The tables, the lanes and the entries at the values of a full reset. -/
structure State.Fresh (t : State) : Prop where
  entries : t.entries = State.reset.entries
  pointer : t.surveyPointer = 0
  prompts : t.promptSet = []
  lanes : t.lanes = State.reset.lanes
  services : t.services = []
  carriages : t.carriages = []
  bindings : t.bindings = []
  watch : t.watch = State.reset.watch
  watchSeen : t.watchSeen = State.reset.watchSeen
  slots : t.slots = State.reset.slots
  handed : t.handed = []

theorem fullReset_fresh (s : State) (pins : BitVec 3) : (fullReset s pins).Fresh :=
  ⟨rfl, rfl, rfl, rfl, rfl, rfl, rfl, rfl, rfl, rfl, rfl⟩

/-! ### Every step -/

/-- The slot commands give slots their keys. -/
def relists : Instr → Bool
  | .setSlot | .clearSlot | .exchangeSlots => true
  | _ => false

theorem next_of_check {c : Prop} [Decidable c] {f : Fault} {u t : State}
    (h : (if c then Outcome.fault f else (Outcome.next u : Outcome State Fault Refusal)) = .next t) : t = u := by
  split at h
  · cases h
  · injection h with h
    exact h.symm

end Sys2Proof.Machine
end

section
namespace Sys2Proof.Machine

open Sys2Proof Host

theorem sendReturnCell_calm (s : State) (l : Nat) : Calm s (sendReturnCell s l) :=
  ⟨rfl, rfl, rfl, rfl, follows_refl s.slots, rfl, by simp [sendReturnCell], rfl, fun _ h => h⟩

/-- The rows that bind carriages. -/
def binds : Instr → Bool
  | .cellArrival _ _ | .windowEnd _ | .parkLane => true
  | _ => false

/-- Every row is a full reset or a sequence of moves, under any rule for the rows that bind nothing. -/
theorem exec_concludes {B : BindRule} {i : Instr} {s t : State} (rule : binds i = true → ∀ e l st, B e l st)
    (h : exec i s = .next t) : t.Fresh ∨ Concludes (relists i) B s t := by
  cases i <;> simp only [exec] at h
  case powerOn pins => injection h with h; exact .inl (h ▸ fullReset_fresh s pins)
  case resetPin => injection h with h; subst h; exact .inl ⟨rfl, rfl, rfl, rfl, rfl, rfl, rfl, rfl, rfl, rfl, rfl⟩
  case resetPinRelease pins =>
    injection h with h
    subst h
    split
    · exact .inl ⟨rfl, rfl, rfl, rfl, rfl, rfl, rfl, rfl, rfl, rfl, rfl⟩
    · exact .inr (Concludes.refl s)
  case restart pins =>
    unfold execRestart at h
    split at h
    · injection h with h; exact .inr (h ▸ Concludes.refl s)
    · split at h
      · injection h with h
        subst h
        split
        · exact .inl ⟨rfl, rfl, rfl, rfl, rfl, rfl, rfl, rfl, rfl, rfl, rfl⟩
        · exact .inr (noteRestart_calm s).concludes
      · injection h with h; exact .inr (h ▸ Concludes.refl s)
  all_goals right
  case cellArrival lane cell =>
    unfold execCellArrival at h
    split at h
    · cases h
    rw [next_of_check h]
    exact event_concludes (arriveCell_leads fun _ _ _ _ => rule rfl _ _ _)
  case orderCellSend lane =>
    rw [next_of_check h]
    exact Concludes.ite (fun _ => (sendReturnCell_calm s lane).concludes) fun _ => Concludes.refl s
  case lockTimeout lane => rw [next_of_check h]; exact event_concludes (lockExpired_leads s lane)
  case silenceExpiry lane => rw [next_of_check h]; exact event_concludes (silenceExpired_leads s lane)
  case stallExpiry c => rw [next_of_check h]; exact event_concludes (stallCarriage_leads s c)
  case windowEnd lane =>
    rw [next_of_check h]
    exact event_concludes (windowEnd_leads fun _ _ _ _ _ _ => rule rfl _ _ _)
  case visitLockTimeout lane => rw [next_of_check h]; exact event_concludes (endVisit_leads s lane _)
  case settleExpiry lane => rw [next_of_check h]; exact (quietEvent_calm (enterDwelling_calm s lane)).concludes
  case dwellEnd lane => rw [next_of_check h]; exact event_concludes (endVisit_leads s lane _)
  case changeoverTimeout k =>
    rw [next_of_check h]
    unfold quietEvent
    refine Concludes.ite (fun due => ?_) fun _ => Concludes.refl s
    simp only [Bool.and_eq_true] at due
    exact ((armedExpired_calm (slotDue_live due.1 (by nofun))).trans (settleNotice_calm s _)).concludes
  case splicingTimeout k =>
    rw [next_of_check h]
    unfold quietEvent
    refine Concludes.ite (fun due => ?_) fun _ => Concludes.refl s
    simp only [Bool.and_eq_true] at due
    exact ((endSplice_calm (slotDue_live due.1 (by nofun))).trans (settleNotice_calm s _)).concludes
  all_goals
    injection h with h
    subst h
  case directoryPeriodExpiry =>
    refine (quietEvent_calm ?_).concludes
    exact (Calm.of_within (directoryPeriod_within s) (by decide)).trans (store_calm _ _)
  case cellOpportunity =>
    refine (quietEvent_calm ?_).concludes
    exact (serve_calm s _).trans (Calm.of_within (advanceSchedule_within _) (by decide))
  case noticePlaced => exact (quietEvent_calm ((store_calm s _).trans (mgmt_calm _ _))).concludes
  case unknownCommand => exact takeIf_concludes (fun u _ => Concludes.refl u) s
  case setPolicy => exact takeCommand_concludes setPolicyAct_concludes s
  case setSurvey => exact takeCommand_concludes (fun u _ => (settings_calm u u.policy _ u.output u.store).concludes) s
  case setOutput => exact takeCommand_concludes (fun u _ => (settings_calm u u.policy u.survey _ _).concludes) s
  case setPlanEntry => exact takeCommand_concludes setPlanEntryAct_concludes s
  case clearPlanEntry => exact takeCommand_concludes clearPlanEntryAct_concludes s
  case parkLane => exact takeCommand_concludes (parkLaneAct_concludes (rule rfl)) s
  case roveLane => exact takeCommand_concludes roveLaneAct_concludes s
  case releaseLane => exact takeCommand_concludes releaseLaneAct_concludes s
  case setLane => exact takeCommand_concludes setLaneAct_concludes s
  case setSlot => exact takeCommand_concludes setSlotAct_concludes s
  case clearSlot => exact takeCommand_concludes clearSlotAct_concludes s
  case exchangeSlots => exact takeCommand_concludes exchangeSlotsAct_concludes s
  case pinService => exact takeCommand_concludes pinServiceAct_concludes s
  case setWatch => exact takeCommand_concludes setWatchAct_concludes s
  case promptSurvey => exact takeCommand_concludes (fun u _ => (joinPrompt_calm u _).concludes) s
  case readLane => exact takeCommand_concludes (fun u args => (readLaneAct_calm u args).concludes) s
  case readPlanEntry =>
    exact takeCommand_concludes (fun u args => by rw [readPlanEntryAct_state]; exact Concludes.refl u) s
  case readService => exact takeCommand_concludes readServiceAct_concludes s
  case readCarriage => exact takeCommand_concludes readCarriageAct_concludes s
  case readSlot => exact takeCommand_concludes (fun u args => (readSlotAct_calm u args).concludes) s
  case flushCarriage => exact takeCommand_concludes flushCarriageAct_concludes s
  case forgetCarriage => exact takeCommand_concludes forgetCarriageAct_concludes s
  case readNotices => exact takeCommand_concludes (fun u _ => (clearCounts_calm u).concludes) s
  case readDiscoveryLog => exact takeCommand_concludes (fun u _ => (drainLog_calm u).concludes) s
  case listServices =>
    exact takeCommand_concludes (fun u args => by rw [listServicesAct_state]; exact Concludes.refl u) s
  case listCarriages => exact takeCommand_concludes listCarriagesAct_concludes s

theorem idle_calm (s : State) : Calm s (idle s) := by
  unfold idle
  split
  · exact Calm.refl s
  · split <;> exact ⟨rfl, rfl, rfl, rfl, follows_refl s.slots, rfl, rfl, rfl, fun _ h => h⟩

/-- The queue of waiting steps is no part of any law. -/
theorem pending_calm (s : State) (queue : List Instr) : Calm s { s with pending := queue } :=
  ⟨rfl, rfl, rfl, rfl, follows_refl s.slots, rfl, rfl, rfl, fun _ h => h⟩

/-- Whether the step at the front of the queue gives slots their keys. -/
def State.relistsNext (s : State) : Bool := (s.pending.head?.map relists).getD false

/-- Binding anywhere. -/
def anyBind : BindRule := fun _ _ _ => True

/-- Every step is a full reset or a sequence of moves. -/
theorem step_concludes {s t : State} (h : step s = .next t) : t.Fresh ∨ Concludes s.relistsNext anyBind s t := by
  unfold step at h
  cases queue : s.pending with
  | nil =>
    simp only [queue] at h
    injection h with h
    exact .inr (h ▸ (idle_calm s).concludes)
  | cons i rest =>
    simp only [queue] at h
    have relisting : s.relistsNext = relists i := by simp [State.relistsNext, queue]
    rw [relisting]
    exact (exec_concludes (fun _ _ _ _ => trivial) h).imp id fun run => (pending_calm s rest).concludes.trans run

/-- A law of states at the values of a full reset that every move keeps is kept by every step. -/
theorem step_keeps {P : State → Prop} (fresh : ∀ t, t.Fresh → P t) (ordered : ∀ s, P s → s.CatalogueOrdered)
    (move : ∀ r u v, Move r anyBind u v → P u → P v) {s t : State} (hs : P s) (h : step s = .next t) : P t := by
  rcases step_concludes h with ht | run
  · exact fresh t ht
  · exact run.leads.keeps (fun u v m _ => move _ u v m) (ordered s hs) hs

theorem State.Fresh.catalogueOrdered {t : State} (h : t.Fresh) : t.CatalogueOrdered := by
  simp [State.CatalogueOrdered, h.services, h.carriages]

end Sys2Proof.Machine

open Sys2Proof Sys2Proof.Machine Host

/-- Settles O10: every move keeps the order of the catalogue, and every step is moves or a full reset. -/
theorem catalogueStaysOrdered : Obligations.CatalogueStaysOrdered := by
  intro s t ordered h
  exact step_keeps (P := State.CatalogueOrdered) (fun _ fresh => fresh.catalogueOrdered) (fun _ => id)
    (fun _ _ _ m => m.ordered) ordered h

end

section
namespace Sys2Proof.Machine

open Sys2Proof Host

/-! ## The Binding Table and the carriages agree (R14, R18) -/

/-! ### References -/

/-- How many components of a carriage name a binding. -/
def Carriage.refs (x : Carriage) (name : BindingName) : Nat := x.components.countP fun d => d.binding = some name

/-- How many components of the carriages of a table name a binding. -/
def refsIn (t : List (Nat × Carriage)) (name : BindingName) : Nat := (t.map fun x => x.2.refs name).sum

theorem State.referencesTo_eq (s : State) (name : BindingName) : s.referencesTo name = refsIn s.carriages name := rfl

theorem refsIn_perm {t u : List (Nat × Carriage)} (h : t.Perm u) (name : BindingName) :
    refsIn t name = refsIn u name := (h.map _).sum_eq

/-- Putting another record at an index changes the references by those of the two records. -/
theorem refsIn_replaceAt {t : List (Nat × Carriage)} {c : Nat} {x : Carriage} (ho : TableOrdered t)
    (hx : tableGet t c = some x) (y : Carriage) (name : BindingName) :
    refsIn (replaceAt t c y) name + x.refs name = refsIn t name + y.refs name := by
  induction t with
  | nil => simp [tableGet] at hx
  | cons z t ih =>
    obtain ⟨above, ho'⟩ := List.pairwise_cons.1 ho
    simp only [refsIn, replaceAt, List.map_cons, List.sum_cons] at ih ⊢
    by_cases hz : z.1 = c
    · have others : ∀ w ∈ t, ((w.1, if w.1 = c then y else w.2) : Nat × Carriage) = w := fun w hw => by
        have : w.1 ≠ c := by have := above w hw; omega
        simp [this]
      have first : z.2 = x := by simpa [tableGet, hz] using hx
      rw [List.map_congr_left others, List.map_id']
      simp only [hz, if_true, first]
      omega
    · have := ih ho' (by simpa [tableGet, hz] using hx)
      simp only [hz, if_false]
      omega

theorem refsIn_erase {t : List (Nat × Carriage)} {c : Nat} {x : Carriage} (ho : TableOrdered t)
    (hx : tableGet t c = some x) (name : BindingName) : refsIn (tableErase t c) name + x.refs name = refsIn t name := by
  induction t with
  | nil => simp [tableGet] at hx
  | cons z t ih =>
    obtain ⟨above, ho'⟩ := List.pairwise_cons.1 ho
    by_cases hz : z.1 = c
    · have others : t.filter (fun w => w.1 ≠ c) = t := List.filter_eq_self.2 fun w hw => by
        have := above w hw
        simp; omega
      have first : z.2 = x := by simpa [tableGet, hz] using hx
      simp only [refsIn, tableErase, List.filter_cons, hz, ne_eq, not_true, decide_false, Bool.false_eq_true, if_false,
        List.map_cons, List.sum_cons, first]
      rw [others]
      omega
    · have := ih ho' (by simpa [tableGet, hz] using hx)
      simp only [refsIn, tableErase, List.filter_cons, ne_eq, hz, not_false_eq_true, decide_true, if_true, List.map_cons,
        List.sum_cons] at this ⊢
      omega

theorem Carriage.refs_eq_count (x : Carriage) (name : BindingName) : x.refs name = x.names.count name := by
  unfold Carriage.refs Carriage.names
  induction x.components with
  | nil => rfl
  | cons d ds ih =>
    cases h : d.binding with
    | none => simp [h, ih]
    | some m =>
      rw [List.countP_cons, List.filterMap_cons_some h, List.count_cons, ih]
      simp [h]

theorem Carriage.refs_eq_zero {x : Carriage} (h : ∀ d ∈ x.components, d.binding = none) (name : BindingName) :
    x.refs name = 0 := by
  unfold Carriage.refs
  rw [List.countP_eq_zero]
  intro d hd
  simp [h d hd]

theorem Carriage.refs_le {t : List (Nat × Carriage)} {x : Nat × Carriage} (hx : x ∈ t) (name : BindingName) :
    x.2.refs name ≤ refsIn t name :=
  List.single_le_sum (by simp) _ (List.mem_map.2 ⟨x, hx, rfl⟩)

/-! ### A carriage by itself (R18) -/

/-- R18 for one carriage by itself: its binding references, by its state. -/
def Carriage.Wired (x : Carriage) : Prop :=
  (x.components.map (·.flow)).Nodup ∧
    if x.state.holdsBindings then
      ∃ l, x.lane = some l ∧ ∀ d ∈ x.components, d.binding = some { lane := l, flow := d.flow }
    else ∀ d ∈ x.components, d.binding = none

theorem Carriage.namesOn_nodup {x : Carriage} (h : (x.components.map (·.flow)).Nodup) (l : Nat) :
    (x.namesOn l).Nodup := by
  unfold Carriage.namesOn
  rw [List.Nodup, List.pairwise_map] at *
  exact h.imp fun ne e => ne (by simpa using congrArg BindingName.flow e)

theorem Carriage.Wired.names_nodup {x : Carriage} (h : x.Wired) : x.names.Nodup := by
  obtain ⟨flows, wiring⟩ := h
  split at wiring
  · obtain ⟨l, -, wired⟩ := wiring
    have : x.names = x.namesOn l := by
      unfold Carriage.names Carriage.namesOn
      rw [← List.filterMap_eq_map]
      exact List.filterMap_congr fun d hd => wired d hd
    rw [this]
    exact Carriage.namesOn_nodup flows l
  · have : x.names = [] := List.filterMap_eq_nil_iff.2 wiring
    rw [this]
    exact List.nodup_nil

theorem Carriage.Wired.refs_eq {x : Carriage} (h : x.Wired) (name : BindingName) :
    x.refs name = if name ∈ x.names then 1 else 0 := by
  rw [Carriage.refs_eq_count, h.names_nodup.count]

theorem Carriage.Wired.idle {x : Carriage} (h : x.Wired) (idle : x.state.holdsBindings = false) :
    ∀ d ∈ x.components, d.binding = none := by
  have wiring := h.2
  simpa [idle] using wiring

theorem scored_holdsBindings {st : CarriageState} (h : st.isScored = true) : st.holdsBindings = true := by
  cases st <;> first | rfl | cases h

/-- A change that keeps the components, the lane and the class of the state keeps the law. -/
theorem Carriage.Stands.wired {x y : Carriage} (h : x.Stands y) (hx : x.Wired) : y.Wired := by
  have class_eq : y.state.holdsBindings = x.state.holdsBindings := by
    rcases h.state with e | ⟨hx, hy⟩
    · rw [e]
    · rw [scored_holdsBindings hx, scored_holdsBindings hy]
  unfold Carriage.Wired
  rw [class_eq, h.components, h.lane]
  exact hx

theorem shelvedNow_wired {x : Carriage} (h : (x.components.map (·.flow)).Nodup) : x.shelvedNow.Wired := by
  refine ⟨?_, ?_⟩
  · simpa [Carriage.shelvedNow, Function.comp_def] using h
  · have idle : x.shelvedNow.state.holdsBindings = false := rfl
    rw [idle]
    simp [Carriage.shelvedNow]

/-! ### The counts (R14) -/

/-- The table of bindings has a record for each name that is referred to, and counts its references. -/
structure Tallied (bs : List Binding) (refs : BindingName → Nat) : Prop where
  ordered : BindingsOrdered bs
  size : bs.length ≤ 2048
  counted : ∀ name, ((findBinding bs name).map (·.refCount)).getD 0 = refs name
  range : ∀ name b, findBinding bs name = some b → 1 ≤ b.refCount ∧ b.refCount ≤ 4

theorem bindingsLawful_iff (s : State) : s.BindingsLawful ↔
    s.CatalogueOrdered ∧ Tallied s.bindings (refsIn s.carriages) ∧ ∀ x ∈ s.carriages, x.2.Wired := by
  constructor
  · rintro ⟨ordered, rising, size, counts, lawful⟩
    have wired : ∀ x ∈ s.carriages, x.2.Wired := fun x hx => by
      obtain ⟨flows, wiring⟩ := lawful x hx
      refine ⟨flows, ?_⟩
      split at wiring
      · rename_i holds
        obtain ⟨l, lane, wired⟩ := wiring
        rw [if_pos holds]
        exact ⟨l, lane, fun d hd => (wired d hd).1⟩
      · rename_i idle
        rw [if_neg idle]
        exact wiring
    refine ⟨ordered, ⟨rising, size, fun name => ?_, fun name b hb => ?_⟩, wired⟩
    · cases found : findBinding s.bindings name with
      | some b =>
        obtain ⟨mem, rfl⟩ := findBinding_name found
        exact (counts b mem).1
      | none =>
        have unnamed : ∀ n ∈ s.carriages.map fun x => x.2.refs name, n = 0 := by
          intro n hn
          obtain ⟨x, hx, rfl⟩ := List.mem_map.1 hn
          refine List.countP_eq_zero.2 fun d hd named => ?_
          obtain ⟨-, wiring⟩ := lawful x hx
          have named : d.binding = some name := of_decide_eq_true named
          split at wiring
          · obtain ⟨l, -, wired⟩ := wiring
            obtain ⟨own, recorded⟩ := wired d hd
            rw [own] at named
            cases named
            rw [State.binding_mk, found] at recorded
            cases recorded
          · rw [wiring d hd] at named
            cases named
        exact (List.sum_eq_zero unnamed).symm
    · obtain ⟨mem, -⟩ := findBinding_name hb
      exact (counts b mem).2
  · rintro ⟨ordered, tallied, wired⟩
    refine ⟨ordered, tallied.ordered, tallied.size, fun b hb => ?_, fun x hx => ?_⟩
    · have found := findBinding_of_mem tallied.ordered hb
      have counted := tallied.counted b.name
      rw [found] at counted
      exact ⟨counted, tallied.range _ _ found⟩
    · obtain ⟨flows, wiring⟩ := wired x hx
      refine ⟨flows, ?_⟩
      split at wiring
      · rename_i holds
        obtain ⟨l, lane, own⟩ := wiring
        rw [if_pos holds]
        refine ⟨l, lane, fun d hd => ⟨own d hd, ?_⟩⟩
        have named : 0 < x.2.refs { lane := l, flow := d.flow } :=
          List.countP_pos_iff.2 ⟨d, hd, decide_eq_true (own d hd)⟩
        have := tallied.counted { lane := l, flow := d.flow }
        have := Carriage.refs_le hx { lane := l, flow := d.flow }
        rw [State.binding_mk]
        cases found : findBinding s.bindings { lane := l, flow := d.flow } with
        | some b => rfl
        | none => simp [found] at *; omega
      · rename_i idle
        rw [if_neg idle]
        exact wiring

theorem Tallied.congr {bs : List Binding} {refs refs' : BindingName → Nat} (h : Tallied bs refs)
    (same : ∀ name, refs' name = refs name) : Tallied bs refs' :=
  ⟨h.ordered, h.size, fun name => (h.counted name).trans (same name).symm, h.range⟩

/-- Leaving distinct bindings that are referred to takes one from the count of each (R16). -/
theorem Tallied.leave {s : State} {refs : BindingName → Nat} (h : Tallied s.bindings refs) {names : List BindingName}
    (nodup : names.Nodup) :
    Tallied (names.foldl leaveBinding s).bindings fun m => refs m - if m ∈ names then 1 else 0 := by
  refine ⟨foldl_leave_ordered names s h.ordered, (foldl_leave_length_le names s).trans h.size, fun m => ?_,
    fun m b hb => ?_⟩
  · have counted := h.counted m
    rw [foldl_leave_find names nodup]
    by_cases hm : m ∈ names
    · cases found : findBinding s.bindings m with
      | none => simp only [found] at counted; simp [hm, ← counted]
      | some b =>
        have range := h.range m b found
        simp only [found, Option.map_some, Option.getD_some] at counted
        by_cases last : b.refCount ≤ 1
        · simp [hm, left, last]; omega
        · rw [← counted]
          simp [hm, left, last]
    · simpa [hm] using counted
  · rw [foldl_leave_find names nodup] at hb
    split at hb
    · obtain ⟨d, found, hd⟩ := Option.bind_eq_some_iff.1 hb
      have range := h.range m d found
      unfold left at hd
      split at hd
      · cases hd
      · injection hd with hd
        subst hd
        dsimp only
        omega
    · exact h.range m b hb

/-- Joining distinct bindings that have room, where the new ones fit the table, adds one to the count of each
(R15). -/
theorem Tallied.join {s : State} {refs : BindingName → Nat} (h : Tallied s.bindings refs) {names : List BindingName}
    (nodup : names.Nodup) (room : ∀ m ∈ names, ∀ b, findBinding s.bindings m = some b → b.refCount < 4)
    (fits : s.bindings.length + (names.countP fun n => (findBinding s.bindings n).isNone) ≤ 2048) :
    Tallied (names.foldl joinBinding s).bindings fun m => refs m + if m ∈ names then 1 else 0 := by
  refine ⟨foldl_join_ordered names s h.ordered, by rw [foldl_join_length names nodup]; exact fits, fun m => ?_,
    fun m b hb => ?_⟩
  · have counted := h.counted m
    rw [foldl_join_find names nodup]
    by_cases hm : m ∈ names
    · cases found : findBinding s.bindings m with
      | none =>
        simp only [found, Option.map_none, Option.getD_none] at counted
        simp [hm, joined, Binding.fresh, ← counted]
      | some b =>
        simp only [found, Option.map_some, Option.getD_some] at counted
        simp [hm, joined, counted]
    · simpa [hm] using counted
  · rw [foldl_join_find names nodup] at hb
    split at hb
    · rename_i hm
      injection hb with hb
      subst hb
      cases found : findBinding s.bindings m with
      | none => simp [joined, Binding.fresh]
      | some d =>
        have := h.range m d found
        have := room m hm d found
        simp only [joined]
        omega
    · exact h.range m b hb

/-! ### Attempts and releases -/

theorem canBind_iff (s : State) (l : Nat) (cs : List Component) : canBind s l cs = true ↔
    (∀ d ∈ cs, ∀ b, findBinding s.bindings { lane := l, flow := d.flow } = some b → b.refCount < 4) ∧
      (cs.countP fun d => (findBinding s.bindings { lane := l, flow := d.flow }).isNone) + s.bindings.length ≤ 2048 := by
  unfold canBind
  simp only [Bool.and_eq_true, List.all_eq_true, State.binding_mk]
  refine and_congr (forall₂_congr fun d _ => ?_) decide_eq_true_iff
  cases findBinding s.bindings { lane := l, flow := d.flow } with
  | none => simp
  | some b => exact ⟨fun h d hd => by cases hd; exact of_decide_eq_true h, fun h => decide_eq_true (h b rfl)⟩

theorem bound_refs {x : Carriage} (flows : (x.components.map (·.flow)).Nodup) (l : Nat) (st : CarriageState) (down : Bool)
    (mark : Option Bool) (now : Clock) (name : BindingName) :
    (x.bound l st down mark now).refs name = if name ∈ x.namesOn l then 1 else 0 := by
  have names : (x.bound l st down mark now).names = x.namesOn l := by
    simp [Carriage.names, Carriage.bound, Carriage.namesOn]
  rw [Carriage.refs_eq_count, names, (Carriage.namesOn_nodup flows l).count]

theorem boundState_holds (s : State) (l : Nat) : (s.boundState l).holdsBindings = true := by
  unfold State.boundState
  split <;> rfl

/-- What a bind attempt leaves of a carriage meets R18, whatever it held. -/
theorem attempted_wired (s : State) (l : Nat) (mark : Bool) {x : Carriage}
    (flows : (x.components.map (·.flow)).Nodup) : (s.attempted l mark x).Wired := by
  unfold State.attempted
  split
  · refine ⟨by simpa [Carriage.bound, Function.comp_def] using flows, ?_⟩
    have holds : (x.bound l (s.boundState l) (s.laneDownOf l) (s.markOn l mark) s.clock).state.holdsBindings = true :=
      boundState_holds s l
    rw [holds]
    exact ⟨l, rfl, by simp [Carriage.bound]⟩
  · refine ⟨by simpa [Carriage.unbound, Function.comp_def] using flows, ?_⟩
    have idle : (x.unbound l (s.laneDownOf l)).state.holdsBindings = false := rfl
    rw [idle]
    simp [Carriage.unbound]

/-- A bind attempt adds the references of the carriage it leaves. -/
theorem attemptBind_tallied {s : State} {c l : Nat} {mark : Bool} {x : Carriage} {refs : BindingName → Nat}
    (found : s.carriage c = some x) (flows : (x.components.map (·.flow)).Nodup) (h : Tallied s.bindings refs) :
    Tallied (attemptBind s c l mark).bindings fun m => refs m + (s.attempted l mark x).refs m := by
  rw [attemptBind_bindings found]
  unfold State.attempted
  by_cases bindable : canBind s l x.components = true
  · obtain ⟨room, fits⟩ := (canBind_iff s l x.components).1 bindable
    rw [if_pos bindable, if_pos bindable]
    refine (h.join (Carriage.namesOn_nodup flows l) (fun m hm => ?_) ?_).congr fun m => by rw [bound_refs flows]
    · obtain ⟨d, hd, rfl⟩ := List.mem_map.1 hm
      exact room d hd
    · rw [Carriage.namesOn, List.countP_map]
      simp only [Function.comp_def]
      omega
  · rw [if_neg bindable, if_neg bindable]
    refine h.congr fun m => ?_
    rw [Carriage.refs_eq_zero (by simp [Carriage.unbound])]
    rfl

/-- A release takes away the references of the carriage. -/
theorem releaseBindings_tallied {s : State} {c : Nat} {x : Carriage} {refs : BindingName → Nat}
    (found : s.carriage c = some x) (wired : x.Wired) (h : Tallied s.bindings refs) :
    Tallied (releaseBindings s c).bindings fun m => refs m - x.refs m := by
  rw [releaseBindings_bindings found]
  exact (h.leave wired.names_nodup).congr fun m => by rw [wired.refs_eq]

/-- The law after a change of one carriage, from the counts without it. -/
theorem bindingsLawful_of_replaceAt {s t : State} {c : Nat} {x y : Carriage} (hs : s.BindingsLawful)
    (found : s.carriage c = some x) (ordered : t.CatalogueOrdered) (carriages : t.carriages = replaceAt s.carriages c y)
    (wired : y.Wired) (tallied : Tallied t.bindings fun m => refsIn s.carriages m - x.refs m + y.refs m) :
    t.BindingsLawful := by
  obtain ⟨so, -, swired⟩ := (bindingsLawful_iff s).1 hs
  refine (bindingsLawful_iff t).2 ⟨ordered, tallied.congr fun m => ?_, fun z hz => ?_⟩
  · rw [carriages]
    have := refsIn_replaceAt so.carriages_ordered found y m
    have := Carriage.refs_le (State.carriage_mem found) m
    simp only at this
    omega
  · rw [carriages] at hz
    rcases mem_replaceAt hz with rfl | ⟨hz, -⟩
    · exact wired
    · exact swired z hz

/-! ### Moves -/

/-- A change that leaves the carriages and the bindings. -/
theorem bindingsLawful_of_eq {s t : State} (hs : s.BindingsLawful) (ordered : t.CatalogueOrdered)
    (carriages : t.carriages = s.carriages) (bindings : t.bindings = s.bindings) : t.BindingsLawful := by
  obtain ⟨-, tallied, wired⟩ := (bindingsLawful_iff s).1 hs
  exact (bindingsLawful_iff t).2 ⟨ordered, by rw [bindings, carriages]; exact tallied, by rw [carriages]; exact wired⟩

theorem State.BindingsLawful.wired {s : State} (hs : s.BindingsLawful) {c : Nat} {x : Carriage}
    (found : s.carriage c = some x) : x.Wired := ((bindingsLawful_iff s).1 hs).2.2 _ (State.carriage_mem found)

theorem attempt_bindingsLawful {s : State} {c : Nat} {x : Carriage} (l : Nat) (mark : Bool) (hs : s.BindingsLawful)
    (found : s.carriage c = some x) (idle : x.state.holdsBindings = false) :
    (attemptBind s c l mark).BindingsLawful := by
  obtain ⟨ordered, tallied, -⟩ := (bindingsLawful_iff s).1 hs
  have wired := hs.wired found
  refine bindingsLawful_of_replaceAt hs found (attemptBind_ordered c l mark ordered)
    (attemptBind_carriages ordered.carriages_ordered found l mark) (attempted_wired s l mark wired.1)
    ((attemptBind_tallied found wired.1 tallied).congr fun m => ?_)
  rw [Carriage.refs_eq_zero (wired.idle idle) m]
  rfl

theorem shelve_bindingsLawful {s : State} (c : Nat) (hs : s.BindingsLawful) : (shelve s c).BindingsLawful := by
  obtain ⟨ordered, tallied, -⟩ := (bindingsLawful_iff s).1 hs
  cases found : s.carriage c with
  | none => rw [shelve_none found]; exact hs
  | some x =>
    have wired := hs.wired found
    refine bindingsLawful_of_replaceAt hs found (shelve_ordered c ordered)
      (shelve_carriages ordered.carriages_ordered found) (shelvedNow_wired wired.1) ?_
    rw [shelve_bindings found]
    refine (releaseBindings_tallied found wired tallied).congr fun m => ?_
    rw [Carriage.refs_eq_zero (x := x.shelvedNow) (by simp [Carriage.shelvedNow]) m]
    rfl

theorem removeCarriage_bindingsLawful {s : State} (c : Nat) (hs : s.BindingsLawful) :
    (removeCarriage s c).BindingsLawful := by
  obtain ⟨ordered, tallied, swired⟩ := (bindingsLawful_iff s).1 hs
  cases found : s.carriage c with
  | none => rw [removeCarriage_none found]; exact hs
  | some x =>
    have carriages := removeCarriage_carriages ordered.carriages_ordered found
    refine (bindingsLawful_iff _).2 ⟨removeCarriage_ordered c ordered, ?_, fun z hz => ?_⟩
    · rw [removeCarriage_bindings found]
      refine (releaseBindings_tallied found (hs.wired found) tallied).congr fun m => ?_
      have := refsIn_erase ordered.carriages_ordered found m
      rw [carriages]
      omega
    · rw [carriages] at hz
      exact swired z (List.mem_filter.1 hz).1

theorem relisted_flows (x : Carriage) (comps : List (Kind × Nat)) (timing : Option Nat) :
    (x.relisted comps timing).components.map (·.flow) = comps.map Prod.snd := by
  simp [Carriage.relisted, Function.comp_def]

theorem rebind_bindingsLawful {s : State} {c l : Nat} {comps : List (Kind × Nat)} {timing : Option Nat} {x : Carriage}
    (hs : s.BindingsLawful) (found : s.carriage c = some x) (flows : (comps.map Prod.snd).Nodup)
    (ordered' : (rebind s c l comps timing).CatalogueOrdered) : (rebind s c l comps timing).BindingsLawful := by
  obtain ⟨ordered, tallied, -⟩ := (bindingsLawful_iff s).1 hs
  have flows' : ((x.relisted comps timing).components.map (·.flow)).Nodup := by rw [relisted_flows]; exact flows
  have released := releaseBindings_tallied found (hs.wired found) tallied
  rw [← relist_bindings s c comps timing] at released
  refine bindingsLawful_of_replaceAt hs found ordered'
    (rebind_carriages ordered.carriages_ordered found l comps timing) (attempted_wired _ l false flows') ?_
  rw [rebind_bindings]
  exact attemptBind_tallied (relist_carriage ordered.carriages_ordered found comps timing) flows' released

theorem create_bindingsLawful {s : State} {c l e : Nat} {v : Listed} {mark : Bool} (hs : s.BindingsLawful)
    (vacant : s.carriage c = none) (flows : (v.components.map Prod.snd).Nodup)
    (created : (withCarriage s c (Carriage.created e v s.clock)).CatalogueOrdered) :
    (attemptBind (withCarriage s c (Carriage.created e v s.clock)) c l mark).BindingsLawful := by
  obtain ⟨ordered, tallied, wired⟩ := (bindingsLawful_iff s).1 hs
  have unwired : ∀ d ∈ (Carriage.created e v s.clock).components, d.binding = none := by
    intro d hd
    obtain ⟨_, -, rfl⟩ := List.mem_map.1 hd
    rfl
  refine attempt_bindingsLawful l mark (x := Carriage.created e v s.clock) ?_
    (tableGet_set_same _ ordered.carriages_ordered vacant) rfl
  refine (bindingsLawful_iff _).2 ⟨created, tallied.congr fun m => ?_, fun z hz => ?_⟩
  · show refsIn (tableSet s.carriages c _) m = _
    rw [refsIn_perm (tableSet_perm _ vacant)]
    simp [refsIn, Carriage.refs_eq_zero unwired]
  · rcases (mem_tableSet vacant z).1 hz with rfl | hz
    · refine ⟨by simpa [Carriage.created, Function.comp_def] using flows, ?_⟩
      have idle : (Carriage.created e v s.clock).state.holdsBindings = false := rfl
      rw [idle]
      exact unwired
    · exact wired z hz

theorem tallied_map {bs : List Binding} {refs : BindingName → Nat} (h : Tallied bs refs) {g : Binding → Binding}
    (stands : ∀ b : Binding, (g b).name = b.name ∧ (g b).refCount = b.refCount) : Tallied (bs.map g) refs := by
  refine ⟨bindingsOrdered_map g (fun b => (stands b).1) h.ordered, by simpa using h.size, fun m => ?_, fun m b hb => ?_⟩
  · rw [findBinding_map _ _ _ fun b => (stands b).1, ← h.counted m]
    cases findBinding bs m with
    | none => rfl
    | some b => exact (stands b).2
  · rw [findBinding_map _ _ _ fun b => (stands b).1] at hb
    obtain ⟨d, found, rfl⟩ := Option.map_eq_some_iff.1 hb
    rw [(stands d).2]
    exact h.range m d found

/-- Every move keeps the Binding Table and the carriages in agreement. -/
theorem Move.bindingsLawful {r : Bool} {B : BindRule} {s t : State} (h : Move r B s t) (hs : s.BindingsLawful) :
    t.BindingsLawful := by
  obtain ⟨ordered, tallied, wired⟩ := (bindingsLawful_iff s).1 hs
  have ordered' := h.ordered ordered
  cases h with
  | rest calm => exact bindingsLawful_of_eq hs ordered' calm.carriages calm.bindings
  | adjust f handed stands told result =>
    subst result
    refine (bindingsLawful_iff _).2 ⟨ordered', tallied.congr fun m => ?_, fun z hz => ?_⟩
    · unfold refsIn
      dsimp only
      rw [List.map_map]
      refine congrArg List.sum (List.map_congr_left fun x hx => ?_)
      simp [Carriage.refs, (stands x hx).components]
    · obtain ⟨x, hx, rfl⟩ := List.mem_map.1 hz
      exact (stands x hx).wired (wired x hx)
  | record g stands refs result => subst result; exact bindingsLawful_of_eq hs ordered' rfl rfl
  | tally g stands result =>
    subst result
    exact (bindingsLawful_iff _).2 ⟨ordered', tallied_map tallied stands, wired⟩
  | attempt found idle rule => exact attempt_bindingsLawful _ _ hs found idle
  | shelve c => exact shelve_bindingsLawful c hs
  | rebind found flows rule => exact rebind_bindingsLawful hs found flows ordered'
  | remove c => exact removeCarriage_bindingsLawful c hs
  | create recorded new free flows rule =>
    exact create_bindingsLawful hs (lowestFree_some free).2 flows (create_ordered free recorded new rfl rfl ordered)
  | newService new created =>
    obtain ⟨i, -, rfl⟩ := createService_some created
    exact bindingsLawful_of_eq hs ordered' rfl rfl
  | free key =>
    exact bindingsLawful_of_eq hs ordered' (freeIfUnheld_carriages s key)
      (freeIfUnheld_within s key .bindings (by decide))
  | evaluate =>
    exact bindingsLawful_of_eq hs ordered' (evaluateHanded_carriages s)
      (evaluateHanded_within s .bindings (by decide))
  | pin own => exact bindingsLawful_of_eq hs ordered' rfl rfl
  | relist allowed g stands services carriages bindings handed shaped =>
    exact bindingsLawful_of_eq hs ordered' carriages bindings

theorem State.Fresh.bindingsLawful {t : State} (h : t.Fresh) : t.BindingsLawful :=
  (bindingsLawful_iff t).2 ⟨h.catalogueOrdered, by
    rw [h.bindings, h.carriages]
    exact ⟨List.Pairwise.nil, Nat.zero_le _, fun _ => rfl, fun _ _ hb => by cases hb⟩, by simp [h.carriages]⟩

end Sys2Proof.Machine

open Sys2Proof Sys2Proof.Machine Host

/-- Settles O11: every move keeps the agreement, the counts of a release and of a bind attempt being those of the
references they take away and add. -/
theorem bindingsAgreeWithCarriages : Obligations.BindingsAgreeWithCarriages := by
  intro s t lawful h
  exact step_keeps (P := State.BindingsLawful) (fun _ fresh => fresh.bindingsLawful) (fun _ hs => hs.1)
    (fun _ _ _ m => m.bindingsLawful) lawful h

end

section
namespace Sys2Proof.Machine

open Sys2Proof Host

/-! ## The lineup: slots, keys and references (R7, R126, R142) -/

/-- The keys of the service records with their slot references. -/
def State.serviceRefs (s : State) : List (Key × Nat) := s.services.map fun x => (x.2.key, x.2.slotRefs)

/-- A list of slots as R126 and R142 have it: the vacant ones at their reset values, the others with a key of their
own and a base flow, and no two ranges of flows meeting. -/
structure SlotsKeyed (slots : List Slot) : Prop where
  vacant : ∀ x ∈ slots, x.state = .vacant → x = Slot.vacant
  live : ∀ x ∈ slots, x.state ≠ .vacant →
    x.primary.isSome ∧ x.fallback ≠ x.primary ∧ ∃ b, x.baseFlow = some b ∧ b ≤ 4026
  apart : ∀ i j, i ≠ j → ∀ a b, (slots.getD i Slot.vacant).baseFlow = some a →
    (slots.getD j Slot.vacant).baseFlow = some b → a + 6 ≤ b ∨ b + 6 ≤ a

/-- How many slots name a key (R7). -/
def naming (slots : List Slot) (key : Key) : Nat := slots.countP fun k => k.keys.contains key

/-- Records of keys that count the slots naming each, with a record for each key named (R7). -/
structure Counted (refs : List (Key × Nat)) (slots : List Slot) : Prop where
  recorded : ∀ x ∈ slots, ∀ key ∈ x.keys, key ∈ refs.map Prod.fst
  counts : ∀ p ∈ refs, p.2 = naming slots p.1

theorem service_isSome_iff_refs (s : State) (key : Key) :
    (s.service key).isSome ↔ key ∈ s.serviceRefs.map Prod.fst := by
  rw [State.service_isSome, State.serviceRefs, List.map_map]
  rfl

theorem lineupLawful_iff (s : State) : s.LineupLawful ↔
    s.Shaped ∧ s.CatalogueOrdered ∧ SlotsKeyed s.slots ∧ Counted s.serviceRefs s.slots := by
  constructor
  · rintro ⟨shaped, ordered, vacant, live, recorded, counts, apart⟩
    refine ⟨shaped, ordered, ⟨vacant, live, fun i j hij a b ha hb => ?_⟩,
      fun x hx key hk => (service_isSome_iff_refs s key).1 (recorded x hx key hk), fun p hp => ?_⟩
    · have inside : ∀ k c, (s.slots.getD k Slot.vacant).baseFlow = some c → k < 128 := fun k c hc => by
        by_contra outside
        have : s.slots.length = 128 := shaped.2.2.1
        rw [List.getD_eq_default _ _ (by omega)] at hc
        cases hc
      exact apart i (inside i a ha) j (inside j b hb) hij a b ha hb
    · obtain ⟨x, hx, rfl⟩ := List.mem_map.1 hp
      exact counts x hx
  · rintro ⟨shaped, ordered, ⟨vacant, live, apart⟩, recorded, counts⟩
    exact ⟨shaped, ordered, vacant, live, fun x hx key hk => (service_isSome_iff_refs s key).2 (recorded x hx key hk),
      fun x hx => counts _ (List.mem_map.2 ⟨x, hx, rfl⟩), fun i _ j _ hij => apart i j hij⟩

/-! ### Slots that follow one another -/

/-- A slot that follows a lawful one names the same keys and feeds the same flows. -/
theorem Slot.Follows.same {x y : Slot} (h : x.Follows y) (vacant : x.state = .vacant → x = Slot.vacant) :
    (y.state = .vacant ↔ x.state = .vacant) ∧ y.primary = x.primary ∧ y.fallback = x.fallback ∧
      y.baseFlow = x.baseFlow := by
  by_cases hx : x.state = .vacant
  · have hy := h.vacant (vacant hx)
    rw [hy, vacant hx]
    simp
  · obtain ⟨state, primary, fallback, base⟩ := h.tenure hx
    exact ⟨⟨fun e => absurd e state, fun e => absurd e hx⟩, primary, fallback, base⟩

theorem follows_getD {a b : List Slot} (h : List.Forall₂ Slot.Follows a b) (i : Nat) :
    (a.getD i Slot.vacant).Follows (b.getD i Slot.vacant) := by
  induction h generalizing i with
  | nil => exact Slot.Follows.refl _
  | cons hx _ ih =>
    cases i with
    | zero => exact hx
    | succ i => exact ih i

theorem getD_vacant {slots : List Slot} (h : ∀ x ∈ slots, x.state = .vacant → x = Slot.vacant) (i : Nat)
    (vacant : (slots.getD i Slot.vacant).state = .vacant) : slots.getD i Slot.vacant = Slot.vacant := by
  by_cases hi : i < slots.length
  · rw [List.getD_eq_getElem _ _ hi] at vacant ⊢
    exact h _ (List.getElem_mem hi) vacant
  · exact List.getD_eq_default _ _ (by omega)

theorem SlotsKeyed.follows {a b : List Slot} (h : List.Forall₂ Slot.Follows a b) (ha : SlotsKeyed a) :
    SlotsKeyed b := by
  have same : ∀ i, (b.getD i Slot.vacant).baseFlow = (a.getD i Slot.vacant).baseFlow := fun i =>
    ((follows_getD h i).same (getD_vacant ha.vacant i)).2.2.2
  refine ⟨fun y hy vacant => ?_, fun y hy live => ?_, fun i j hij c d hc hd => ?_⟩
  · obtain ⟨x, hx, follows⟩ := follows_mem h hy
    exact follows.vacant (ha.vacant x hx ((follows.same (ha.vacant x hx)).1.1 vacant))
  · obtain ⟨x, hx, follows⟩ := follows_mem h hy
    obtain ⟨state, primary, fallback, base⟩ := follows.same (ha.vacant x hx)
    rw [primary, fallback, base]
    exact ha.live x hx fun e => live (state.2 e)
  · rw [same] at hc hd
    exact ha.apart i j hij c d hc hd

theorem follows_keys {a b : List Slot} (h : List.Forall₂ Slot.Follows a b)
    (vacant : ∀ x ∈ a, x.state = .vacant → x = Slot.vacant) : b.map Slot.keys = a.map Slot.keys := by
  induction h with
  | nil => rfl
  | cons hx _ ih =>
    obtain ⟨-, primary, fallback, -⟩ := hx.same (vacant _ (List.mem_cons_self ..))
    rw [List.map_cons, List.map_cons, ih fun z hz => vacant z (List.mem_cons_of_mem _ hz)]
    simp [Slot.keys, primary, fallback]

theorem naming_eq_map (slots : List Slot) (key : Key) :
    naming slots key = (slots.map Slot.keys).countP fun keys => keys.contains key := by
  rw [naming, List.countP_map]
  rfl

/-- The counts speak of the keys of the slots alone. -/
theorem Counted.of_keys {refs : List (Key × Nat)} {a b : List Slot} (h : Counted refs a)
    (keys : b.map Slot.keys = a.map Slot.keys) : Counted refs b := by
  refine ⟨fun y hy key hk => ?_, fun p hp => ?_⟩
  · obtain ⟨x, hx, e⟩ := List.mem_map.1 (keys ▸ List.mem_map.2 ⟨y, hy, rfl⟩)
    exact h.recorded x hx key (e ▸ hk)
  · rw [h.counts p hp, naming_eq_map, naming_eq_map, keys]

/-! ### Records that come and go -/

theorem naming_eq_zero {slots : List Slot} {key : Key} : naming slots key = 0 ↔ ∀ x ∈ slots, key ∉ x.keys := by
  simp [naming, List.countP_eq_zero]

/-- A new record, of a key that no slot names, counts none. -/
theorem Counted.create {refs refs' : List (Key × Nat)} {slots : List Slot} {key : Key} (h : Counted refs slots)
    (new : key ∉ refs.map Prod.fst) (perm : refs'.Perm ((key, 0) :: refs)) : Counted refs' slots := by
  refine ⟨fun x hx k hk => ?_, fun p hp => ?_⟩
  · rw [(perm.map Prod.fst).mem_iff]
    exact List.mem_cons_of_mem _ (h.recorded x hx k hk)
  · rcases List.mem_cons.1 (perm.mem_iff.1 hp) with rfl | hp
    · exact (naming_eq_zero.2 fun x hx hk => new (h.recorded x hx key hk)).symm
    · exact h.counts p hp

/-- A record with no slot reference is named by no slot: it can be freed. -/
theorem Counted.free {refs : List (Key × Nat)} {slots : List Slot} {key : Key} (h : Counted refs slots)
    (unreferenced : ∀ p ∈ refs, p.1 = key → p.2 = 0) : Counted (refs.filter fun p => p.1 ≠ key) slots := by
  refine ⟨fun x hx k hk => ?_, fun p hp => h.counts p (List.mem_filter.1 hp).1⟩
  obtain ⟨p, hp, rfl⟩ := List.mem_map.1 (h.recorded x hx k hk)
  refine List.mem_map.2 ⟨p, List.mem_filter.2 ⟨hp, ?_⟩, rfl⟩
  by_contra freed
  have none : naming slots p.1 = 0 := by rw [← h.counts p hp, unreferenced p hp (by simpa using freed)]
  exact naming_eq_zero.1 none x hx hk

theorem createService_refs {s t : State} {key : Key} {name : List Byte} (h : createService s key name = some t) :
    t.serviceRefs.Perm ((key, 0) :: s.serviceRefs) := by
  obtain ⟨i, free, rfl⟩ := createService_some h
  exact (tableSet_perm _ (lowestFree_some free).2).map _

theorem freeIfUnheld_counted {s : State} {slots : List Slot} (key : Key) (ordered : s.CatalogueOrdered)
    (h : Counted s.serviceRefs slots) : Counted (freeIfUnheld s key).serviceRefs slots := by
  rcases freeIfUnheld_cases s key with e | ⟨unheld, e⟩ <;> rw [e]
  · exact h
  have filtered : ({ s with services := s.services.filter fun x => x.2.key ≠ key } : State).serviceRefs =
      s.serviceRefs.filter fun p => p.1 ≠ key := by
    simp only [State.serviceRefs, List.filter_map, Function.comp_def]
  rw [filtered]
  refine h.free fun p hp hk => ?_
  obtain ⟨x, hx, rfl⟩ := List.mem_map.1 hp
  have found := ordered.service_of_mem hx
  simp only at hk
  rw [hk] at found
  exact ((held_eq_false unheld).2.1 _ found).1

/-! ### Moves -/

theorem serviceRefs_of_map {s t : State} (g : Nat × Service → Service)
    (hg : ∀ x, (g x).key = x.2.key ∧ (g x).slotRefs = x.2.slotRefs)
    (h : t.services = s.services.map fun x => (x.1, g x)) : t.serviceRefs = s.serviceRefs := by
  simp [State.serviceRefs, h, hg, Function.comp_def]

theorem modService_refs (s : State) (key : Key) (f : Service → Service)
    (hf : ∀ v, (f v).key = v.key ∧ (f v).slotRefs = v.slotRefs) : (s.modService key f).serviceRefs = s.serviceRefs := by
  refine serviceRefs_of_map (fun x => if x.2.key = key then f x.2 else x.2) (fun x => ?_)
    (modService_services_eq s key f)
  split
  · exact hf x.2
  · exact ⟨rfl, rfl⟩

theorem evaluated_slotRefs (s : State) (v : Service) (scored : Option Nat) :
    (s.evaluated v scored).slotRefs = v.slotRefs := by
  unfold State.evaluated
  simp only
  split <;> split <;> rfl

theorem evaluateHanded_refs (s : State) : (evaluateHanded s).serviceRefs = s.serviceRefs := by
  have fold : ∀ (keys : List Key) (t : State) (scored : Key → Option Nat),
      (keys.foldl (fun t key => evaluateService t key (scored key)) t).serviceRefs = t.serviceRefs := by
    intro keys
    induction keys with
    | nil => exact fun t _ => rfl
    | cons key keys ih =>
      intro t scored
      rw [List.foldl_cons, ih, evaluateService,
        modService_refs _ _ _ fun v => ⟨evaluated_key t v _, evaluated_slotRefs t v _⟩]
  exact (fold _ _ _).trans rfl

theorem serviceRefs_of_services {s t : State} (h : t.services = s.services) : t.serviceRefs = s.serviceRefs := by
  rw [State.serviceRefs, h]
  rfl

/-- What a change leaves of the lineup when it gives no slot a key and frees and creates no record. -/
structure Lines (s t : State) : Prop where
  shaped : s.Shaped → t.Shaped
  slots : List.Forall₂ Slot.Follows s.slots t.slots
  refs : t.serviceRefs = s.serviceRefs

theorem Lines.lawful {s t : State} (h : Lines s t) (ordered : t.CatalogueOrdered) (hs : s.LineupLawful) :
    t.LineupLawful := by
  obtain ⟨shaped, -, keyed, counted⟩ := (lineupLawful_iff s).1 hs
  refine (lineupLawful_iff t).2 ⟨h.shaped shaped, ordered, keyed.follows h.slots, ?_⟩
  rw [h.refs]
  exact counted.of_keys (follows_keys h.slots keyed.vacant)

theorem Calm.lines {s t : State} (h : Calm s t) : Lines s t :=
  ⟨h.shaped, h.slots, serviceRefs_of_services h.services⟩

theorem Lines.trans {s t u : State} (h : Lines s t) (g : Lines t u) : Lines s u :=
  ⟨g.shaped ∘ h.shaped, follows_trans h.slots g.slots, g.refs.trans h.refs⟩

/-- The parts that the numbers of records and the lineup speak of. -/
def lineParts : List Part := [.entries, .lanes, .services, .watch, .watchSeen, .slots]

theorem shaped_of_within {ps : List Part} {s t : State} (h : Within ps s t)
    (hp : ∀ p ∈ [Part.entries, .lanes, .watch, .watchSeen, .slots], p ∉ ps) (hs : s.Shaped) : t.Shaped := by
  have entries : t.entries = s.entries := h .entries (hp _ (by decide))
  have lanes : t.lanes = s.lanes := h .lanes (hp _ (by decide))
  have slots : t.slots = s.slots := h .slots (hp _ (by decide))
  have watch : t.watch = s.watch := h .watch (hp _ (by decide))
  have seen : t.watchSeen = s.watchSeen := h .watchSeen (hp _ (by decide))
  unfold State.Shaped
  rw [entries, lanes, slots, watch, seen]
  exact hs

theorem Lines.of_within {ps : List Part} {s t : State} (h : Within ps s t) (hp : ∀ p ∈ lineParts, p ∉ ps) :
    Lines s t := by
  have slots : t.slots = s.slots := h .slots (hp _ (by decide))
  refine ⟨shaped_of_within h fun p hm => hp p ?_, slots ▸ follows_refl s.slots,
    serviceRefs_of_services (h .services (hp _ (by decide)))⟩
  revert hm p
  decide

theorem forget_refs (v : Service) (c : Nat) : (v.forget c).key = v.key ∧ (v.forget c).slotRefs = v.slotRefs :=
  ⟨rfl, rfl⟩

theorem removed_lines (s : State) (c : Nat) (x : Carriage) : Lines s (removed s c x) := by
  have released : Lines s (releaseBindings s c) := Lines.of_within (releaseBindings_within s c) (by decide)
  have forgot : Lines (releaseBindings s c) ((releaseBindings s c).modService x.service fun v => v.forget c) :=
    ⟨id, follows_refl _, modService_refs _ _ _ fun v => forget_refs v c⟩
  have told : Lines ((releaseBindings s c).modService x.service fun v => v.forget c) (withdrawn s c x) :=
    (slotsLoseCarriage_calm _ c).lines
  exact ((released.trans forgot).trans told).trans (Lines.of_within (carriages_within _ _) (by decide))

theorem newService_lineup {s t : State} {key : Key} {name : List Byte} (new : s.service key = none)
    (h : createService s key name = some t) (ordered : t.CatalogueOrdered) (hs : s.LineupLawful) : t.LineupLawful := by
  obtain ⟨shaped, -, keyed, counted⟩ := (lineupLawful_iff s).1 hs
  have slots : t.slots = s.slots := createService_within h .slots (by decide)
  refine (lineupLawful_iff t).2 ⟨shaped_of_within (createService_within h) (by decide) shaped, ordered,
    slots ▸ keyed, slots ▸ counted.create (fun hm => ?_) (createService_refs h)⟩
  rw [← service_isSome_iff_refs, new] at hm
  cases hm

theorem freeIfUnheld_lineup {s : State} (key : Key) (hs : s.LineupLawful) : (freeIfUnheld s key).LineupLawful := by
  obtain ⟨shaped, ordered, keyed, counted⟩ := (lineupLawful_iff s).1 hs
  have slots : (freeIfUnheld s key).slots = s.slots := freeIfUnheld_within s key .slots (by decide)
  refine (lineupLawful_iff _).2 ⟨shaped_of_within (freeIfUnheld_within s key) (by decide) shaped,
    freeIfUnheld_ordered key ordered, slots ▸ keyed, slots ▸ freeIfUnheld_counted key ordered counted⟩

/-- Every move but those of the slot commands keeps the law of the lineup. -/
theorem Move.lineupLawful {B : BindRule} {s t : State} (h : Move false B s t) (hs : s.LineupLawful) :
    t.LineupLawful := by
  have ordered' := h.ordered hs.2.1
  cases h with
  | rest calm => exact calm.lines.lawful ordered' hs
  | adjust f handed stands told result => subst result; exact Lines.lawful (s := s) ⟨id, follows_refl s.slots, rfl⟩ ordered' hs
  | record g stands refs result =>
    subst result
    exact Lines.lawful (s := s) ⟨id, follows_refl s.slots,
      serviceRefs_of_map (fun x => g x.2) (fun x => ⟨(stands x.2).key, refs x.2⟩) rfl⟩ ordered' hs
  | tally g stands result => subst result; exact Lines.lawful (s := s) ⟨id, follows_refl s.slots, rfl⟩ ordered' hs
  | attempt found idle rule => exact (Lines.of_within (attemptBind_within s _ _ _) (by decide)).lawful ordered' hs
  | shelve c => exact (Lines.of_within (shelve_within s c) (by decide)).lawful ordered' hs
  | @rebind c l comps timing x found flows rule =>
    have released : Lines s (releaseBindings s c) := Lines.of_within (releaseBindings_within s c) (by decide)
    have relisted : Lines s (Machine.relist s c comps timing) :=
      released.trans (Lines.of_within (modCarriage_within _ c _) (by decide))
    have attempted := relisted.trans
      (Lines.of_within (attemptBind_within (Machine.relist s c comps timing) c l false) (by decide))
    exact (attempted.trans (refeedAll_calm _ c _).lines).lawful ordered' hs
  | remove c =>
    cases found : s.carriage c with
    | none => rw [removeCarriage_none found]; exact hs
    | some x =>
      rw [removeCarriage_some found] at ordered' ⊢
      have erased : (removed s c x).LineupLawful := (removed_lines s c x).lawful
        (erase_ordered ((serviceKeys_of_services (removed_services s c x)).trans (modService_keys s _ _ fun _ => rfl))
          (removed_carriages hs.2.1.carriages_ordered found) hs.2.1) hs
      exact (Lines.of_within (hand_within _ _) (by decide)).lawful ordered' (freeIfUnheld_lineup x.service erased)
  | @create c l e v mark recorded new free flows rule =>
    have placed : Lines s (withCarriage s c (Carriage.created e v s.clock)) :=
      Lines.of_within (carriages_within s _) (by decide)
    exact (placed.trans (Lines.of_within (attemptBind_within _ c l mark) (by decide))).lawful ordered' hs
  | newService new created => exact newService_lineup new created ordered' hs
  | free key => exact freeIfUnheld_lineup key hs
  | evaluate =>
    exact Lines.lawful (s := s) ⟨shaped_of_within (evaluateHanded_within s) (by decide),
      (evaluateHanded_within s .slots (by decide) : (evaluateHanded s).slots = s.slots) ▸ follows_refl _,
      evaluateHanded_refs s⟩ ordered' hs
  | @pin key p own =>
    exact Lines.lawful (s := s) ⟨id, follows_refl s.slots,
      modService_refs s key (fun v => { v with pinned := p }) fun _ => ⟨rfl, rfl⟩⟩ ordered' hs
  | relist allowed => cases allowed

end Sys2Proof.Machine
end

section
namespace Sys2Proof.Machine

open Sys2Proof Host

/-! ## The slot commands and the lineup (R142 to R145) -/

/-! ### One slot changed -/

theorem slot_getElem? {s : State} {k : Nat} (hk : k < s.slots.length) : s.slots[k]? = some (s.slot k) := by
  rw [State.slot, List.getD_eq_getElem _ _ hk, List.getElem?_eq_getElem hk]

/-- Changing one slot changes how many name a key by what that slot names. -/
theorem naming_modify {slots : List Slot} {k : Nat} {x : Slot} (hx : slots[k]? = some x) (f : Slot → Slot) (key : Key) :
    naming (slots.modify k f) key + (if key ∈ x.keys then 1 else 0) =
      naming slots key + (if key ∈ (f x).keys then 1 else 0) := by
  induction slots generalizing k with
  | nil => simp at hx
  | cons y slots ih =>
    cases k with
    | zero =>
      have : y = x := by simpa using hx
      subst this
      simp only [naming, List.modify_zero_cons, List.countP_cons, List.contains_iff_mem]
      omega
    | succ k =>
      have := ih (k := k) (by simpa using hx)
      simp only [naming, List.modify_succ_cons, List.countP_cons] at this ⊢
      omega

theorem SlotsKeyed.modify {slots : List Slot} {k : Nat} {f : Slot → Slot} (h : SlotsKeyed slots)
    (vacant : (f (slots.getD k Slot.vacant)).state = .vacant → f (slots.getD k Slot.vacant) = Slot.vacant)
    (live : (f (slots.getD k Slot.vacant)).state ≠ .vacant → (f (slots.getD k Slot.vacant)).primary.isSome ∧
      (f (slots.getD k Slot.vacant)).fallback ≠ (f (slots.getD k Slot.vacant)).primary ∧
      ∃ b, (f (slots.getD k Slot.vacant)).baseFlow = some b ∧ b ≤ 4026)
    (apart : ∀ j, j ≠ k → ∀ a b, (f (slots.getD k Slot.vacant)).baseFlow = some a →
      (slots.getD j Slot.vacant).baseFlow = some b → a + 6 ≤ b ∨ b + 6 ≤ a) : SlotsKeyed (slots.modify k f) := by
  have cases_mem : ∀ y ∈ slots.modify k f, y ∈ slots ∨ y = f (slots.getD k Slot.vacant) := fun y hy => by
    obtain ⟨i, hi, rfl⟩ := List.mem_iff_getElem.1 hy
    rw [List.getElem_modify]
    have hi' : i < slots.length := by simpa using hi
    split
    · rename_i e
      subst e
      exact .inr (by rw [List.getD_eq_getElem _ _ hi'])
    · exact .inl (List.getElem_mem _)
  have other : ∀ i, i ≠ k → (slots.modify k f).getD i Slot.vacant = slots.getD i Slot.vacant := fun i hi =>
    getD_modify_other slots k i f _ (Ne.symm hi)
  have own : ∀ a, ((slots.modify k f).getD k Slot.vacant).baseFlow = some a →
      (f (slots.getD k Slot.vacant)).baseFlow = some a := fun a ha => by
    by_cases hk : k < slots.length
    · rwa [getD_modify_same slots k f _ hk] at ha
    · rw [List.getD_eq_default _ _ (by simpa using hk)] at ha
      cases ha
  refine ⟨fun y hy hv => ?_, fun y hy hl => ?_, fun i j hij a b ha hb => ?_⟩
  · rcases cases_mem y hy with hm | rfl
    · exact h.vacant y hm hv
    · exact vacant hv
  · rcases cases_mem y hy with hm | rfl
    · exact h.live y hm hl
    · exact live hl
  · by_cases hi : i = k
    · subst hi
      rw [other j (Ne.symm hij)] at hb
      exact apart j (Ne.symm hij) a b (own a ha) hb
    · rw [other i hi] at ha
      by_cases hj : j = k
      · subst hj
        exact (apart i hi b a (own b hb) ha).symm
      · rw [other j hj] at hb
        exact h.apart i j hij a b ha hb

/-! ### References moved (R143) -/

theorem modService_refs_eq (s : State) (key : Key) (f : Service → Service) (h : Nat → Nat)
    (hf : ∀ v : Service, (f v).key = v.key ∧ (f v).slotRefs = h v.slotRefs) :
    (s.modService key f).serviceRefs = s.serviceRefs.map fun p => (p.1, if p.1 = key then h p.2 else p.2) := by
  simp only [State.serviceRefs, modService_services_eq, List.map_map]
  refine List.map_congr_left fun x _ => ?_
  by_cases hk : x.2.key = key <;> simp [hk, hf]

theorem foldl_refs (f : Service → Service) (h : Nat → Nat)
    (hf : ∀ v : Service, (f v).key = v.key ∧ (f v).slotRefs = h v.slotRefs) {keys : List Key} (nodup : keys.Nodup)
    (s : State) : (keys.foldl (fun s key => s.modService key f) s).serviceRefs =
      s.serviceRefs.map fun p => (p.1, if p.1 ∈ keys then h p.2 else p.2) := by
  induction keys generalizing s with
  | nil => simp
  | cons a keys ih =>
    obtain ⟨new, nodup'⟩ := List.nodup_cons.1 nodup
    rw [List.foldl_cons, ih nodup', modService_refs_eq s a f h hf, List.map_map]
    refine List.map_congr_left fun p _ => ?_
    by_cases hp : p.1 = a
    · subst hp
      simp [new]
    · simp [hp]

theorem moveRefs_refs {s : State} {old new : List Key} (hold : old.Nodup) (hnew : new.Nodup) :
    (moveRefs s old new).serviceRefs = s.serviceRefs.map fun p =>
      (p.1, if p.1 ∈ new then (if p.1 ∈ old then p.2 else p.2 + 1) else if p.1 ∈ old then p.2 - 1 else p.2) := by
  unfold moveRefs
  rw [foldl_refs (fun v => { v with slotRefs := v.slotRefs - 1 }) (· - 1) (fun _ => ⟨rfl, rfl⟩) (hold.filter _),
    foldl_refs (fun v => { v with slotRefs := v.slotRefs + 1 }) (· + 1) (fun _ => ⟨rfl, rfl⟩) (hnew.filter _),
    List.map_map]
  refine List.map_congr_left fun p _ => ?_
  by_cases ho : p.1 ∈ old <;> by_cases hn : p.1 ∈ new <;> simp [ho, hn]

/-- The records count the slots again once references have moved from the keys a slot named to those it names. -/
theorem Counted.move {s : State} {slots : List Slot} {k : Nat} {x : Slot} {f : Slot → Slot}
    (h : Counted s.serviceRefs slots) (hx : slots[k]? = some x) (old : x.keys.Nodup) (new : (f x).keys.Nodup)
    (recorded : ∀ key ∈ (f x).keys, key ∈ s.serviceRefs.map Prod.fst) :
    Counted (moveRefs s x.keys (f x).keys).serviceRefs (slots.modify k f) := by
  rw [moveRefs_refs old new]
  refine ⟨fun y hy key hk => ?_, fun p hp => ?_⟩
  · rw [List.map_map]
    show key ∈ s.serviceRefs.map Prod.fst
    obtain ⟨i, hi, rfl⟩ := List.mem_iff_getElem.1 hy
    rw [List.getElem_modify] at hk
    split at hk
    · rename_i e
      subst e
      have hi' : k < slots.length := by simpa using hi
      rw [List.getElem?_eq_getElem hi', Option.some.injEq] at hx
      rw [hx] at hk
      exact recorded key hk
    · exact h.recorded _ (List.getElem_mem _) key hk
  · obtain ⟨q, hq, rfl⟩ := List.mem_map.1 hp
    have counts := h.counts q hq
    have moved := naming_modify hx f q.1
    by_cases ho : q.1 ∈ x.keys <;> by_cases hn : q.1 ∈ (f x).keys <;> simp only [ho, hn, if_true, if_false] at moved ⊢ <;>
      omega

/-! ### Records made for keys (R8, R143) -/

/-- A record is there for the key already, or is made when the table has room. -/
theorem ensureService_cases (s : State) (key : Key) : ensureService s key = s ∧ (s.service key).isSome ∨
    s.service key = none ∧ (s.services.length < 512 → (ensureService s key).serviceRefs.Perm ((key, 0) :: s.serviceRefs)) := by
  unfold ensureService
  cases found : s.service key with
  | some v => exact .inl ⟨rfl, rfl⟩
  | none =>
    refine .inr ⟨rfl, fun room => ?_⟩
    obtain ⟨i, free⟩ := Option.isSome_iff_exists.1 (lowestFree_isSome (size := Config.maxServices) room)
    have made : createService s key [] = some { s with services := tableSet s.services i (Service.fresh key []) } := by
      simp [createService, free]
    dsimp only
    rw [made]
    exact createService_refs made

theorem serviceRefs_length (s : State) : s.serviceRefs.length = s.services.length := List.length_map ..

/-- With room for the keys that have none, every key has a record, and the slots are counted as before. -/
theorem foldl_ensureService {slots : List Slot} {keys : List Key} {s : State} (h : Counted s.serviceRefs slots)
    (room : s.services.length + (keys.filter fun key => (s.service key).isNone).length ≤ 512) :
    Counted (keys.foldl ensureService s).serviceRefs slots ∧
      (∀ key, key ∈ s.serviceRefs.map Prod.fst → key ∈ (keys.foldl ensureService s).serviceRefs.map Prod.fst) ∧
      ∀ key ∈ keys, key ∈ (keys.foldl ensureService s).serviceRefs.map Prod.fst := by
  induction keys generalizing s with
  | nil => exact ⟨h, fun _ hk => hk, by simp⟩
  | cons a keys ih =>
    rw [List.foldl_cons]
    rcases ensureService_cases s a with ⟨same, found⟩ | ⟨absent, made⟩
    · rw [same]
      have found' : ¬ (s.service a).isNone = true := by
        rw [Option.isNone_iff_eq_none]
        exact Option.isSome_iff_ne_none.1 found
      obtain ⟨counted, kept, all⟩ := ih h (by simpa [List.filter_cons, found'] using room)
      refine ⟨counted, kept, fun key hk => ?_⟩
      rcases List.mem_cons.1 hk with rfl | hk
      · exact kept key ((service_isSome_iff_refs s key).1 found)
      · exact all key hk
    · rw [List.filter_cons, absent] at room
      simp only [Option.isNone_none, if_true, List.length_cons] at room
      have perm := made (by omega)
      have fresh : a ∉ s.serviceRefs.map Prod.fst := fun hm => by
        rw [← service_isSome_iff_refs, absent] at hm
        cases hm
      have members : ∀ key, key ∈ (ensureService s a).serviceRefs.map Prod.fst ↔ key = a ∨ key ∈ s.serviceRefs.map Prod.fst :=
        fun key => by rw [(perm.map Prod.fst).mem_iff]; simp
      have fewer : (keys.filter fun key => ((ensureService s a).service key).isNone).length ≤
          (keys.filter fun key => (s.service key).isNone).length := by
        refine (List.monotone_filter_right keys fun key hk => ?_).length_le
        rw [Option.isNone_iff_eq_none, ← Option.not_isSome_iff_eq_none, service_isSome_iff_refs] at hk ⊢
        exact fun hm => hk ((members key).2 (.inr hm))
      have longer : (ensureService s a).services.length = s.services.length + 1 := by
        rw [← serviceRefs_length, perm.length_eq, List.length_cons, serviceRefs_length]
      obtain ⟨counted, kept, all⟩ := ih (h.create fresh perm) (by omega)
      refine ⟨counted, fun key hk => kept key ((members key).2 (.inr hk)), fun key hk => ?_⟩
      rcases List.mem_cons.1 hk with rfl | hk
      · exact kept key ((members key).2 (.inl rfl))
      · exact all key hk

theorem foldl_freeIfUnheld_counted {slots : List Slot} (keys : List Key) {s : State} (ordered : s.CatalogueOrdered)
    (h : Counted s.serviceRefs slots) : Counted (keys.foldl freeIfUnheld s).serviceRefs slots := by
  induction keys generalizing s with
  | nil => exact h
  | cons key keys ih => exact ih (freeIfUnheld_ordered key ordered) (freeIfUnheld_counted key ordered h)

theorem foldl_freeIfUnheld_slots (keys : List Key) (s : State) : (keys.foldl freeIfUnheld s).slots = s.slots :=
  Within.foldl _ (fun s key => freeIfUnheld_within s key) keys s .slots (by decide)

theorem moveRefs_slots (s : State) (old new : List Key) : (moveRefs s old new).slots = s.slots :=
  moveRefs_within s old new .slots (by decide)

theorem moveRefs_ordered {s : State} (old new : List Key) (ordered : s.CatalogueOrdered) :
    (moveRefs s old new).CatalogueOrdered := (moveRefs_leads (B := anyBind) s old new).ordered ordered

/-! ### The three commands -/

theorem slot_keys_nodup {x : Slot} (distinct : x.state ≠ .vacant → x.fallback ≠ x.primary)
    (vacant : x.state = .vacant → x = Slot.vacant) : x.keys.Nodup := by
  by_cases hx : x.state = .vacant
  · rw [vacant hx]
    exact List.nodup_nil
  · have := distinct hx
    unfold Slot.keys
    cases hp : x.primary with
    | none => cases x.fallback <;> simp
    | some p =>
      cases hf : x.fallback with
      | none => simp
      | some f =>
        rw [hp, hf] at this
        simpa using fun e : p = f => this (congrArg some e.symm)

theorem State.LineupLawful.keys_nodup {s : State} (hs : s.LineupLawful) (k : Nat) : (s.slot k).keys.Nodup := by
  obtain ⟨-, -, keyed, -⟩ := (lineupLawful_iff s).1 hs
  by_cases hk : k < s.slots.length
  · have mem : s.slot k ∈ s.slots := List.mem_of_getElem? (slot_getElem? hk)
    exact slot_keys_nodup (fun live => (keyed.live _ mem live).2.1) (keyed.vacant _ mem)
  · have : s.slot k = Slot.vacant := List.getD_eq_default _ _ (by omega)
    rw [this]
    exact List.nodup_nil

theorem Leads.shaped {B : BindRule} {r : Bool} {s t : State} (h : Leads r B s t) (ordered : s.CatalogueOrdered)
    (shaped : s.Shaped) : t.Shaped := by
  refine Leads.keeps (P := State.Shaped) (fun u v m _ hu => ?_) h ordered shaped
  cases m with
  | rest calm => exact calm.shaped hu
  | adjust f handed stands told result => subst result; exact hu
  | record g stands refs result => subst result; exact hu
  | tally g stands result => subst result; exact hu
  | attempt => exact shaped_of_within (attemptBind_within u _ _ _) (by decide) hu
  | shelve c => exact shaped_of_within (shelve_within u c) (by decide) hu
  | @rebind c l comps timing x found flows rule =>
    exact (refeedAll_calm _ c _).shaped (shaped_of_within (attemptBind_within _ c l false) (by decide)
      (shaped_of_within (modCarriage_within (releaseBindings u c) c _) (by decide)
        (shaped_of_within (releaseBindings_within u c) (by decide) hu)))
  | remove c =>
    cases found : u.carriage c with
    | none => rw [removeCarriage_none found]; exact hu
    | some x =>
      rw [removeCarriage_some found]
      exact shaped_of_within (hand_within _ _) (by decide)
        (shaped_of_within (freeIfUnheld_within _ _) (by decide) ((removed_lines u c x).shaped hu))
  | create => exact shaped_of_within (attemptBind_within _ _ _ _) (by decide) hu
  | newService new created => exact shaped_of_within (createService_within created) (by decide) hu
  | free key => exact shaped_of_within (freeIfUnheld_within u key) (by decide) hu
  | evaluate => exact shaped_of_within (evaluateHanded_within u) (by decide) hu
  | pin => exact hu
  | relist allowed g stands services carriages bindings handed shaped => exact shaped hu

/-- What the checks of SET SLOT leave (R142). -/
structure SlotArgs.Passes (s : State) (a : SlotArgs) : Prop where
  slot : a.slot < 128
  distinct : a.fallback ≠ some a.primary
  base : a.baseFlow ≤ 4026
  apart : meetsFlows s a.slot a.baseFlow = false
  room : s.services.length + (keysWanting s a).length ≤ 512

theorem slotRefusal_none {s : State} {a : SlotArgs} (h : slotRefusal s a = none) : a.Passes s := by
  unfold slotRefusal at h
  split at h; · cases h
  split at h; · cases h
  split at h; · cases h
  split at h; · cases h
  split at h; · cases h
  split at h; · cases h
  split at h; · cases h
  rename_i slot distinct base _ apart _ room
  exact ⟨Nat.lt_of_not_le slot, distinct, Nat.le_of_not_lt base, by simpa using apart, Nat.le_of_not_lt room⟩

theorem meetsFlows_eq_false {s : State} {k base : Nat} (h : meetsFlows s k base = false) {j b : Nat} (hj : j < 128)
    (hne : j ≠ k) (live : (s.slot j).isVacant = false) (hb : (s.slot j).baseFlow = some b) :
    base + 6 ≤ b ∨ b + 6 ≤ base := by
  have := List.any_eq_false.1 h j (List.mem_range.2 hj)
  simp only [hne, live, hb, ne_eq, not_false_eq_true, decide_true, Bool.not_false, Bool.true_and, Bool.and_eq_true,
    decide_eq_true_eq] at this
  omega

theorem SlotArgs.keys_nodup {a : SlotArgs} (h : a.fallback ≠ some a.primary) : a.keys.Nodup := by
  unfold SlotArgs.keys
  cases hf : a.fallback with
  | none => simp
  | some f => simpa using fun e : a.primary = f => h (by rw [hf, e])

theorem isVacant_iff (x : Slot) : x.isVacant = true ↔ x.state = .vacant := by simp [Slot.isVacant]

theorem setSlot_keyed {s : State} {a : SlotArgs} (h : SlotsKeyed s.slots) (shaped : s.slots.length = 128)
    (passes : a.Passes s) : SlotsKeyed (s.slots.modify a.slot fun x => x.set a) := by
  have own : ((s.slot a.slot).set a).state ≠ .vacant := by
    unfold Slot.set
    split
    · nofun
    · rename_i live
      exact fun e => live ((isVacant_iff _).2 e)
  have mem : s.slot a.slot ∈ s.slots := List.mem_of_getElem? (slot_getElem? (by rw [shaped]; exact passes.slot))
  refine h.modify (fun e => absurd e own) (fun _ => ⟨rfl, passes.distinct, ?_⟩) fun j hj c d hc hd => ?_
  · by_cases vacant : (s.slot a.slot).isVacant = true
    · exact ⟨a.baseFlow, if_pos vacant, passes.base⟩
    · obtain ⟨b, hb, le⟩ := (h.live _ mem fun e => vacant ((isVacant_iff _).2 e)).2.2
      exact ⟨b, (if_neg vacant).trans hb, le⟩
  · by_cases vacant : (s.slot a.slot).isVacant = true
    · have hc' : c = a.baseFlow := (Option.some.inj ((if_pos vacant).symm.trans hc)).symm
      have inside : j < 128 := by
        by_contra outside
        rw [List.getD_eq_default _ _ (by omega)] at hd
        cases hd
      have live : (s.slot j).isVacant = false := by
        by_contra e
        have : s.slot j = Slot.vacant := getD_vacant h.vacant j ((isVacant_iff _).1 (Bool.eq_true_of_not_eq_false e))
        rw [show s.slots.getD j Slot.vacant = Slot.vacant from this] at hd
        cases hd
      subst hc'
      exact meetsFlows_eq_false passes.apart inside hj live hd
    · exact h.apart a.slot j (Ne.symm hj) c d ((if_neg vacant).symm.trans hc) hd

theorem setSlotTaken_lineup {s : State} {a : SlotArgs} (hs : s.LineupLawful) (passes : a.Passes s) :
    (setSlotTaken s a).LineupLawful := by
  obtain ⟨shaped, ordered, keyed, counted⟩ := (lineupLawful_iff s).1 hs
  have ordered' : (setSlotTaken s a).CatalogueOrdered := (setSlotTaken_leads (B := anyBind) s a).ordered ordered
  have length : s.slots.length = 128 := shaped.2.2.1
  obtain ⟨counted1, -, recorded⟩ := foldl_ensureService counted passes.room
  have ordered1 : (a.keys.foldl ensureService s).CatalogueOrdered :=
    (Leads.foldl (r := true) (B := anyBind) (fun s key => ensureService_leads s key) a.keys s).ordered ordered
  have slots1 : (a.keys.foldl ensureService s).slots = s.slots :=
    Within.foldl _ (fun s key => ensureService_within s key) a.keys s .slots (by decide)
  have moved : Counted (moveRefs (a.keys.foldl ensureService s) (s.slot a.slot).keys a.keys).serviceRefs
      (s.slots.modify a.slot fun x => x.set a) :=
    counted1.move (f := fun x => x.set a) (slot_getElem? (by rw [length]; exact passes.slot)) (hs.keys_nodup a.slot)
      (SlotArgs.keys_nodup passes.distinct) recorded
  have written : (slotWritten s a).LineupLawful := by
    refine (lineupLawful_iff _).2 ⟨(slotWritten_leads (B := anyBind) s a).shaped ordered shaped,
      (slotWritten_leads (B := anyBind) s a).ordered ordered, ?_, ?_⟩
    · simp only [slotWritten, State.modSlot_slots, foldl_freeIfUnheld_slots, moveRefs_slots, slots1]
      exact setSlot_keyed keyed length passes
    · simp only [slotWritten, State.modSlot_slots, foldl_freeIfUnheld_slots, moveRefs_slots, slots1]
      exact foldl_freeIfUnheld_counted _ (moveRefs_ordered _ _ ordered1) moved
  rw [setSlotTaken_eq] at ordered' ⊢
  exact (((reviewSlot_calm _ a.slot).trans (recomputeShare_calm _)).lines).lawful ordered' written

theorem discardQueue_calm {s : State} {k : Nat} (live : (s.slot k).state ≠ .vacant) : Calm s (discardQueue s k) :=
  (Calm.modSlot (f := fun x => { x with queue := [] }) (Slot.Follows.of_live live live rfl rfl rfl rfl)).trans
    (store_calm _ _)

theorem slotCleared_lineup {s : State} {k : Nat} (hs : s.LineupLawful) (hk : k < 128)
    (live : (s.slot k).state ≠ .vacant) : (slotCleared s k).LineupLawful := by
  have emptied : (discardQueue s k).LineupLawful :=
    (discardQueue_calm live).lines.lawful (catalogueOrdered_of_eq rfl rfl hs.2.1) hs
  obtain ⟨shaped, ordered, keyed, counted⟩ := (lineupLawful_iff _).1 emptied
  have length : (discardQueue s k).slots.length = 128 := shaped.2.2.1
  have length' : s.slots.length = 128 := by simpa [discardQueue] using length
  have keys : ((discardQueue s k).slot k).keys = (s.slot k).keys := by
    have : (discardQueue s k).slot k = { s.slot k with queue := [] } :=
      s.slot_modSlot k (fun x => { x with queue := [] }) (by omega)
    rw [this]
    rfl
  have moved := Counted.move (s := (discardQueue s k).modSlot k fun _ => Slot.vacant) (f := fun _ => Slot.vacant)
    counted (slot_getElem? (k := k) (by omega)) (emptied.keys_nodup k) List.nodup_nil (by nofun)
  rw [keys] at moved
  have vacated : ((discardQueue s k).modSlot k fun _ => Slot.vacant).CatalogueOrdered :=
    catalogueOrdered_of_eq rfl rfl ordered
  refine (lineupLawful_iff _).2 ⟨(slotCleared_leads (B := anyBind) s k).shaped hs.2.1 hs.1,
    (slotCleared_leads (B := anyBind) s k).ordered hs.2.1, ?_, ?_⟩
  · simp only [slotCleared, foldl_freeIfUnheld_slots, moveRefs_slots, State.modSlot_slots]
    exact keyed.modify (fun _ => rfl) (fun e => absurd rfl e) fun _ _ _ _ e => by cases e
  · simp only [slotCleared, foldl_freeIfUnheld_slots, moveRefs_slots, State.modSlot_slots]
    exact foldl_freeIfUnheld_counted _ (moveRefs_ordered _ _ vacated) moved

theorem keysExchanged_lineup {s : State} {a b : Nat} (hs : s.LineupLawful) (ha : a < 128) (hb : b < 128) (hab : a ≠ b)
    (liveA : (s.slot a).state ≠ .vacant) (liveB : (s.slot b).state ≠ .vacant) : (keysExchanged s a b).LineupLawful := by
  obtain ⟨shaped, ordered, keyed, counted⟩ := (lineupLawful_iff s).1 hs
  have length : s.slots.length = 128 := shaped.2.2.1
  let first := s.modSlot a fun z => z.withKeys (s.slot b).primary (s.slot b).fallback
  have lengthF : first.slots.length = 128 := by simp [first, length]
  have otherB : first.slot b = s.slot b := s.slot_modSlot_other a b _ hab
  have foundA := slot_getElem? (s := s) (k := a) (by omega)
  have foundB := slot_getElem? (s := first) (k := b) (by omega)
  have memA : s.slot a ∈ s.slots := List.mem_of_getElem? foundA
  have memB : s.slot b ∈ s.slots := List.mem_of_getElem? (slot_getElem? (by omega))
  have keyedF : SlotsKeyed first.slots :=
    keyed.modify (fun e => absurd e liveA)
      (fun _ => ⟨(keyed.live _ memB liveB).1, (keyed.live _ memB liveB).2.1, (keyed.live _ memA liveA).2.2⟩)
      fun j hj c d hc hd => keyed.apart a j (Ne.symm hj) c d hc hd
  have keyedT : SlotsKeyed (keysExchanged s a b).slots := by
    refine keyedF.modify (f := fun z => z.withKeys (s.slot a).primary (s.slot a).fallback) (fun e => ?_) (fun _ => ?_)
      fun j hj c d hc hd => keyedF.apart b j (Ne.symm hj) c d hc hd
    · exact absurd (otherB ▸ e : (s.slot b).state = .vacant) liveB
    · refine ⟨(keyed.live _ memA liveA).1, (keyed.live _ memA liveA).2.1, ?_⟩
      rw [show first.slots.getD b Slot.vacant = s.slot b from otherB]
      exact (keyed.live _ memB liveB).2.2
  have same : ∀ key, naming (keysExchanged s a b).slots key = naming s.slots key := fun key => by
    have h1 := naming_modify foundA (fun z => z.withKeys (s.slot b).primary (s.slot b).fallback) key
    have h2 := naming_modify foundB (fun z => z.withKeys (s.slot a).primary (s.slot a).fallback) key
    rw [otherB] at h2
    have e1 : ((s.slot a).withKeys (s.slot b).primary (s.slot b).fallback).keys = (s.slot b).keys := rfl
    have e2 : ((s.slot b).withKeys (s.slot a).primary (s.slot a).fallback).keys = (s.slot a).keys := rfl
    rw [e1] at h1
    rw [e2] at h2
    show naming (first.slots.modify b _) key = _
    have h1' : naming first.slots key + _ = _ := h1
    omega
  refine (lineupLawful_iff _).2 ⟨(keysExchanged_leads (B := anyBind) s a b).shaped ordered shaped,
    (keysExchanged_leads (B := anyBind) s a b).ordered ordered, keyedT, fun x hx key hk => ?_, fun p hp => ?_⟩
  · by_contra absent
    have none : naming s.slots key = 0 := naming_eq_zero.2 fun y hy hy' => absent (counted.recorded y hy key hy')
    rw [← same] at none
    exact naming_eq_zero.1 none x hx hk
  · rw [same]
    exact counted.counts p hp

/-! ### Every step -/

theorem takeIf_keeps {P : State → Prop} (calm : ∀ s t, Calm s t → P s → P t) {p : Command → Bool}
    {act : State → List Byte → Reply} (h : ∀ u args, P u → P (act u args).state) {s : State} (hs : P s) :
    P (takeIf p s act) := by
  unfold takeIf
  split
  · exact hs
  · rename_i c rest _
    have dropped : Calm s (dropHead s rest) := mgmt_calm s _
    have noticed := calm _ _ (settleNotice_calm s _) (h (dropHead s rest) c.args (calm _ _ dropped hs))
    exact calm _ _ ((store_calm _ _).trans (noteRestart_calm _)) noticed

theorem Calm.lineupLawful {s t : State} (h : Calm s t) (hs : s.LineupLawful) : t.LineupLawful :=
  h.lines.lawful (catalogueOrdered_of_eq h.services h.carriages hs.2.1) hs

theorem setSlotAct_lineup {s : State} (args : List Byte) (hs : s.LineupLawful) :
    (setSlotAct s args).state.LineupLawful := by
  unfold setSlotAct
  dsimp only
  split
  · exact hs
  · exact setSlotTaken_lineup hs (slotRefusal_none ‹_›)

theorem clearSlotAct_lineup {s : State} (args : List Byte) (hs : s.LineupLawful) :
    (clearSlotAct s args).state.LineupLawful := by
  unfold clearSlotAct
  dsimp only
  split
  · exact hs
  split
  · exact hs
  · rename_i inside live
    dsimp only [answer]
    rw [clearSlotTaken_eq]
    exact (recomputeShare_calm _).lineupLawful
      (slotCleared_lineup hs (Nat.lt_of_not_le inside) fun e => live ((isVacant_iff _).2 e))

theorem exchangeSlotsAct_lineup {s : State} (args : List Byte) (hs : s.LineupLawful) :
    (exchangeSlotsAct s args).state.LineupLawful := by
  unfold exchangeSlotsAct
  dsimp only
  split
  · exact hs
  split
  · exact hs
  split
  · exact hs
  · rename_i inside live differ
    obtain ⟨ha, hb⟩ := not_or.1 inside
    simp only [Bool.or_eq_true, not_or, isVacant_iff] at live
    dsimp only [answer]
    rw [exchangeTaken_eq]
    exact ((reviewSlot_calm _ _).trans (reviewSlot_calm _ _)).lineupLawful
      (keysExchanged_lineup hs (Nat.lt_of_not_le ha) (Nat.lt_of_not_le hb) differ live.1 live.2)

theorem reset_slot_eq {x : Slot} (h : x ∈ State.reset.slots) : x = Slot.vacant := (List.mem_replicate.1 h).2

theorem reset_lineup : State.reset.LineupLawful := by
  refine (lineupLawful_iff _).2 ⟨⟨rfl, rfl, rfl, rfl, rfl, fun x hx => by rw [reset_slot_eq hx]; rfl⟩,
    by simp [State.CatalogueOrdered, State.reset], ⟨fun x hx _ => reset_slot_eq hx, fun x hx live => ?_,
      fun i j _ a b ha => ?_⟩, fun x hx key hk => ?_, by simp [State.serviceRefs, State.reset]⟩
  · exact absurd (by rw [reset_slot_eq hx]; rfl) live
  · have : State.reset.slots.getD i Slot.vacant = Slot.vacant := by
      by_cases hi : i < State.reset.slots.length
      · rw [List.getD_eq_getElem _ _ hi]
        exact reset_slot_eq (List.getElem_mem hi)
      · exact List.getD_eq_default _ _ (Nat.le_of_not_lt hi)
    rw [this] at ha
    cases ha
  · rw [reset_slot_eq hx] at hk
    cases hk

theorem State.Fresh.lineupLawful {t : State} (h : t.Fresh) : t.LineupLawful := by
  obtain ⟨shaped, -, keyed, counted⟩ := (lineupLawful_iff _).1 reset_lineup
  refine (lineupLawful_iff t).2 ⟨?_, h.catalogueOrdered, by rw [h.slots]; exact keyed, ?_⟩
  · unfold State.Shaped
    rw [h.entries, h.lanes, h.slots, h.watch, h.watchSeen]
    exact shaped
  · rw [h.slots, State.serviceRefs, h.services]
    exact counted

theorem relists_iff (i : Instr) : relists i = true ↔ i = .setSlot ∨ i = .clearSlot ∨ i = .exchangeSlots := by
  cases i <;> simp [relists]

theorem exec_lineupLawful {i : Instr} {s t : State} (hs : s.LineupLawful) (h : exec i s = .next t) : t.LineupLawful := by
  by_cases slotRow : relists i = true
  · have calm : ∀ s t, Calm s t → s.LineupLawful → t.LineupLawful := fun _ _ c => c.lineupLawful
    rcases (relists_iff i).1 slotRow with rfl | rfl | rfl
    · cases h
      exact takeIf_keeps calm (fun _ args => setSlotAct_lineup args) hs
    · cases h
      exact takeIf_keeps calm (fun _ args => clearSlotAct_lineup args) hs
    · cases h
      exact takeIf_keeps calm (fun _ args => exchangeSlotsAct_lineup args) hs
  · rcases exec_concludes (B := anyBind) (fun _ _ _ _ => trivial) h with fresh | run
    · exact fresh.lineupLawful
    · rw [Bool.not_eq_true] at slotRow
      rw [slotRow] at run
      exact run.leads.keeps (P := State.LineupLawful) (fun _ _ m _ => m.lineupLawful) hs.2.1 hs

end Sys2Proof.Machine

open Sys2Proof Sys2Proof.Machine Host

/-- Settles O14: every move but those of the slot commands keeps the lineup, and each of the three slot commands moves
the references as it moves the keys. -/
theorem lineupStaysLawful : Obligations.LineupStaysLawful := by
  intro s t lawful h
  unfold step at h
  cases queue : s.pending with
  | nil =>
    simp only [queue] at h
    injection h with h
    exact h ▸ (idle_calm s).lineupLawful lawful
  | cons i rest =>
    simp only [queue] at h
    exact exec_lineupLawful ((pending_calm s rest).lineupLawful lawful) h

end

section
namespace Sys2Proof.Machine

open Sys2Proof Host

/-! ## Service records and carriages (R7, R108, R113) -/

/-! ### What a service record's law reads of the carriages -/

/-- The carriages of a service as the ranking engine counts them: index, state, whether selectable, whether with a
survey figure. -/
def State.rankedView (s : State) (key : Key) : List (Nat × CarriageState × Bool × Bool) :=
  (s.carriagesOf key).map fun x => (x.1, x.2.state, x.2.selectable, x.2.surveyFigure.isSome)

theorem mem_carriagesOf (s : State) (key : Key) (x : Nat × Carriage) :
    x ∈ s.carriagesOf key ↔ x ∈ s.carriages ∧ x.2.service = key := by
  simp [State.carriagesOf]

theorem hasCarriage_iff {s : State} (ordered : s.CatalogueOrdered) (key : Key) (c : Nat) (p : Carriage → Prop) :
    s.HasCarriage key c p ↔ ∃ x, (c, x) ∈ s.carriagesOf key ∧ p x := by
  simp only [State.HasCarriage, ordered.carriage_eq_some, mem_carriagesOf, and_assoc]

/-- A carriage seen alike is there, with what the ranking engine reads of it. -/
theorem hasCarriage_of_view {s t : State} (so : s.CatalogueOrdered) (ordered : t.CatalogueOrdered) {key : Key}
    (view : t.rankedView key = s.rankedView key) {c : Nat} {p : Carriage → Prop}
    (reads : ∀ x y : Carriage, x.RankedAs y → p x → p y) (h : s.HasCarriage key c p) : t.HasCarriage key c p := by
  obtain ⟨x, hx, px⟩ := (hasCarriage_iff so key c p).1 h
  have seen : (c, x.state, x.selectable, x.surveyFigure.isSome) ∈ t.rankedView key :=
    view ▸ List.mem_map.2 ⟨(c, x), hx, rfl⟩
  obtain ⟨y, hy, e⟩ := List.mem_map.1 seen
  simp only [Prod.mk.injEq] at e
  obtain ⟨index, state, selectable, figure⟩ := e
  subst index
  exact (hasCarriage_iff ordered key y.1 p).2 ⟨y.2, hy, reads x y.2 ⟨state, selectable, figure⟩ px⟩

theorem selectableCount_eq (s : State) (key : Key) :
    (s.carriages.countP fun x => x.2.service = key && x.2.selectable) = (s.rankedView key).countP fun w => w.2.2.1 := by
  rw [State.rankedView, List.countP_map, State.carriagesOf, List.countP_filter]
  refine List.countP_congr fun x _ => ?_
  simp [and_comm]

theorem Carriage.RankedAs.standing {x y : Carriage} (h : x.RankedAs y)
    (hx : x.state = .usable ∧ x.laneDown = false ∧ x.stalled = false) :
    y.state = .usable ∧ y.laneDown = false ∧ y.stalled = false := by
  rw [← selectable_iff] at hx ⊢
  rw [h.selectable, hx]

/-- The law of a record reads nothing else of the carriages. -/
theorem Service.Lawful.of_view {s t : State} {v : Service} (so : s.CatalogueOrdered) (ordered : t.CatalogueOrdered)
    (view : t.rankedView v.key = s.rankedView v.key) (h : v.Lawful s) : v.Lawful t := by
  obtain ⟨length, nodup, ranked, selected, candidate, idle, pinned, prospect, count⟩ := h
  refine ⟨length, nodup, fun c hc => ?_, fun c hc => ?_, fun c hc => ?_, idle, fun c hc => ?_, fun c hc => ?_, ?_⟩
  · exact hasCarriage_of_view so ordered view (fun x y r hx => by rw [r.state]; exact hx) (ranked c hc)
  · exact hasCarriage_of_view so ordered view (fun x y r hx => r.standing hx) (selected c hc)
  · exact hasCarriage_of_view so ordered view (fun _ _ _ _ => trivial) (candidate c hc)
  · exact hasCarriage_of_view so ordered view (fun _ _ _ _ => trivial) (pinned c hc)
  · exact hasCarriage_of_view so ordered view (fun x y r hx => by rw [r.state, r.figure]; exact hx) (prospect c hc)
  · rw [count, selectableCount_eq, selectableCount_eq, view]

/-! ### The evaluation of a record (R111) -/

theorem insertRanked_perm (s : State) (a : Nat × Carriage) (l : List (Nat × Carriage)) :
    (insertRanked s a l).Perm (a :: l) := by
  induction l with
  | nil => exact List.Perm.refl _
  | cons b l ih =>
    unfold insertRanked
    split
    · exact List.Perm.refl _
    · exact (ih.cons b).trans (List.Perm.swap a b l)

/-- The rank order holds the carriages of the service that hold bindings, each once (R107). -/
theorem rankOrder_perm (s : State) (key : Key) :
    (s.rankOrder key).Perm ((s.carriagesOf key).filter fun x => x.2.state.holdsBindings) := by
  have fold : ∀ l : List (Nat × Carriage), (l.foldr (insertRanked s) []).Perm l := by
    intro l
    induction l with
    | nil => exact List.Perm.refl _
    | cons a l ih => exact (insertRanked_perm s a _).trans (ih.cons a)
  exact fold _

theorem mem_rankOrder {s : State} {key : Key} {x : Nat × Carriage} :
    x ∈ s.rankOrder key ↔ x ∈ s.carriagesOf key ∧ x.2.state.holdsBindings = true := by
  rw [(rankOrder_perm s key).mem_iff, List.mem_filter]

theorem rankOrder_nodup {s : State} (ordered : s.CatalogueOrdered) (key : Key) :
    ((s.rankOrder key).map Prod.fst).Nodup := by
  rw [((rankOrder_perm s key).map _).nodup_iff]
  exact TableOrdered.keys_nodup ((ordered.carriages_ordered.filter _).filter _)

theorem selectable_holds {x : Carriage} (h : x.selectable = true) : x.state.holdsBindings = true := by
  rw [((selectable_iff x).1 h).1]
  rfl

theorem rankOrder_count (s : State) (key : Key) : ((s.rankOrder key).countP fun x => x.2.selectable) =
    s.carriages.countP fun x => x.2.service = key && x.2.selectable := by
  rw [(rankOrder_perm s key).countP_eq, List.countP_filter, State.carriagesOf, List.countP_filter]
  refine List.countP_congr fun x _ => ?_
  simp only [Bool.and_eq_true, decide_eq_true_eq]
  exact ⟨fun ⟨⟨sel, _⟩, key⟩ => ⟨key, sel⟩, fun ⟨key, sel⟩ => ⟨⟨sel, selectable_holds sel⟩, key⟩⟩

theorem selectableAt_some {s : State} {c : Option Nat} {p : Nat × Carriage} (h : s.selectableAt c = some p) :
    c = some p.1 ∧ s.carriage p.1 = some p.2 ∧ p.2.selectable = true := by
  unfold State.selectableAt at h
  split at h
  · cases h
  · split at h
    · cases h
    · split at h
      · injection h with h
        subst h
        exact ⟨rfl, ‹_›, ‹_›⟩
      · cases h

theorem bestOf_mem {s : State} {l : List (Nat × Carriage)} {b : Nat × Carriage} (h : s.bestOf l = some b) : b ∈ l := by
  induction l generalizing b with
  | nil => cases h
  | cons a l ih =>
    unfold State.bestOf at h
    split at h
    · injection h with h
      exact h ▸ List.mem_cons_self ..
    · rename_i d best
      split at h <;> injection h with h <;> subst h
      · exact List.mem_cons_of_mem _ (ih best)
      · exact List.mem_cons_self ..

theorem firstHealthy_mem {s : State} {key : Key} {x : Nat × Carriage}
    (h : s.firstHealthy (s.rankOrder key) = some x) : x ∈ s.carriagesOf key ∧ x.2.selectable = true := by
  have healthy := List.find?_some h
  simp only [Bool.and_eq_true] at healthy
  exact ⟨(mem_rankOrder.1 (List.mem_of_find?_eq_some h)).1, healthy.1⟩

theorem replacement_mem {s : State} {key : Key} {c : Nat} (h : s.replacement (s.rankOrder key) = some c) :
    ∃ x, (c, x) ∈ s.carriagesOf key ∧ x.selectable = true := by
  unfold State.replacement at h
  split at h
  · rename_i x healthy
    injection h with h
    subst h
    exact ⟨x.2, firstHealthy_mem healthy⟩
  · obtain ⟨x, first, rfl⟩ := Option.map_eq_some_iff.1 h
    exact ⟨x.2, (mem_rankOrder.1 (List.mem_of_find?_eq_some first)).1,
      List.find?_some (p := fun x : Nat × Carriage => x.2.selectable) first⟩

/-- What a selection has to be for a service: of its carriages, the selected one selectable, with no count without a
candidate (R7, R113). -/
structure Selection.Sound (s : State) (key : Key) (sel : Selection) : Prop where
  selected : ∀ c, sel.selected = some c → ∃ x, (c, x) ∈ s.carriagesOf key ∧ x.selectable = true
  candidate : ∀ c, sel.candidate = some c → ∃ x, (c, x) ∈ s.carriagesOf key
  idle : sel.candidate = none → sel.confirmCount = 0

theorem settled_sound {s : State} {key : Key} {c : Option Nat}
    (h : ∀ d, c = some d → ∃ x, (d, x) ∈ s.carriagesOf key ∧ x.selectable = true) :
    (Selection.settled c).Sound s key := ⟨h, by nofun, fun _ => rfl⟩

/-- A record whose selection and pin are carriages of its service. -/
structure Service.Rooted (s : State) (v : Service) : Prop where
  selected : ∀ c, v.selected = some c → s.HasCarriage v.key c fun _ => True
  pinned : ∀ c, v.pinned = some c → s.HasCarriage v.key c fun _ => True

theorem Service.Lawful.rooted {s : State} {v : Service} (h : v.Lawful s) : v.Rooted s := by
  obtain ⟨-, -, -, selected, -, -, pinned, -⟩ := h
  refine ⟨fun c hc => ?_, pinned⟩
  obtain ⟨x, found, service, -⟩ := selected c hc
  exact ⟨x, found, service, trivial⟩

/-- The carriage of a service at an index that it names, when selectable. -/
theorem selectableAt_sound {s : State} {key : Key} {c : Option Nat} {p : Nat × Carriage}
    (own : ∀ d, c = some d → s.HasCarriage key d fun _ => True) (h : s.selectableAt c = some p) :
    p ∈ s.carriagesOf key ∧ p.2.selectable = true := by
  obtain ⟨rfl, found, selectable⟩ := selectableAt_some h
  obtain ⟨x, found', service, -⟩ := own p.1 rfl
  rw [found] at found'
  injection found' with e
  exact ⟨(mem_carriagesOf s key p).2 ⟨State.carriage_mem found, e ▸ service⟩, selectable⟩

theorem confirm_sound {s : State} {v : Service} {t : Nat × Carriage} {scored : Option Nat}
    (standing : ∀ c, v.selected = some c → ∃ x, (c, x) ∈ s.carriagesOf v.key ∧ x.selectable = true)
    (challenger : t ∈ s.carriagesOf v.key ∧ t.2.selectable = true) : (s.confirm v t.1 scored).Sound s v.key := by
  have own : ∀ d, some t.1 = some d → ∃ x, (d, x) ∈ s.carriagesOf v.key := fun d hd => by
    injection hd with hd
    exact hd ▸ ⟨t.2, challenger.1⟩
  unfold State.confirm
  split
  · dsimp only
    generalize (if v.candidate = some t.1 then saturate 15 (v.confirmCount + 1) else 1) = count
    split
    · exact settled_sound fun d hd => by
        injection hd with hd
        exact hd ▸ ⟨t.2, challenger⟩
    · exact ⟨standing, own, by nofun⟩
  · split
    · rename_i candidate
      exact ⟨standing, fun d hd => own d (candidate ▸ hd), fun none => by rw [candidate] at none; cases none⟩
    · exact settled_sound standing

/-- The selection of an evaluation is sound for a rooted record (R112 to R115). -/
theorem select_sound {s : State} {v : Service} (rooted : v.Rooted s)
    (scored : Option Nat) : (s.select v scored).Sound s v.key := by
  unfold State.select
  split
  · rename_i p hp
    exact settled_sound fun d hd => by
      injection hd with hd
      exact hd ▸ ⟨p.2, selectableAt_sound rooted.pinned hp⟩
  · split
    · exact settled_sound fun d hd => replacement_mem hd
    · rename_i sel hsel
      have standing : ∀ c, v.selected = some c → ∃ x, (c, x) ∈ s.carriagesOf v.key ∧ x.selectable = true :=
        fun c hc => by
          have e : v.selected = some sel.1 := (selectableAt_some hsel).1
          rw [e] at hc
          injection hc with hc
          exact hc ▸ ⟨sel.2, selectableAt_sound rooted.selected hsel⟩
      unfold State.challenge
      split
      · split
        · exact confirm_sound standing (firstHealthy_mem ‹_›)
        · exact settled_sound standing
      · exact settled_sound standing

/-- The fields an evaluation writes and those it leaves (R111). -/
theorem evaluated_fields (s : State) (v : Service) (scored : Option Nat) :
    (s.evaluated v scored).rankedList = ((s.rankOrder v.key).take Config.maxRanked).map Prod.fst ∧
      (s.evaluated v scored).selectableCount = ((s.rankOrder v.key).countP fun x => x.2.selectable) ∧
      (s.evaluated v scored).selected = (s.select v scored).selected ∧
      (s.evaluated v scored).candidate = (s.select v scored).candidate ∧
      (s.evaluated v scored).confirmCount = (s.select v scored).confirmCount ∧
      (s.evaluated v scored).bestProspect = (s.bestProspectOf v.key).map Prod.fst ∧
      (s.evaluated v scored).pinned = v.pinned := by
  unfold State.evaluated
  simp only
  split <;> split <;> exact ⟨rfl, rfl, rfl, rfl, rfl, rfl, rfl⟩

/-- An evaluation makes a rooted record lawful. -/
theorem evaluated_lawful {s : State} (ordered : s.CatalogueOrdered) {v : Service} (rooted : v.Rooted s)
    (scored : Option Nat) : (s.evaluated v scored).Lawful s := by
  obtain ⟨ranked, count, selected, candidate, confirm, prospect, pinned⟩ := evaluated_fields s v scored
  have sound := select_sound rooted scored
  unfold Service.Lawful
  rw [ranked, count, selected, candidate, confirm, prospect, pinned, evaluated_key]
  have taken : ((s.rankOrder v.key).take Config.maxRanked).Sublist (s.rankOrder v.key) := List.take_sublist ..
  refine ⟨?_, (taken.map _).nodup (rankOrder_nodup ordered v.key), fun c hc => ?_, fun c hc => ?_, fun c hc => ?_,
    sound.idle, rooted.pinned, fun c hc => ?_, rankOrder_count s v.key⟩
  · simp [Config.maxRanked]
  · obtain ⟨x, hx, rfl⟩ := List.mem_map.1 hc
    obtain ⟨own, holds⟩ := mem_rankOrder.1 (taken.subset hx)
    exact (hasCarriage_iff ordered _ _ _).2 ⟨x.2, own, holds⟩
  · obtain ⟨x, own, selectable⟩ := sound.selected c hc
    exact (hasCarriage_iff ordered _ _ _).2 ⟨x, own, (selectable_iff x).1 selectable⟩
  · obtain ⟨x, own⟩ := sound.candidate c hc
    exact (hasCarriage_iff ordered _ _ _).2 ⟨x, own, trivial⟩
  · obtain ⟨x, best, rfl⟩ := Option.map_eq_some_iff.1 hc
    obtain ⟨own, shelved⟩ := List.mem_filter.1 (bestOf_mem best)
    simp only [Bool.and_eq_true, decide_eq_true_eq] at shelved
    exact (hasCarriage_iff ordered _ _ _).2 ⟨x.2, own, shelved⟩

/-! ### Records that wait for their evaluation -/

/-- Every record is lawful, or rooted and due for an evaluation. -/
structure State.Awaiting (s : State) (due : Key → Prop) : Prop where
  ordered : s.CatalogueOrdered
  records : ∀ x ∈ s.services, x.2.Lawful s ∨ x.2.Rooted s ∧ due x.2.key

/-- A service is handed on. -/
def State.Told (s : State) (key : Key) : Prop := ∃ h ∈ s.handed, h.key = key

theorem mem_handedKeys {hs : List Handed} {key : Key} : key ∈ handedKeys hs ↔ ∃ h ∈ hs, h.key = key := by
  induction hs with
  | nil => simp [handedKeys]
  | cons h hs ih =>
    unfold handedKeys
    by_cases hk : (handedKeys hs).contains h.key = true
    · rw [if_pos hk, ih]
      simp only [List.mem_cons, exists_eq_or_imp]
      refine ⟨.inr, ?_⟩
      rintro (rfl | there)
      · exact ih.1 (by simpa using hk)
      · exact there
    · rw [if_neg hk, List.mem_cons, ih]
      simp only [List.mem_cons, exists_eq_or_imp]
      exact or_congr eq_comm Iff.rfl

theorem rankedView_of_carriages {s t : State} (h : t.carriages = s.carriages) (key : Key) :
    t.rankedView key = s.rankedView key := by
  rw [State.rankedView, State.carriagesOf, h]
  rfl

theorem Service.Rooted.of_view {s t : State} {v : Service} (so : s.CatalogueOrdered) (ordered : t.CatalogueOrdered)
    (view : t.rankedView v.key = s.rankedView v.key) (h : v.Rooted s) : v.Rooted t :=
  ⟨fun c hc => hasCarriage_of_view so ordered view (fun _ _ _ _ => trivial) (h.selected c hc),
    fun c hc => hasCarriage_of_view so ordered view (fun _ _ _ _ => trivial) (h.pinned c hc)⟩

theorem evaluateService_awaiting {s : State} {key : Key} {scored : Option Nat} {due : Key → Prop}
    (h : s.Awaiting fun k => k = key ∨ due k) : (evaluateService s key scored).Awaiting due := by
  have ordered : (evaluateService s key scored).CatalogueOrdered :=
    catalogueOrdered_of_keys (modService_keys s key _ fun v => evaluated_key s v scored) rfl h.ordered
  have view : ∀ k, (evaluateService s key scored).rankedView k = s.rankedView k := rankedView_of_carriages rfl
  refine ⟨ordered, fun y hy => ?_⟩
  rw [evaluateService_services] at hy
  obtain ⟨x, hx, rfl⟩ := List.mem_map.1 hy
  dsimp only
  split
  · left
    refine Service.Lawful.of_view h.ordered ordered (view _) (evaluated_lawful h.ordered ?_ scored)
    exact (h.records x hx).elim Service.Lawful.rooted And.left
  · rename_i other
    rcases h.records x hx with lawful | ⟨rooted, waits⟩
    · exact .inl (lawful.of_view h.ordered ordered (view _))
    · exact .inr ⟨rooted.of_view h.ordered ordered (view _), waits.resolve_left other⟩

/-- The evaluations of an act leave every record lawful. -/
theorem evaluateHanded_awaiting {s : State} (h : s.Awaiting s.Told) : (evaluateHanded s).Awaiting fun _ => False := by
  have fold : ∀ (keys : List Key) (scored : Key → Option Nat) (t : State), t.Awaiting (· ∈ keys) →
      (keys.foldl (fun t key => evaluateService t key (scored key)) t).Awaiting fun _ => False := by
    intro keys scored
    induction keys with
    | nil => exact fun t ht => ⟨ht.ordered, fun x hx => (ht.records x hx).imp id fun w => ⟨w.1, by simpa using w.2⟩⟩
    | cons key keys ih =>
      exact fun t ht => ih _ (evaluateService_awaiting
        ⟨ht.ordered, fun x hx => (ht.records x hx).imp id fun w => ⟨w.1, List.mem_cons.1 w.2⟩⟩)
  refine fold _ _ _ ⟨h.ordered, fun x hx => ?_⟩
  have view : ({ s with handed := [] } : State).rankedView x.2.key = s.rankedView x.2.key := rankedView_of_carriages rfl _
  rcases h.records x hx with lawful | ⟨rooted, told⟩
  · exact .inl (lawful.of_view h.ordered h.ordered view)
  · exact .inr ⟨rooted.of_view h.ordered h.ordered view, mem_handedKeys.2 told⟩

/-! ### Moves -/

/-- A carriage of a service is so by the keys of the Carriage Table. -/
theorem hasCarriage_iff_keys {s : State} (ordered : s.CatalogueOrdered) (key : Key) (c : Nat) :
    (s.HasCarriage key c fun _ => True) ↔ ∃ e, (c, e, key) ∈ s.carriageKeys := by
  rw [hasCarriage_iff ordered]
  simp only [mem_carriagesOf, and_true, State.carriageKeys, List.mem_map, Prod.mk.injEq]
  constructor
  · rintro ⟨x, hx, service⟩
    exact ⟨x.entry, (c, x), hx, rfl, rfl, service⟩
  · rintro ⟨e, x, hx, rfl, -, service⟩
    exact ⟨x.2, hx, service⟩

theorem Service.Rooted.of_keys {s t : State} {v : Service} (so : s.CatalogueOrdered) (ordered : t.CatalogueOrdered)
    (keys : ∀ z ∈ s.carriageKeys, z ∈ t.carriageKeys) (h : v.Rooted s) : v.Rooted t := by
  have owns : ∀ c, (s.HasCarriage v.key c fun _ => True) → t.HasCarriage v.key c fun _ => True := fun c hc => by
    obtain ⟨e, he⟩ := (hasCarriage_iff_keys so v.key c).1 hc
    exact (hasCarriage_iff_keys ordered v.key c).2 ⟨e, keys _ he⟩
  exact ⟨fun c hc => owns c (h.selected c hc), fun c hc => owns c (h.pinned c hc)⟩

/-- A change of carriages that keeps their entries and services and hands on every service whose carriages the ranking
engine sees otherwise. -/
theorem State.Awaiting.of_kept {s t : State} (h : s.Awaiting s.Told) (ordered : t.CatalogueOrdered)
    (services : t.services = s.services) (keys : ∀ z ∈ s.carriageKeys, z ∈ t.carriageKeys)
    (told : ∀ key, s.Told key → t.Told key) (view : ∀ key, t.rankedView key = s.rankedView key ∨ t.Told key) :
    t.Awaiting t.Told := by
  refine ⟨ordered, fun x hx => ?_⟩
  rw [services] at hx
  rcases h.records x hx with lawful | ⟨rooted, was⟩
  · rcases view x.2.key with same | now
    · exact .inl (lawful.of_view h.ordered ordered same)
    · exact .inr ⟨lawful.rooted.of_keys h.ordered ordered keys, now⟩
  · exact .inr ⟨rooted.of_keys h.ordered ordered keys, told _ was⟩

/-- Putting another record of the same service in a carriage's place is seen by that service alone. -/
theorem rankedView_replaceAt {s t : State} {c : Nat} {x y : Carriage} {key : Key} (ordered : s.CatalogueOrdered)
    (found : s.carriage c = some x) (h : t.carriages = replaceAt s.carriages c y) (service : y.service = x.service)
    (other : key ≠ x.service) : t.rankedView key = s.rankedView key := by
  have same : t.carriagesOf key = s.carriagesOf key := by
    simp only [State.carriagesOf, h, replaceAt, List.filter_map]
    have unread : ∀ z ∈ s.carriages,
        ((fun z : Nat × Carriage => decide (z.2.service = key)) ∘ fun z => (z.1, if z.1 = c then y else z.2)) z =
          decide (z.2.service = key) := fun z hz => by
      by_cases hc : z.1 = c
      · have : z.2 = x := by
          have := ordered.carriage_of_mem hz
          rw [hc, found] at this
          exact (Option.some.inj this).symm
        simp [hc, service, this]
      · simp [hc]
    rw [List.filter_congr unread]
    refine (List.map_congr_left (g := id) fun z hz => ?_).trans (List.map_id _)
    obtain ⟨mem, own⟩ := List.mem_filter.1 hz
    have : z.1 ≠ c := fun hc => by
      have found' := ordered.carriage_of_mem mem
      rw [hc, found] at found'
      injection found' with e
      exact other (by rw [e]; exact (of_decide_eq_true own).symm)
    simp [this]
  rw [State.rankedView, same]
  rfl

/-- A change of one carriage that hands its service on. -/
theorem State.Awaiting.of_replaceAt {s t : State} {c : Nat} {x y : Carriage} (h : s.Awaiting s.Told)
    (ordered : t.CatalogueOrdered) (found : s.carriage c = some x) (services : t.services = s.services)
    (carriages : t.carriages = replaceAt s.carriages c y) (entry : y.entry = x.entry) (service : y.service = x.service)
    (handed : t.handed = s.handed ++ [{ key := x.service, scored := none }]) : t.Awaiting t.Told := by
  have now : t.Told x.service := ⟨_, by rw [handed]; exact List.mem_append_right _ (List.mem_singleton_self _), rfl⟩
  refine h.of_kept ordered services ?_ ?_ fun key => ?_
  · rw [carriageKeys_replaceAt h.ordered.carriages_ordered found entry service carriages]
    exact fun _ hz => hz
  · rintro key ⟨n, hn, rfl⟩
    exact ⟨n, by rw [handed]; exact List.mem_append_left _ hn, rfl⟩
  · by_cases hk : key = x.service
    · exact .inr (hk ▸ now)
    · exact .inl (rankedView_replaceAt h.ordered found carriages service hk)

/-- A change of the records alone that leaves what their law reads. -/
theorem State.Awaiting.of_records {s t : State} (h : s.Awaiting s.Told) (ordered : t.CatalogueOrdered)
    (carriages : t.carriages = s.carriages) (handed : t.handed = s.handed)
    (records : ∀ y ∈ t.services, (∃ x ∈ s.services, x.2.Stands y.2) ∨ y.2.Lawful t) : t.Awaiting t.Told := by
  refine ⟨ordered, fun y hy => ?_⟩
  rcases records y hy with ⟨x, hx, stands⟩ | lawful
  · have view : ∀ k, t.rankedView k = s.rankedView k := rankedView_of_carriages carriages
    obtain ⟨key, ranked, selected, candidate, confirm, pinned, prospect, count⟩ := stands
    rcases h.records x hx with lawful | ⟨rooted, told⟩
    · left
      have here := lawful.of_view h.ordered ordered (view x.2.key)
      unfold Service.Lawful at here ⊢
      rw [key, ranked, selected, candidate, confirm, pinned, prospect, count]
      exact here
    · right
      have here := rooted.of_view h.ordered ordered (view x.2.key)
      refine ⟨⟨fun c hc => ?_, fun c hc => ?_⟩, ?_⟩
      · rw [key]; exact here.selected c (selected ▸ hc)
      · rw [key]; exact here.pinned c (pinned ▸ hc)
      · obtain ⟨n, hn, e⟩ := told
        exact ⟨n, handed ▸ hn, e.trans key.symm⟩
  · exact .inl lawful

theorem Service.Stands.refl (v : Service) : v.Stands v := ⟨rfl, rfl, rfl, rfl, rfl, rfl, rfl, rfl⟩

/-- A record just made is lawful: no carriage has its key. -/
theorem fresh_lawful {s : State} (key : Key) (name : List Byte) (none : ∀ x ∈ s.carriages, x.2.service ≠ key) :
    (Service.fresh key name).Lawful s := by
  refine ⟨Nat.zero_le _, List.nodup_nil, by nofun, by nofun, by nofun, fun _ => rfl, by nofun, by nofun, ?_⟩
  refine (List.countP_eq_zero.2 fun x hx => ?_).symm
  have : ¬ x.2.service = (Service.fresh key name).key := none x hx
  simp [this]

theorem newService_awaiting {s t : State} {key : Key} {name : List Byte} (new : s.service key = none)
    (h : createService s key name = some t) (hs : s.Awaiting s.Told) : t.Awaiting t.Told := by
  have ordered := createService_ordered new h hs.ordered
  obtain ⟨i, free, rfl⟩ := createService_some h
  refine hs.of_records ordered rfl rfl fun y hy => ?_
  rcases (mem_tableSet (lowestFree_some free).2 y).1 hy with rfl | hy
  · refine .inr (fresh_lawful key name fun x hx e => ?_)
    have := hs.ordered.2.2.2.2.2.2 x hx
    rw [e, new] at this
    cases this
  · exact .inl ⟨y, hy, Service.Stands.refl _⟩

theorem mem_of_mem_freeIfUnheld {s : State} {key : Key} {y : Nat × Service}
    (hy : y ∈ (freeIfUnheld s key).services) : y ∈ s.services := by
  rcases freeIfUnheld_cases s key with e | ⟨-, e⟩ <;> rw [e] at hy
  · exact hy
  · exact (List.mem_filter.1 hy).1

theorem freeIfUnheld_awaiting {s : State} (key : Key) (hs : s.Awaiting s.Told) :
    (freeIfUnheld s key).Awaiting (freeIfUnheld s key).Told := by
  refine hs.of_records (freeIfUnheld_ordered key hs.ordered) (freeIfUnheld_carriages s key)
    (freeIfUnheld_within s key .handed (by decide)) fun y hy =>
      .inl ⟨y, mem_of_mem_freeIfUnheld hy, Service.Stands.refl _⟩

theorem carriagesOf_erase {s t : State} {c : Nat} {x : Carriage} {key : Key} (ordered : s.CatalogueOrdered)
    (found : s.carriage c = some x) (h : t.carriages = tableErase s.carriages c) (other : key ≠ x.service) :
    t.carriagesOf key = s.carriagesOf key := by
  simp only [State.carriagesOf, h, tableErase, List.filter_filter]
  refine List.filter_congr fun z hz => ?_
  by_cases hc : z.1 = c
  · have found' := ordered.carriage_of_mem hz
    rw [hc, found] at found'
    injection found' with e
    have : ¬ z.2.service = key := fun h => other (by rw [e]; exact h.symm)
    simp [this]
  · simp [hc]

theorem Service.Rooted.forget {s t : State} {v : Service} {c : Nat} (h : t.carriages = tableErase s.carriages c) (rooted : v.Rooted s) :
    (v.forget c).Rooted t := by
  have owns : ∀ d, d ≠ c → (s.HasCarriage v.key d fun _ => True) → t.HasCarriage v.key d fun _ => True := by
    rintro d hd ⟨x, found, service, -⟩
    refine ⟨x, ?_, service, trivial⟩
    rw [State.carriage, h, tableGet_erase_other _ (Ne.symm hd)]
    exact found
  refine ⟨fun d hd => ?_, fun d hd => ?_⟩
  · simp only [Service.forget] at hd
    split at hd
    · cases hd
    · exact owns d (fun e => ‹¬ _› (e ▸ hd)) (rooted.selected d hd)
  · simp only [Service.forget] at hd
    split at hd
    · cases hd
    · exact owns d (fun e => ‹¬ _› (e ▸ hd)) (rooted.pinned d hd)

/-- A removal hands the carriage's service on, whose record has lost every reference to the carriage (R22). -/
theorem removeCarriage_awaiting {s : State} (c : Nat) (hs : s.Awaiting s.Told) :
    (removeCarriage s c).Awaiting (removeCarriage s c).Told := by
  cases found : s.carriage c with
  | none => rw [removeCarriage_none found]; exact hs
  | some x =>
    have carriages := removeCarriage_carriages hs.ordered.carriages_ordered found
    have ordered := removeCarriage_ordered c hs.ordered
    have handed := removeCarriage_handed found
    have now : (removeCarriage s c).Told x.service :=
      ⟨_, by rw [handed]; exact List.mem_append_right _ (List.mem_singleton_self _), rfl⟩
    refine ⟨ordered, fun y hy => ?_⟩
    have kept : y ∈ (removed s c x).services := by
      rw [removeCarriage_some found, State.hand_services] at hy
      exact mem_of_mem_freeIfUnheld hy
    rw [removed_services, modService_services_eq] at kept
    obtain ⟨w, hw, rfl⟩ := List.mem_map.1 kept
    dsimp only
    split
    · rename_i own
      refine .inr ⟨?_, own ▸ now⟩
      exact ((hs.records w hw).elim Service.Lawful.rooted And.left).forget carriages
    · rename_i other
      have view : (removeCarriage s c).rankedView w.2.key = s.rankedView w.2.key := by
        rw [State.rankedView, carriagesOf_erase hs.ordered found carriages other]
        rfl
      rcases hs.records w hw with lawful | ⟨rooted, n, hn, e⟩
      · exact .inl (lawful.of_view hs.ordered ordered view)
      · exact .inr ⟨rooted.of_view hs.ordered ordered view, n, by rw [handed]; exact List.mem_append_left _ hn, e⟩

theorem filter_tableSet {t : List (Nat × Carriage)} {i : Nat} {a : Carriage} (vacant : tableGet t i = none)
    {p : Nat × Carriage → Bool} (h : p (i, a) = false) : (tableSet t i a).filter p = t.filter p := by
  induction t with
  | nil => simp [tableSet, h]
  | cons x t ih =>
    obtain ⟨j, b⟩ := x
    have hj : j ≠ i := tableGet_eq_none.1 vacant (j, b) (List.mem_cons_self ..)
    have rest := ih (tableGet_eq_none.2 fun z hz => tableGet_eq_none.1 vacant z (List.mem_cons_of_mem _ hz))
    simp only [tableSet, if_neg hj]
    split
    · simp [List.filter_cons, h]
    · simp [List.filter_cons, rest]

theorem create_awaiting {s : State} {c l e : Nat} {v : Listed} {mark : Bool}
    (free : lowestFree s.carriages Config.maxCarriages = some c)
    (ordered : (attemptBind (withCarriage s c (Carriage.created e v s.clock)) c l mark).CatalogueOrdered)
    (placed : (withCarriage s c (Carriage.created e v s.clock)).CatalogueOrdered) (hs : s.Awaiting s.Told) :
    (attemptBind (withCarriage s c (Carriage.created e v s.clock)) c l mark).Awaiting
      (attemptBind (withCarriage s c (Carriage.created e v s.clock)) c l mark).Told := by
  obtain ⟨-, vacant⟩ := lowestFree_some free
  have found : (withCarriage s c (Carriage.created e v s.clock)).carriage c = some (Carriage.created e v s.clock) :=
    tableGet_set_same _ hs.ordered.carriages_ordered vacant
  have carriages := attemptBind_carriages placed.carriages_ordered found l mark
  have handed := attemptBind_handed found l mark
  refine hs.of_kept ordered (attemptBind_services _ c l mark) (fun z hz => ?_) ?_ fun key => ?_
  · rw [carriageKeys_replaceAt placed.carriages_ordered found (attempted_entry ..) (attempted_service ..) carriages]
    obtain ⟨x, hx, rfl⟩ := List.mem_map.1 hz
    exact List.mem_map.2 ⟨x, (mem_tableSet vacant x).2 (.inr hx), rfl⟩
  · rintro key ⟨n, hn, rfl⟩
    exact ⟨n, by rw [handed]; exact List.mem_append_left _ hn, rfl⟩
  · by_cases hk : key = v.key
    · exact .inr ⟨_, by rw [handed]; exact List.mem_append_right _ (List.mem_singleton_self _), hk.symm⟩
    · left
      rw [rankedView_replaceAt placed found carriages (attempted_service ..) hk]
      have unlisted : decide ((Carriage.created e v s.clock).service = key) = false :=
        decide_eq_false (Ne.symm hk)
      rw [State.rankedView, State.carriagesOf]
      show ((tableSet s.carriages c _).filter _).map _ = _
      rw [filter_tableSet vacant unlisted]
      rfl

/-- Every move leaves each record lawful, or rooted and handed on. -/
theorem Move.awaiting {r : Bool} {B : BindRule} {s t : State} (h : Move r B s t) (hs : s.Awaiting s.Told) :
    t.Awaiting t.Told := by
  have ordered' := h.ordered hs.ordered
  cases h with
  | rest calm =>
    refine hs.of_records ordered' calm.carriages calm.handed fun y hy => .inl ⟨y, ?_, Service.Stands.refl _⟩
    rw [← calm.services]
    exact hy
  | adjust f handed stands told result =>
    subst result
    refine hs.of_kept ordered' rfl ?_ (fun key ⟨n, hn, e⟩ => ⟨n, List.mem_append_left _ hn, e⟩) fun key => ?_
    · rw [carriageKeys_eq_of_map (s := s) f (fun x hx => ⟨(stands x hx).entry, (stands x hx).service⟩)
        (t := { s with carriages := s.carriages.map fun x => (x.1, f x), handed := s.handed ++ handed }) rfl]
      exact fun _ hz => hz
    · by_cases now : ∃ n ∈ handed, n.key = key
      · obtain ⟨n, hn, e⟩ := now
        exact .inr ⟨n, List.mem_append_right _ hn, e⟩
      · left
        simp only [State.rankedView, State.carriagesOf, List.filter_map, List.map_map]
        have unread : ∀ z ∈ s.carriages, ((fun z : Nat × Carriage => decide (z.2.service = key)) ∘
            fun z => (z.1, f z)) z = decide (z.2.service = key) := fun z hz => by
          simp [(stands z hz).service]
        rw [List.filter_congr unread]
        refine List.map_congr_left fun z hz => ?_
        obtain ⟨mem, own⟩ := List.mem_filter.1 hz
        have ranked : z.2.RankedAs (f z) := (told z mem).resolve_right fun ⟨n, hn, e⟩ =>
          now ⟨n, hn, e.trans (of_decide_eq_true own)⟩
        simp [ranked.state, ranked.selectable, ranked.figure]
  | record g stands refs result =>
    subst result
    refine hs.of_records ordered' rfl rfl fun y hy => .inl ?_
    obtain ⟨x, hx, rfl⟩ := List.mem_map.1 hy
    exact ⟨x, hx, stands x.2⟩
  | tally g stands result =>
    subst result
    exact hs.of_records ordered' rfl rfl fun y hy => .inl ⟨y, hy, Service.Stands.refl _⟩
  | attempt found idle rule =>
    exact hs.of_replaceAt ordered' found (attemptBind_services ..)
      (attemptBind_carriages hs.ordered.carriages_ordered found _ _) (attempted_entry ..) (attempted_service ..)
      (attemptBind_handed found _ _)
  | shelve c =>
    cases found : s.carriage c with
    | none => rw [shelve_none found]; exact hs
    | some x =>
      exact hs.of_replaceAt ordered' found (shelve_within s c .services (by decide))
        (shelve_carriages hs.ordered.carriages_ordered found) rfl rfl (shelve_handed found)
  | rebind found flows rule =>
    refine hs.of_replaceAt ordered' found (rebind_within s _ _ _ _ .services (by decide))
      (rebind_carriages hs.ordered.carriages_ordered found _ _ _) ?_ ?_
      (rebind_handed hs.ordered.carriages_ordered found _ _ _)
    · rw [attempted_entry]; rfl
    · rw [attempted_service]; rfl
  | remove c => exact removeCarriage_awaiting c hs
  | create recorded new free flows rule =>
    exact create_awaiting free ordered' (create_ordered free recorded new rfl rfl hs.ordered) hs
  | newService new created => exact newService_awaiting new created hs
  | free key => exact freeIfUnheld_awaiting key hs
  | evaluate =>
    have done := evaluateHanded_awaiting hs
    exact ⟨done.ordered, fun x hx => (done.records x hx).imp id fun w => w.2.elim⟩
  | @pin key p own =>
    refine ⟨ordered', fun y hy => ?_⟩
    have view : ∀ k, ((s.modService key fun v => { v with pinned := p }).hand key).rankedView k = s.rankedView k :=
      rankedView_of_carriages rfl
    rw [State.hand_services, modService_services_eq] at hy
    obtain ⟨w, hw, rfl⟩ := List.mem_map.1 hy
    dsimp only
    split
    · rename_i here
      have rooted := ((hs.records w hw).elim Service.Lawful.rooted And.left).of_view hs.ordered ordered' (view _)
      refine .inr ⟨⟨rooted.selected, fun c hc => ?_⟩, _, List.mem_append_right _ (List.mem_singleton_self _), here.symm⟩
      obtain ⟨x, found, service⟩ := Option.map_eq_some_iff.1 (of_decide_eq_true (own c hc))
      exact ⟨x, found, service.trans here.symm, trivial⟩
    · rcases hs.records w hw with lawful | ⟨rooted, n, hn, e⟩
      · exact .inl (lawful.of_view hs.ordered ordered' (view _))
      · exact .inr ⟨rooted.of_view hs.ordered ordered' (view _), n, List.mem_append_left _ hn, e⟩
  | relist allowed g stands services carriages bindings handed shaped =>
    refine hs.of_records ordered' carriages handed fun y hy => .inl ?_
    rw [services] at hy
    obtain ⟨x, hx, rfl⟩ := List.mem_map.1 hy
    exact ⟨x, hx, stands x.2⟩

theorem rankingLawful_of_awaiting {s : State} (settled : s.handed = []) (h : s.Awaiting s.Told) : s.RankingLawful := by
  refine ⟨settled, h.ordered, fun x hx => (h.records x hx).resolve_right ?_⟩
  rintro ⟨-, n, hn, -⟩
  rw [settled] at hn
  cases hn

end Sys2Proof.Machine

open Sys2Proof Sys2Proof.Machine Host

/-- Settles O12: every move leaves each service record lawful, or rooted in its carriages and handed on for the
evaluation that makes it lawful; and a step leaves nothing handed on. -/
theorem selectionsStand : Obligations.SelectionsStand := by
  rintro s t ⟨settled, ordered, lawful⟩ h
  rcases step_concludes h with fresh | run
  · exact ⟨fresh.handed, fresh.catalogueOrdered, by rw [fresh.services]; nofun⟩
  · exact rankingLawful_of_awaiting (run.settled settled)
      (run.leads.keeps (P := fun u => u.Awaiting u.Told) (fun _ _ m _ => m.awaiting) ordered
        ⟨ordered, fun x hx => .inl (lawful x hx)⟩)

end

section
namespace Sys2Proof.Machine

open Sys2Proof Host

/-! ## Who holds which entry (R2, R5, R18, R66, R68)

The laws of tenancy are carried through an act that ends visits and makes claims. In such an act a lane whose visit
has ended claims only as the act closes, and a lane command empties its lane before it writes the lane's record. -/

/-- A lane waits for no tag (R71, R80). -/
def Lane.Quiet (n : Lane) : Prop := n.currentTag = none ∧ n.acknowledged = false

/-- A roving lane whose visit has ended and that has yet to claim. -/
structure Lane.Between (n : Lane) : Prop where
  mode : n.mode = .roving
  entry : n.entry = none
  rover : n.rover.isSome
  visiting : n.visiting = none
  quiet : n.Quiet

/-- The laws of R18 for the entries of `s`, as a rule for binding. -/
def State.placesAt (s : State) : BindRule := fun e lo st =>
  e < 64 ∧
    match st with
    | .shelved => lo = none
    | .survey => lo.isSome ∧ (s.entry e).visitingLane = lo
    | .incomplete => lo.isSome ∧ ((s.entry e).parkedLane = lo ∨ (s.entry e).visitingLane = lo)
    | .probation | .usable | .faulted => lo.isSome ∧ (s.entry e).parkedLane = lo

/-- The carriages stand where their entries' lanes are. -/
def State.AllPlaced (s : State) : Prop := ∀ x ∈ s.carriages, s.placesAt x.2.entry x.2.lane x.2.state

/-- Entries and lanes name one another: `P` gives the lane of an entry, `Q` the entry of a lane. -/
def Matched (lanes : Nat) (P Q : Nat → Option Nat) : Prop :=
  ∀ e < 64, ∀ l, P e = some l ↔ l < lanes ∧ Q l = some e

theorem Matched.congr {lanes : Nat} {P P' Q Q' : Nat → Option Nat} (h : Matched lanes P Q) (hP : ∀ e, P' e = P e)
    (hQ : ∀ l, Q' l = Q l) : Matched lanes P' Q' := by
  rwa [funext hP, funext hQ]

/-- A lane lets its entry go. -/
theorem Matched.release {lanes : Nat} {P P' Q Q' : Nat → Option Nat} (h : Matched lanes P Q) {l e : Nat}
    (below : e < 64) (held : P e = some l) (entry : P' e = none) (lane : Q' l = none)
    (hP : ∀ d, d ≠ e → P' d = P d) (hQ : ∀ j, j ≠ l → Q' j = Q j) : Matched lanes P' Q' := by
  intro d hd j
  by_cases hj : j = l
  · subst hj
    simp only [lane, reduceCtorEq, and_false, iff_false]
    by_cases hde : d = e
    · simp [hde, entry]
    · rw [hP d hde, h d hd]
      intro ⟨_, other⟩
      exact hde (Option.some.inj (other.symm.trans ((h e below j).1 held).2))
  · rw [hQ j hj, ← h d hd]
    by_cases hde : d = e
    · subst hde
      simp only [entry, held, reduceCtorEq, Option.some.injEq, false_iff]
      exact Ne.symm hj
    · rw [hP d hde]

/-- A lane that holds none takes an entry that none holds. -/
theorem Matched.take {lanes : Nat} {P P' Q Q' : Nat → Option Nat} (h : Matched lanes P Q) {l e : Nat}
    (below : e < 64) (lane : l < lanes) (free : P e = none) (idle : Q l = none) (taken : P' e = some l)
    (held : Q' l = some e) (hP : ∀ d, d ≠ e → P' d = P d) (hQ : ∀ j, j ≠ l → Q' j = Q j) : Matched lanes P' Q' := by
  intro d hd j
  by_cases hde : d = e
  · subst hde
    rw [taken, Option.some.injEq]
    constructor
    · rintro rfl
      exact ⟨lane, held⟩
    · rintro ⟨hj, hq⟩
      by_contra other
      rw [hQ j (Ne.symm other)] at hq
      exact absurd ((h d hd j).2 ⟨hj, hq⟩) (by simp [free])
  · rw [hP d hde, h d hd]
    by_cases hj : j = l
    · subst hj
      simp [idle, held, Ne.symm hde]
    · rw [hQ j hj]

/-- The entry a lane is parked on, when its record counts. -/
def State.parks (s : State) (out : Option Nat) (l : Nat) : Option Nat := if out = some l then none else (s.lane l).entry

/-- The entry a lane visits, when its record counts. -/
def State.visits (s : State) (out : Option Nat) (l : Nat) : Option Nat :=
  if out = some l then none else (s.lane l).visiting

/-- The laws of tenancy in the midst of an act: the lanes `ls` have yet to claim, and lane `out`, if there is one, is
emptied and its record about to be written. -/
structure State.Tenancy (ls : List Nat) (out : Option Nat) (s : State) : Prop where
  ordered : s.CatalogueOrdered
  shaped : s.Shaped
  between : ∀ l < 17, out ≠ some l → l ∈ ls → (s.lane l).Between
  modes : ∀ l < 17, out ≠ some l → l ∉ ls → (s.lane l).ModeLawful
  parked : Matched 17 (fun e => (s.entry e).parkedLane) (s.parks out)
  visited : Matched 16 (fun e => (s.entry e).visitingLane) (s.visits out)
  apart : ∀ e < 64, (s.entry e).parkedLane = none ∨ (s.entry e).visitingLane = none
  house : (s.entry 63).parkedLane = some 16
  houseLane : (s.lane 16).rover = none
  pointer : s.surveyPointer ≤ 62
  rising : s.promptSet.Pairwise (· < ·)
  prompts : ∀ e ∈ s.promptSet, s.eligible e = true
  placed : s.AllPlaced

theorem tenancy_iff (s : State) : s.Tenancy [] none ↔ s.CatalogueOrdered ∧ s.TenancyLawful := by
  constructor
  · intro h
    exact ⟨h.ordered, h.shaped, fun l hl => h.modes l hl (by nofun) (by nofun), h.parked, h.visited, h.apart, h.house,
      h.houseLane, h.pointer, h.rising, h.prompts, h.placed⟩
  · rintro ⟨ordered, shaped, modes, parked, visited, apart, house, houseLane, pointer, rising, prompts, placed⟩
    exact ⟨ordered, shaped, by nofun, fun l hl _ _ => modes l hl, parked, visited, apart, house, houseLane, pointer,
      rising, prompts, placed⟩

/-! ### What a lane record and an entry keep of their tenancy -/

/-- What the laws of tenancy read of a rover record. -/
def Rover.tenancy (r : Rover) : Bool × Option Nat := (decide (r.visitState = .paused), r.claimedEntry)

/-- A lane record keeps its tenancy: its mode, its entry and its visit, and, with no visit, that it waits for no tag. -/
structure Lane.Keeps (n m : Lane) : Prop where
  mode : m.mode = n.mode
  entry : m.entry = n.entry
  rover : m.rover.map Rover.tenancy = n.rover.map Rover.tenancy
  quiet : n.rover.isSome → n.visiting = none → n.Quiet → m.Quiet

theorem Lane.visiting_eq (n : Lane) : n.visiting = (n.rover.map Rover.tenancy).bind Prod.snd := by
  unfold Lane.visiting
  cases n.rover <;> rfl

theorem Lane.Keeps.rover_isSome {n m : Lane} (h : n.Keeps m) : m.rover.isSome = n.rover.isSome := by
  simpa using congrArg Option.isSome h.rover

theorem Lane.Keeps.rover_none {n m : Lane} (h : n.Keeps m) (hn : n.rover = none) : m.rover = none := by
  simpa [hn] using h.rover

theorem Lane.Keeps.visiting {n m : Lane} (h : n.Keeps m) : m.visiting = n.visiting := by
  rw [Lane.visiting_eq, Lane.visiting_eq, h.rover]

theorem Lane.Keeps.refl (n : Lane) : n.Keeps n := ⟨rfl, rfl, rfl, fun _ _ h => h⟩

theorem Lane.Keeps.trans {n m k : Lane} (h : n.Keeps m) (g : m.Keeps k) : n.Keeps k where
  mode := g.mode.trans h.mode
  entry := g.entry.trans h.entry
  rover := g.rover.trans h.rover
  quiet := fun some none quiet =>
    g.quiet (h.rover_isSome.trans some) (h.visiting.trans none) (h.quiet some none quiet)

/-- A change of a lane record that leaves its tenancy and its tag alone. -/
theorem Lane.Keeps.of_eq {n m : Lane} (mode : m.mode = n.mode) (entry : m.entry = n.entry) (rover : m.rover = n.rover)
    (tag : m.currentTag = n.currentTag) (acknowledged : m.acknowledged = n.acknowledged) : n.Keeps m :=
  ⟨mode, entry, by rw [rover], fun _ _ h => ⟨tag.trans h.1, acknowledged.trans h.2⟩⟩

/-- A lane without a rover record keeps its tenancy whatever becomes of its tag. -/
theorem Lane.Keeps.of_rover_none {n m : Lane} (hn : n.rover = none) (mode : m.mode = n.mode)
    (entry : m.entry = n.entry) (rover : m.rover = n.rover) : n.Keeps m :=
  ⟨mode, entry, by rw [rover], fun some => by simp [hn] at some⟩

theorem Lane.Keeps.between {n m : Lane} (h : n.Keeps m) (hn : n.Between) : m.Between where
  mode := h.mode.trans hn.mode
  entry := h.entry.trans hn.entry
  rover := h.rover_isSome.trans hn.rover
  visiting := h.visiting.trans hn.visiting
  quiet := h.quiet hn.rover hn.visiting hn.quiet

theorem Lane.Keeps.modeLawful {n m : Lane} (h : n.Keeps m) (hn : n.ModeLawful) : m.ModeLawful := by
  obtain ⟨parks, bare, roves, below, paused⟩ := hn
  refine ⟨by rw [h.mode, h.entry]; exact parks, by rw [h.mode, h.entry]; exact bare,
    by rw [h.mode, h.rover_isSome]; exact roves, by rw [h.visiting]; exact below, fun r' hr' => ?_⟩
  have view : n.rover.map Rover.tenancy = some r'.tenancy := by rw [← h.rover, hr']; rfl
  obtain ⟨r, hr, same⟩ := Option.map_eq_some_iff.1 view
  obtain ⟨idle, quiet⟩ := paused r hr
  have state : r'.visitState = .paused ↔ r.visitState = .paused := by
    simpa [Rover.tenancy] using (congrArg Prod.fst same).symm
  have claimed : r'.claimedEntry = r.claimedEntry := (congrArg Prod.snd same).symm
  refine ⟨by rw [state, claimed]; exact idle, fun hp => h.quiet (by simp [hr]) ?_ (quiet (state.1 hp))⟩
  simp only [Lane.visiting, hr]
  exact idle.1 (state.1 hp)

/-- What the laws of tenancy read of a plan entry. -/
structure PlanEntry.Keeps (p q : PlanEntry) : Prop where
  word : q.tuningWord = p.tuningWord
  survey : q.surveyEnable = p.surveyEnable
  parkedLane : q.parkedLane = p.parkedLane
  visitingLane : q.visitingLane = p.visitingLane

theorem PlanEntry.Keeps.refl (p : PlanEntry) : p.Keeps p := ⟨rfl, rfl, rfl, rfl⟩

theorem PlanEntry.Keeps.trans {p q r : PlanEntry} (h : p.Keeps q) (g : q.Keeps r) : p.Keeps r :=
  ⟨g.word.trans h.word, g.survey.trans h.survey, g.parkedLane.trans h.parkedLane, g.visitingLane.trans h.visitingLane⟩

/-- Every lane and entry keeps its tenancy, and the survey pointer and the prompt set are left alone. -/
structure Keeps (s t : State) : Prop where
  lanes : ∀ l, (s.lane l).Keeps (t.lane l)
  entries : ∀ e, (s.entry e).Keeps (t.entry e)
  pointer : t.surveyPointer = s.surveyPointer
  prompts : t.promptSet = s.promptSet

theorem Keeps.refl (s : State) : Keeps s s := ⟨fun _ => .refl _, fun _ => .refl _, rfl, rfl⟩

theorem Keeps.trans {s t u : State} (h : Keeps s t) (g : Keeps t u) : Keeps s u :=
  ⟨fun l => (h.lanes l).trans (g.lanes l), fun e => (h.entries e).trans (g.entries e), g.pointer.trans h.pointer,
    g.prompts.trans h.prompts⟩

theorem Keeps.ite {s t u : State} {b : Prop} [Decidable b] (h : b → Keeps s t) (g : ¬ b → Keeps s u) :
    Keeps s (if b then t else u) := by
  split
  · exact h ‹_›
  · exact g ‹_›

/-- The parts that the laws of tenancy read besides the carriages. -/
def registerParts : List Part := [.entries, .survey, .lanes]

theorem Keeps.of_eq {s t : State} (entries : t.entries = s.entries) (lanes : t.lanes = s.lanes)
    (pointer : t.surveyPointer = s.surveyPointer) (prompts : t.promptSet = s.promptSet) : Keeps s t := by
  refine ⟨fun l => ?_, fun e => ?_, pointer, prompts⟩
  · have : t.lane l = s.lane l := by simp only [State.lane, lanes]
    rw [this]
    exact .refl _
  · have : t.entry e = s.entry e := by simp only [State.entry, entries]
    rw [this]
    exact .refl _

theorem Keeps.of_within {ps : List Part} {s t : State} (h : Within ps s t) (hp : ∀ p ∈ registerParts, p ∉ ps) :
    Keeps s t :=
  Keeps.of_eq (h .entries (hp _ (by decide))) (h .lanes (hp _ (by decide))) (h .survey (hp _ (by decide))).1
    (h .survey (hp _ (by decide))).2

theorem Keeps.modLane {s : State} {l : Nat} {f : Lane → Lane} (h : (s.lane l).Keeps (f (s.lane l))) :
    Keeps s (s.modLane l f) := by
  refine ⟨fun j => ?_, fun e => .refl _, rfl, rfl⟩
  rcases lane_modLane_cases s l j f with e | ⟨rfl, e⟩ <;> rw [e]
  · exact .refl _
  · exact h

theorem Keeps.modRover {s : State} {l : Nat} {f : Rover → Rover}
    (h : ∀ r, (s.lane l).rover = some r → (f r).tenancy = r.tenancy) : Keeps s (s.modRover l f) := by
  refine Keeps.modLane ⟨rfl, rfl, ?_, fun _ _ h => h⟩
  show ((s.lane l).rover.map f).map Rover.tenancy = _
  cases hr : (s.lane l).rover with
  | none => rfl
  | some r => simp [h r hr]

theorem Keeps.modCounters (s : State) (l : Nat) (f : LaneCounters → LaneCounters) : Keeps s (s.modCounters l f) :=
  Keeps.modLane (.of_eq rfl rfl rfl rfl rfl)

theorem Keeps.modAsm (s : State) (l : Nat) (f : Assembler → Assembler) : Keeps s (s.modAsm l f) :=
  Keeps.modLane (.of_eq rfl rfl rfl rfl rfl)

theorem Keeps.modEntry (s : State) (e : Nat) {f : PlanEntry → PlanEntry} (h : ∀ p : PlanEntry, p.Keeps (f p)) :
    Keeps s (s.modEntry e f) := by
  refine ⟨fun l => .refl _, fun d => ?_, rfl, rfl⟩
  by_cases hd : e = d
  · subst hd
    by_cases he : e < s.entries.length
    · rw [State.entry_modEntry s e f he]
      exact h _
    · have : (s.modEntry e f).entry e = s.entry e := by
        simp [State.entry, State.modEntry, List.getD, List.getElem?_eq_none (Nat.le_of_not_lt he)]
      rw [this]
      exact .refl _
  · rw [State.entry_modEntry_other s e d f hd]
    exact .refl _

theorem Keeps.eligible {s t : State} (h : Keeps s t) (e : Nat) : t.eligible e = s.eligible e := by
  obtain ⟨word, survey, parkedLane, visitingLane⟩ := h.entries e
  simp only [State.eligible, word, survey, parkedLane, visitingLane]

theorem Keeps.placesAt {s t : State} (h : Keeps s t) : t.placesAt = s.placesAt := by
  funext e lo st
  obtain ⟨-, -, parkedLane, visitingLane⟩ := h.entries e
  simp only [State.placesAt, parkedLane, visitingLane]

/-! ### Where the moves leave the carriages -/

theorem State.placesAt_shelved {s : State} {e : Nat} {lo : Option Nat} {st : CarriageState}
    (h : s.placesAt e lo st) : s.placesAt e none .shelved := ⟨h.1, rfl⟩

theorem State.placesAt_stands {s : State} {x y : Carriage} (stands : x.Stands y)
    (h : s.placesAt x.entry x.lane x.state) : s.placesAt y.entry y.lane y.state := by
  rw [stands.entry, stands.lane]
  rcases stands.state with same | ⟨hx, hy⟩
  · rw [same]
    exact h
  · refine ⟨h.1, ?_⟩
    have held := h.2
    cases hs : x.state <;> simp only [hs, CarriageState.isScored, Bool.false_eq_true] at hx held <;>
      cases ht : y.state <;> simp only [ht, CarriageState.isScored, Bool.false_eq_true] at hy ⊢ <;> exact held

/-- Moves that bind under the entries' own rule leave every carriage where that rule puts it. -/
theorem Leads.placed {r : Bool} {s t : State} (h : Leads r s.placesAt s t) (ordered : s.CatalogueOrdered)
    (placed : s.AllPlaced) : ∀ x ∈ t.carriages, s.placesAt x.2.entry x.2.lane x.2.state := by
  refine Leads.keeps (P := fun u => ∀ x ∈ u.carriages, s.placesAt x.2.entry x.2.lane x.2.state)
    (fun u v m ho hu => ?_) h ordered placed
  have attempted : ∀ {u : State} {c l : Nat} {mark : Bool} {x : Carriage}, u.CatalogueOrdered →
      u.carriage c = some x → (∀ z ∈ u.carriages, z.1 ≠ c → s.placesAt z.2.entry z.2.lane z.2.state) →
      s.placesAt x.entry (some l) (u.attempted l mark x).state →
      ∀ z ∈ (attemptBind u c l mark).carriages, s.placesAt z.2.entry z.2.lane z.2.state := by
    intro u c l mark x ho found others here z hz
    rw [attemptBind_carriages ho.carriages_ordered found] at hz
    rcases mem_replaceAt hz with rfl | ⟨hz, hc⟩
    · rw [attempted_entry, attempted_lane]
      exact here
    · exact others z hz hc
  cases m with
  | rest calm => rw [calm.carriages]; exact hu
  | adjust f handed stands told result =>
    subst result
    intro z hz
    obtain ⟨x, hx, rfl⟩ := List.mem_map.1 hz
    exact State.placesAt_stands (stands x hx) (hu x hx)
  | record g stands refs result => subst result; exact hu
  | tally g stands result => subst result; exact hu
  | attempt found idle rule => exact attempted ho found (fun z hz _ => hu z hz) rule
  | shelve c =>
    cases found : u.carriage c with
    | none => rw [shelve_none found]; exact hu
    | some x =>
      intro z hz
      rw [shelve_carriages ho.carriages_ordered found] at hz
      rcases mem_replaceAt hz with rfl | ⟨hz, -⟩
      · exact State.placesAt_shelved (hu (c, x) (State.carriage_mem found))
      · exact hu z hz
  | rebind found flows rule =>
    intro z hz
    rw [rebind_carriages ho.carriages_ordered found] at hz
    rcases mem_replaceAt hz with rfl | ⟨hz, -⟩
    · rw [attempted_entry, attempted_lane]
      refine rule _ ((attempted_state_cases ..).imp (fun e => e.trans (boundState_of_lanes ?_ _)) id)
      exact releaseBindings_within u _ .lanes (by decide)
    · exact hu z hz
  | remove c =>
    cases found : u.carriage c with
    | none => rw [removeCarriage_none found]; exact hu
    | some x =>
      rw [removeCarriage_carriages ho.carriages_ordered found]
      exact fun z hz => hu z (List.mem_filter.1 hz).1
  | create recorded new free flows rule =>
    rename_i c l e v mark
    obtain ⟨-, vacant⟩ := lowestFree_some free
    have created := create_ordered (t := withCarriage u c (Carriage.created e v u.clock)) free recorded new rfl rfl ho
    have found : (withCarriage u c (Carriage.created e v u.clock)).carriage c =
        some (Carriage.created e v u.clock) := tableGet_set_same _ ho.carriages_ordered vacant
    refine attempted created found (fun z hz hc => ?_) (rule _ ((attempted_state_cases ..).imp (fun e => e) id))
    rcases (mem_tableSet vacant z).1 hz with rfl | hz
    · exact absurd rfl hc
    · exact hu z hz
  | newService new created =>
    obtain ⟨i, -, rfl⟩ := createService_some created
    exact hu
  | free key => rw [freeIfUnheld_carriages]; exact hu
  | evaluate => rw [evaluateHanded_carriages]; exact hu
  | pin own => exact hu
  | relist allowed g stands services carriages bindings handed shaped => rw [carriages]; exact hu

/-- An act that keeps every lane's and every entry's tenancy keeps the laws, when it binds where they allow. -/
theorem State.Tenancy.keep {ls : List Nat} {out : Option Nat} {r : Bool} {s t : State} (h : s.Tenancy ls out)
    (keeps : Keeps s t) (leads : Leads r s.placesAt s t) : t.Tenancy ls out where
  ordered := leads.ordered h.ordered
  shaped := leads.shaped h.ordered h.shaped
  between := fun l hl ho hc => (keeps.lanes l).between (h.between l hl ho hc)
  modes := fun l hl ho hc => (keeps.lanes l).modeLawful (h.modes l hl ho hc)
  parked := h.parked.congr (fun e => (keeps.entries e).parkedLane) fun l => by
    simp only [State.parks, (keeps.lanes l).entry]
  visited := h.visited.congr (fun e => (keeps.entries e).visitingLane) fun l => by
    simp only [State.visits, (keeps.lanes l).visiting]
  apart := fun e he => by rw [(keeps.entries e).parkedLane, (keeps.entries e).visitingLane]; exact h.apart e he
  house := (keeps.entries 63).parkedLane.trans h.house
  houseLane := (keeps.lanes 16).rover_none h.houseLane
  pointer := keeps.pointer ▸ h.pointer
  rising := keeps.prompts ▸ h.rising
  prompts := fun e he => (keeps.eligible e).trans (h.prompts e (keeps.prompts ▸ he))
  placed := fun x hx => by rw [keeps.placesAt]; exact leads.placed h.ordered h.placed x hx

end Sys2Proof.Machine
end

section
namespace Sys2Proof.Machine

open Sys2Proof Host

/-! ## Visits, parks and claims (R5, R6, R69, R71, R80) -/

/-! ### Reading the lanes and entries after an update -/

theorem State.Shaped.lane_modLane {s : State} (h : s.Shaped) {l : Nat} (hl : l < 17) (f : Lane → Lane) (j : Nat) :
    (s.modLane l f).lane j = if j = l then f (s.lane l) else s.lane j := by
  obtain ⟨_, lanes, _⟩ := h
  split
  · subst_vars
    exact s.lane_modLane _ f (by omega)
  · exact s.lane_modLane_other l j f (Ne.symm ‹_›)

theorem State.Shaped.entry_modEntry {s : State} (h : s.Shaped) {e : Nat} (he : e < 64) (f : PlanEntry → PlanEntry)
    (d : Nat) : (s.modEntry e f).entry d = if d = e then f (s.entry e) else s.entry d := by
  obtain ⟨entries, _⟩ := h
  split
  · subst_vars
    exact s.entry_modEntry _ f (by omega)
  · exact s.entry_modEntry_other e d f (Ne.symm ‹_›)

/-- A lane that visits an entry is one of the part's. -/
theorem State.Shaped.lane_below {s : State} (h : s.Shaped) {l e : Nat} (visits : (s.lane l).visiting = some e) :
    l < 17 := by
  obtain ⟨_, lanes, _⟩ := h
  by_contra beyond
  have : s.lane l = Lane.fresh := by
    simp [State.lane, List.getD, List.getElem?_eq_none (show s.lanes.length ≤ l by omega)]
  rw [this] at visits
  cases visits

/-! ### What the laws say of one lane and one entry -/

section

variable {ls : List Nat} {s : State} {l e : Nat}

theorem State.Tenancy.visitor (h : s.Tenancy ls none) (visits : (s.lane l).visiting = some e) :
    l < 16 ∧ l ∉ ls ∧ e < 63 ∧ (s.entry e).visitingLane = some l ∧ (s.entry e).parkedLane = none := by
  have hl := h.shaped.lane_below visits
  have idle : l ∉ ls := fun hc => by
    have := (h.between l hl (by nofun) hc).visiting
    rw [visits] at this
    cases this
  have below : e < 63 := (h.modes l hl (by nofun) idle).2.2.2.1 e visits
  have feed : l ≠ 16 := by
    rintro rfl
    simp [Lane.visiting, h.houseLane] at visits
  have lane : (s.entry e).visitingLane = some l := (h.visited e (by omega) l).2 ⟨by omega, by simpa [State.visits]⟩
  refine ⟨by omega, idle, below, lane, ?_⟩
  rcases h.apart e (by omega) with free | free
  · exact free
  · rw [lane] at free
    cases free

theorem State.Tenancy.visits_of_lane (h : s.Tenancy ls none) (he : e < 64) (lane : (s.entry e).visitingLane = some l) :
    l < 16 ∧ (s.lane l).visiting = some e := by
  simpa [State.visits] using (h.visited e he l).1 lane

theorem State.Tenancy.parks_of_lane (h : s.Tenancy ls none) (he : e < 64) (lane : (s.entry e).parkedLane = some l) :
    l < 17 ∧ (s.lane l).entry = some e := by
  simpa [State.parks] using (h.parked e he l).1 lane

/-- A parked lane: its entry names it, and it has no rover record. -/
theorem State.Tenancy.parker (h : s.Tenancy ls none) (hl : l < 17) (mode : (s.lane l).mode = .parked) :
    (s.lane l).rover = none ∧ l ∉ ls ∧ ∃ e < 64, (s.lane l).entry = some e ∧ (s.entry e).parkedLane = some l := by
  have idle : l ∉ ls := fun hc => by
    have := (h.between l hl (by nofun) hc).mode
    rw [mode] at this
    cases this
  obtain ⟨parks, -, roves, -, -⟩ := h.modes l hl (by nofun) idle
  obtain ⟨e, entry, he⟩ := parks mode
  refine ⟨?_, idle, e, he, entry, (h.parked e he l).2 ⟨hl, by simpa [State.parks]⟩⟩
  have : ¬ (s.lane l).rover.isSome := fun some => by
    have := roves.2 some
    rw [mode] at this
    cases this
  simpa using this

/-- A lane that is not parked holds no entry. -/
theorem State.Tenancy.bare (h : s.Tenancy ls none) (hl : l < 17) (mode : (s.lane l).mode ≠ .parked) :
    (s.lane l).entry = none := by
  by_cases hc : l ∈ ls
  · exact (h.between l hl (by nofun) hc).entry
  · exact (h.modes l hl (by nofun) hc).2.1 mode

/-- A roving lane with a visit state other than ROVE-PAUSED visits an entry. -/
theorem State.Tenancy.visiting_of_state (h : s.Tenancy [] none) (hl : l < 17) {v : VisitState}
    (state : (s.lane l).visitState = some v) (moving : v ≠ .paused) : ∃ e, (s.lane l).visiting = some e := by
  obtain ⟨r, hr, rfl⟩ := Option.map_eq_some_iff.1 state
  have idle := ((h.modes l hl (by nofun) (by nofun)).2.2.2.2 r hr).1
  cases claimed : r.claimedEntry with
  | none => exact absurd (idle.2 claimed) moving
  | some e => exact ⟨e, by simp [Lane.visiting, hr, claimed]⟩

/-- A paused lane is between visits. -/
theorem State.Tenancy.paused_between (h : s.Tenancy [] none) (hl : l < 17) (paused : (s.lane l).paused = true) :
    (s.lane l).Between := by
  simp only [Lane.paused, Bool.and_eq_true, decide_eq_true_eq] at paused
  obtain ⟨mode, state⟩ := paused
  obtain ⟨r, hr, hp⟩ := Option.map_eq_some_iff.1 state
  obtain ⟨-, bare, -, -, rover⟩ := h.modes l hl (by nofun) (by nofun)
  obtain ⟨idle, quiet⟩ := rover r hr
  exact ⟨mode, bare (by rw [mode]; nofun), by simp [hr], by simp [Lane.visiting, hr, idle.1 hp], quiet hp⟩

/-- An entry that no lane holds has its carriages shelved. -/
theorem State.AllPlaced.shelved (h : s.AllPlaced) (parked : (s.entry e).parkedLane = none)
    (visited : (s.entry e).visitingLane = none) : ∀ x ∈ s.carriages, x.2.entry = e → x.2.state = .shelved := by
  intro x hx entry
  obtain ⟨-, held⟩ := h x hx
  rw [entry, parked, visited] at held
  cases state : x.2.state <;> simp only [state, or_self] at held
  case shelved => rfl
  all_goals
    obtain ⟨some, held⟩ := held
    rw [← held] at some
    cases some

/-! ### Lawful lane records -/

theorem Lane.modeLawful_of_rover {n : Lane} {r : Rover} (mode : n.mode = .roving) (entry : n.entry = none)
    (rover : n.rover = some r) (below : ∀ e, r.claimedEntry = some e → e < 63)
    (idle : r.visitState = .paused ↔ r.claimedEntry = none) (quiet : r.visitState = .paused → n.Quiet) :
    n.ModeLawful := by
  refine ⟨fun parked => absurd (mode.symm.trans parked) (by nofun), fun _ => entry, by simp [mode, rover],
    fun e he => below e (by simpa [Lane.visiting, rover] using he), fun r' hr' => ?_⟩
  obtain rfl := Option.some.inj (rover.symm.trans hr')
  exact ⟨idle, quiet⟩

theorem Lane.modeLawful_of_parked {n : Lane} {e : Nat} (mode : n.mode = .parked) (entry : n.entry = some e)
    (below : e < 64) (rover : n.rover = none) : n.ModeLawful :=
  ⟨fun _ => ⟨e, entry, below⟩, fun h => absurd mode h, by simp [mode, rover],
    fun e he => by simp [Lane.visiting, rover] at he, fun r hr => by simp [rover] at hr⟩

theorem Lane.modeLawful_of_idle {n : Lane} (mode : n.mode = .idle) (entry : n.entry = none) (rover : n.rover = none) :
    n.ModeLawful :=
  ⟨fun h => absurd (mode.symm.trans h) (by nofun), fun _ => entry, by simp [mode, rover],
    fun e he => by simp [Lane.visiting, rover] at he, fun r hr => by simp [rover] at hr⟩

/-! ### Where an entry changes hands -/

/-- `t` is `s` with lane `l` and entry `e` changed, whose carriages are shelved and which is in no prompt set. -/
structure State.Reassigns (s t : State) (l e : Nat) : Prop where
  calm : Calm s t
  lanes : ∀ j, j ≠ l → t.lane j = s.lane j
  entries : ∀ d, d ≠ e → t.entry d = s.entry d
  feed : l < 16
  below : e < 63
  pointer : s.surveyPointer ≤ 62 → t.surveyPointer ≤ 62
  prompts : t.promptSet.Sublist s.promptSet
  unprompted : e ∉ t.promptSet
  shelved : ∀ x ∈ s.carriages, x.2.entry = e → x.2.state = .shelved

theorem State.Tenancy.reassign {ls' : List Nat} {out out' : Option Nat} {t : State} (h : s.Tenancy ls out)
    (m : s.Reassigns t l e) (outs : ∀ j, j ≠ l → out ≠ some j) (outs' : ∀ j, j ≠ l → out' ≠ some j)
    (others : ∀ j, j ≠ l → (j ∈ ls' ↔ j ∈ ls)) (between : out' ≠ some l → l ∈ ls' → (t.lane l).Between)
    (mode : out' ≠ some l → l ∉ ls' → (t.lane l).ModeLawful)
    (parked : Matched 17 (fun e => (t.entry e).parkedLane) (t.parks out'))
    (visited : Matched 16 (fun e => (t.entry e).visitingLane) (t.visits out'))
    (apart : (t.entry e).parkedLane = none ∨ (t.entry e).visitingLane = none) : t.Tenancy ls' out' where
  ordered := catalogueOrdered_of_eq m.calm.services m.calm.carriages h.ordered
  shaped := m.calm.shaped h.shaped
  between := fun j hj ho hc => by
    by_cases hjl : j = l
    · subst hjl
      exact between ho hc
    · rw [m.lanes j hjl]
      exact h.between j hj (outs j hjl) ((others j hjl).1 hc)
  modes := fun j hj ho hc => by
    by_cases hjl : j = l
    · subst hjl
      exact mode ho hc
    · rw [m.lanes j hjl]
      exact h.modes j hj (outs j hjl) fun hm => hc ((others j hjl).2 hm)
  parked := parked
  visited := visited
  apart := fun d hd => by
    by_cases hde : d = e
    · rw [hde]
      exact apart
    · rw [m.entries d hde]
      exact h.apart d hd
  house := by
    have := m.below
    rw [m.entries 63 (by omega)]
    exact h.house
  houseLane := by
    have := m.feed
    rw [m.lanes 16 (by omega)]
    exact h.houseLane
  pointer := m.pointer h.pointer
  rising := h.rising.sublist m.prompts
  prompts := fun d hd => by
    have hde : d ≠ e := fun same => m.unprompted (same ▸ hd)
    simp only [State.eligible, m.entries d hde]
    exact h.prompts d (m.prompts.subset hd)
  placed := fun x hx => by
    rw [m.calm.carriages] at hx
    have held := h.placed x hx
    by_cases hde : x.2.entry = e
    · have state := m.shelved x hx hde
      rw [state] at held ⊢
      exact held
    · simpa only [State.placesAt, m.entries _ hde] using held

end

/-! ### Shelving (R6, R20, R80) -/

theorem shelve_map {s : State} (ho : TableOrdered s.carriages) (c : Nat) :
    (shelve s c).carriages = s.carriages.map fun x => (x.1, if x.1 = c then x.2.shelvedNow else x.2) := by
  cases found : s.carriage c with
  | none =>
    rw [shelve_none found]
    refine (List.map_congr_left fun x hx => ?_).trans (List.map_id _) |>.symm
    rw [if_neg (tableGet_eq_none.1 found x hx), id]
  | some y =>
    rw [shelve_carriages ho found]
    refine List.map_congr_left fun x hx => ?_
    have := tableGet_of_mem ho hx
    by_cases hc : x.1 = c
    · rw [hc] at this
      rw [Option.some.inj (found.symm.trans this)]
    · simp [hc]

theorem Carriage.shelvedNow_shelvedNow (x : Carriage) : x.shelvedNow.shelvedNow = x.shelvedNow := by
  simp [Carriage.shelvedNow]

/-- Shelving a list of carriages shelves each of them and leaves every other. -/
theorem foldl_shelve_carriages {s : State} (ordered : s.CatalogueOrdered) (cs : List Nat) :
    (cs.foldl shelve s).carriages = s.carriages.map fun x => (x.1, if x.1 ∈ cs then x.2.shelvedNow else x.2) := by
  induction cs generalizing s with
  | nil => simp
  | cons c cs ih =>
    rw [List.foldl_cons, ih (shelve_ordered c ordered), shelve_map ordered.carriages_ordered, List.map_map]
    refine List.map_congr_left fun x _ => ?_
    by_cases hc : x.1 = c
    · subst hc
      by_cases hm : x.1 ∈ cs <;> simp [hm, Carriage.shelvedNow_shelvedNow]
    · simp [hc]

/-- Shelving the carriages that `p` picks. -/
theorem shelveWhere_carriages {s : State} (ordered : s.CatalogueOrdered) (p : Carriage → Bool) :
    ((s.carriagesWhere p).foldl shelve s).carriages =
      s.carriages.map fun x => (x.1, if p x.2 then x.2.shelvedNow else x.2) := by
  rw [foldl_shelve_carriages ordered]
  refine List.map_congr_left fun x hx => ?_
  have : x.1 ∈ s.carriagesWhere p ↔ p x.2 = true := by
    rw [mem_carriagesWhere ordered.carriages_ordered]
    constructor
    · rintro ⟨y, hy, hp⟩
      rw [ordered.carriage_of_mem hx] at hy
      rwa [Option.some.inj hy]
    · exact fun hp => ⟨x.2, ordered.carriage_of_mem hx, hp⟩
  simp only [this]

/-- Every carriage of an entry is shelved once those that hold or miss bindings are. -/
theorem shelveWhere_shelved {s : State} (ordered : s.CatalogueOrdered) {p : Carriage → Bool} {e : Nat}
    (rest : ∀ x ∈ s.carriages, x.2.entry = e → p x.2 = false → x.2.state = .shelved) :
    ∀ x ∈ ((s.carriagesWhere p).foldl shelve s).carriages, x.2.entry = e → x.2.state = .shelved := by
  rw [shelveWhere_carriages ordered]
  intro y hy entry
  obtain ⟨x, hx, rfl⟩ := List.mem_map.1 hy
  by_cases hp : p x.2 = true
  · simp [hp, Carriage.shelvedNow]
  · simp only [hp] at entry ⊢
    exact rest x hx entry (by simpa using hp)

theorem shelveVisit_keeps (s : State) (e : Nat) : Keeps s (shelveVisit s e) :=
  Keeps.of_within (shelveVisit_within s e) (by decide)

theorem shelveParked_within (s : State) (e : Nat) : Within [.carriages, .bindings, .handed] s (shelveParked s e) :=
  Within.foldl _ (fun s c => shelve_within s c) _ s

/-! ### The end of a visit (R80) -/

section

variable {ls : List Nat} {s : State} {l e : Nat}

/-- A lane's record as a visit ends. -/
def Lane.visitEnded (n : Lane) (o : Option SurveyOutcome) : Lane :=
  { n with asm := n.asm.cleared false, currentTag := none, acknowledged := false
           rover := n.rover.map fun r => r.ended o }

theorem Rover.ended_claimedEntry (r : Rover) (o : Option SurveyOutcome) : (r.ended o).claimedEntry = none := by
  unfold Rover.ended
  cases o with
  | none => rfl
  | some o => cases o <;> rfl

theorem Lane.visitEnded_between {n : Lane} (o : Option SurveyOutcome) (mode : n.mode = .roving)
    (entry : n.entry = none) (rover : n.rover.isSome) : (n.visitEnded o).Between := by
  refine ⟨mode, entry, by simpa [Lane.visitEnded] using rover, ?_, rfl, rfl⟩
  obtain ⟨r, hr⟩ := Option.isSome_iff_exists.1 rover
  simp [Lane.visitEnded, Lane.visiting, hr, Rover.ended_claimedEntry]

/-- The state of a visit's end before the entry takes its survey fields. -/
def visitLeft (s : State) (l e : Nat) (o : Option SurveyOutcome) : State :=
  ((shelveVisit (if o = some .surveyed then surveyFigures s l e else s) e).modLane l fun n => n.visitEnded o).modEntry e
    fun p => { p with visitingLane := none }

theorem endVisitTo_eq (s : State) (l e : Nat) (o : Option SurveyOutcome) : endVisitTo s l e o =
    match o with
    | none => visitLeft s l e none
    | some o => (visitLeft s l e (some o)).modEntry e fun p =>
        p.visited o s.clock (s.lane l).windowMargin (((s.lane l).rover.map (·.dwellServiceCount)).getD 0) := by
  cases o <;> rfl

theorem surveyFigures_keeps (s : State) (l e : Nat) : Keeps s (surveyFigures s l e) :=
  Keeps.of_within (surveyFigures_within s l e) (by decide)

/-- A visit of the lane ends: the entry is free, and the lane is between visits. -/
theorem State.Tenancy.unvisit (h : s.Tenancy ls none) (visits : (s.lane l).visiting = some e) (o : Option SurveyOutcome)
    (shelved : ∀ x ∈ s.carriages, x.2.entry = e → x.2.state = .shelved) :
    ((s.modLane l fun n => n.visitEnded o).modEntry e fun p => { p with visitingLane := none }).Tenancy (l :: ls) none := by
  obtain ⟨feed, idle, below, lane, parked⟩ := h.visitor visits
  have rover : (s.lane l).rover.isSome := by
    cases hr : (s.lane l).rover with
    | none => simp [Lane.visiting, hr] at visits
    | some r => rfl
  have lawful := h.modes l (by omega) (by nofun) idle
  have mode := lawful.2.2.1.2 rover
  have between := Lane.visitEnded_between o mode (lawful.2.1 (by rw [mode]; nofun)) rover
  obtain ⟨t, ht⟩ : ∃ t, t = (s.modLane l fun n => n.visitEnded o).modEntry e fun p => { p with visitingLane := none } :=
    ⟨_, rfl⟩
  have calm : Calm s t := ht ▸ (Calm.modLane s l _).trans (Calm.modEntry _ e _)
  have laneAt : ∀ j, t.lane j = if j = l then (s.lane l).visitEnded o else s.lane j :=
    ht ▸ h.shaped.lane_modLane (by omega) _
  have entryAt : ∀ d, t.entry d = if d = e then { s.entry e with visitingLane := none } else s.entry d :=
    ht ▸ h.shaped.entry_modEntry (by omega) _
  have prompts : t.promptSet = s.promptSet := ht ▸ rfl
  have pointer : t.surveyPointer = s.surveyPointer := ht ▸ rfl
  rw [← ht]
  refine h.reassign (l := l) (e := e) ⟨calm, fun j hj => (laneAt j).trans (if_neg hj),
    fun d hd => (entryAt d).trans (if_neg hd), feed, below, fun hp => pointer ▸ hp, prompts ▸ List.Sublist.refl _,
    fun prompted => ?_, shelved⟩ (by nofun) (by nofun) (fun j hj => by simp [hj])
    (fun _ _ => ?_) (fun _ hc => absurd (List.mem_cons_self ..) hc) ?_ ?_ ?_
  · have := h.prompts e (prompts ▸ prompted)
    simp [State.eligible, lane] at this
  · rw [laneAt, if_pos rfl]
    exact between
  · refine h.parked.congr (fun d => ?_) fun j => ?_
    · simp only [entryAt]
      split <;> simp [*]
    · by_cases hj : j = l <;> simp [State.parks, laneAt, hj, Lane.visitEnded]
  · refine h.visited.release (l := l) (e := e) (by omega) lane ?_ ?_ (fun d hd => ?_) fun j hj => ?_
    · simp [entryAt]
    · simpa [State.visits, laneAt] using between.visiting
    · simp [entryAt, hd]
    · simp [State.visits, laneAt, hj]
  · simp [entryAt]

theorem shelveVisit_tenancy {out : Option Nat} (h : s.Tenancy ls out) (e : Nat) : (shelveVisit s e).Tenancy ls out :=
  h.keep (r := false) (shelveVisit_keeps s e) (shelveVisit_leads s e)

/-- The figures of a visit's end (R79). -/
theorem surveyed_tenancy {out : Option Nat} (h : s.Tenancy ls out) (l e : Nat) (o : Option SurveyOutcome) :
    (if o = some .surveyed then surveyFigures s l e else s).Tenancy ls out := by
  split
  · exact h.keep (r := false) (surveyFigures_keeps s l e) (surveyFigures_leads s l e)
  · exact h

/-- A visit's end shelves every carriage of the entry. -/
theorem State.Tenancy.visit_shelved (h : s.Tenancy ls none) (visits : (s.lane l).visiting = some e) :
    ∀ x ∈ (shelveVisit s e).carriages, x.2.entry = e → x.2.state = .shelved := by
  obtain ⟨-, -, below, -, parked⟩ := h.visitor visits
  refine shelveWhere_shelved h.ordered fun x hx entry kept => ?_
  obtain ⟨-, held⟩ := h.placed x hx
  rw [entry, parked] at held
  cases state : x.2.state <;> simp only [state] at held kept <;> simp [entry] at kept
  case shelved => rfl
  all_goals
    obtain ⟨some, held⟩ := held
    rw [← held] at some
    cases some

theorem PlanEntry.visited_keeps (p : PlanEntry) (o : SurveyOutcome) (now : Clock) (margin : Option Nat) (n : Nat) :
    p.Keeps (p.visited o now margin n) := ⟨rfl, rfl, rfl, rfl⟩

theorem visitLeft_tenancy (h : s.Tenancy ls none) (visits : (s.lane l).visiting = some e) (o : Option SurveyOutcome) :
    (visitLeft s l e o).Tenancy (l :: ls) none := by
  have surveyed := surveyed_tenancy h l e o
  have keeps : Keeps s (if o = some .surveyed then surveyFigures s l e else s) :=
    Keeps.ite (fun _ => surveyFigures_keeps s l e) fun _ => Keeps.refl s
  have still := (keeps.lanes l).visiting.trans visits
  refine (shelveVisit_tenancy surveyed e).unvisit ?_ o (surveyed.visit_shelved still)
  exact ((shelveVisit_keeps _ e).lanes l).visiting.trans still

/-- The end of a visit leaves the lane to claim next. -/
theorem endVisit_tenancy (h : s.Tenancy ls none) (visits : (s.lane l).visiting = some e) (o : Option SurveyOutcome) :
    (endVisit s l o).Tenancy (l :: ls) none := by
  simp only [endVisit, visits, endVisitTo_eq]
  have left := visitLeft_tenancy h visits o
  cases o with
  | none => exact left
  | some o =>
    exact left.keep (r := false) (Keeps.modEntry _ e fun p => p.visited_keeps ..) (Calm.modEntry _ e _).leads

theorem endVisit_none (visits : (s.lane l).visiting = none) (o : Option SurveyOutcome) : endVisit s l o = s := by
  simp only [endVisit, visits]

/-! ### Park releases (R6, R26) -/

/-- A lane that holds nothing is an emptied one. -/
theorem State.Tenancy.vacate {ls' : List Nat} (h : s.Tenancy ls none) (others : ∀ j, j ≠ l → (j ∈ ls' ↔ j ∈ ls))
    (entry : (s.lane l).entry = none) (visits : (s.lane l).visiting = none) : s.Tenancy ls' (some l) :=
  { h with
    between := fun j hj ho hc => h.between j hj (by nofun) ((others j fun e => ho (congrArg some e.symm)).1 hc)
    modes := fun j hj ho hc =>
      h.modes j hj (by nofun) fun hm => hc ((others j fun e => ho (congrArg some e.symm)).2 hm)
    parked := h.parked.congr (fun _ => rfl) fun j => by
      by_cases hj : j = l
      · simp [State.parks, hj, entry]
      · simp [State.parks, Ne.symm hj]
    visited := h.visited.congr (fun _ => rfl) fun j => by
      by_cases hj : j = l
      · simp [State.visits, hj, visits]
      · simp [State.visits, Ne.symm hj] }

/-- A park release shelves every carriage of the entry. -/
theorem State.Tenancy.park_shelved (h : s.Tenancy ls none) (he : e < 64) (parked : (s.entry e).parkedLane = some l) :
    ∀ x ∈ (shelveParked s e).carriages, x.2.entry = e → x.2.state = .shelved := by
  have visited : (s.entry e).visitingLane = none := (h.apart e he).resolve_left (by simp [parked])
  refine shelveWhere_shelved h.ordered fun x hx entry kept => ?_
  obtain ⟨-, held⟩ := h.placed x hx
  rw [entry, visited] at held
  cases state : x.2.state <;> simp only [state] at held kept <;> simp [entry, CarriageState.keepsLaneDown] at kept
  case shelved => rfl
  case survey =>
    obtain ⟨some, held⟩ := held
    rw [← held] at some
    cases some

/-- A parked lane lets its entry go, and its record is about to be written. -/
theorem State.Tenancy.unpark (h : s.Tenancy ls none) (feed : l < 16) (he : e < 63) (entry : (s.lane l).entry = some e)
    (mode : (s.lane l).mode = .parked) (shelved : ∀ x ∈ s.carriages, x.2.entry = e → x.2.state = .shelved) :
    (s.modEntry e fun p => { p with parkedLane := none }).Tenancy ls (some l) := by
  obtain ⟨rover, idle, d, hd, entry', parked⟩ := h.parker (by omega) mode
  obtain rfl : d = e := Option.some.inj (entry'.symm.trans entry)
  have visited : (s.entry d).visitingLane = none := (h.apart d (by omega)).resolve_left (by simp [parked])
  have visits : (s.lane l).visiting = none := by simp [Lane.visiting, rover]
  obtain ⟨t, ht⟩ : ∃ t, t = s.modEntry d fun p => { p with parkedLane := none } := ⟨_, rfl⟩
  have calm : Calm s t := ht ▸ Calm.modEntry s d _
  have lanes : ∀ j, t.lane j = s.lane j := fun j => ht ▸ rfl
  have entryAt : ∀ c, t.entry c = if c = d then { s.entry d with parkedLane := none } else s.entry c :=
    ht ▸ h.shaped.entry_modEntry (by omega) _
  have prompts : t.promptSet = s.promptSet := ht ▸ rfl
  have pointer : t.surveyPointer = s.surveyPointer := ht ▸ rfl
  rw [← ht]
  refine h.reassign (l := l) (e := d) ⟨calm, fun j _ => lanes j, fun c hc => (entryAt c).trans (if_neg hc), feed, he,
    fun hp => pointer ▸ hp, prompts ▸ List.Sublist.refl _, fun prompted => ?_, shelved⟩ (by nofun)
    (fun j hj e => hj (Option.some.inj e).symm) (fun _ _ => Iff.rfl) (fun ho => absurd rfl ho) (fun ho => absurd rfl ho)
    ?_ ?_ ?_
  · have := h.prompts d (prompts ▸ prompted)
    simp [State.eligible, parked] at this
  · refine h.parked.release (l := l) (e := d) (by omega) parked ?_ ?_ (fun c hc => ?_) fun j hj => ?_
    · simp [entryAt]
    · simp [State.parks]
    · simp [entryAt, hc]
    · simp [State.parks, lanes, Ne.symm hj]
  · refine h.visited.congr (fun c => ?_) fun j => ?_
    · simp only [entryAt]
      split <;> simp [*]
    · by_cases hj : j = l
      · simp [State.visits, hj, visits]
      · simp [State.visits, lanes, Ne.symm hj]
  · simp [entryAt]

/-- What PARK LANE, ROVE LANE and RELEASE LANE leave of a feed lane that visits no entry, or of one whose visit they
end: nothing that holds it to an entry (R6, R26). -/
theorem leaveLane_tenancy (h : s.Tenancy ls none) (feed : l < 16) : (leaveLane s l).Tenancy ls (some l) := by
  unfold leaveLane abandonVisit parkRelease
  split
  · rename_i e mode entry
    obtain ⟨rover, -, d, hd, entry', parked⟩ := h.parker (by omega) mode
    obtain rfl : d = e := Option.some.inj (entry'.symm.trans entry)
    have small : d ≠ 63 := by
      rintro rfl
      have : l = 16 := Option.some.inj (parked.symm.trans h.house)
      omega
    have within := shelveParked_within s d
    have sameLanes : (shelveParked s d).lanes = s.lanes := within .lanes (by decide)
    have lanes : ∀ j, (shelveParked s d).lane j = s.lane j := fun j => by simp only [State.lane, sameLanes]
    have kept : (shelveParked s d).Tenancy ls none :=
      h.keep (r := false) (Keeps.of_within within (by decide)) (shelveParked_leads s d)
    have released := kept.unpark feed (e := d) (by omega) ((lanes l).symm ▸ entry) ((lanes l).symm ▸ mode)
      (h.park_shelved hd parked)
    rw [endVisit_none]
    · exact released
    · show ((shelveParked s d).lane l).visiting = none
      simp [lanes, Lane.visiting, rover]
  · rename_i unparked
    have bare : (s.lane l).entry = none := by
      by_cases mode : (s.lane l).mode = .parked
      · cases entry : (s.lane l).entry with
        | none => rfl
        | some e => exact absurd entry (unparked e mode)
      · exact h.bare (by omega) mode
    cases visits : (s.lane l).visiting with
    | none =>
      rw [endVisit_none visits]
      exact h.vacate (fun _ _ => Iff.rfl) bare visits
    | some e =>
      have ended := endVisit_tenancy h visits none
      have between := ended.between l (by omega) (by nofun) (List.mem_cons_self ..)
      exact ended.vacate (fun j hj => by simp [hj]) between.entry between.visiting

/-- An emptied lane takes a record that holds no entry. -/
theorem State.Tenancy.settle {ls' : List Nat} (h : s.Tenancy ls (some l)) (feed : l < 16)
    (others : ∀ j, j ≠ l → (j ∈ ls' ↔ j ∈ ls)) {f : Lane → Lane} (entry : (f (s.lane l)).entry = none)
    (visits : (f (s.lane l)).visiting = none) (between : l ∈ ls' → (f (s.lane l)).Between)
    (mode : l ∉ ls' → (f (s.lane l)).ModeLawful) : (s.modLane l f).Tenancy ls' none := by
  obtain ⟨t, ht⟩ : ∃ t, t = s.modLane l f := ⟨_, rfl⟩
  have calm : Calm s t := ht ▸ Calm.modLane s l _
  have laneAt : ∀ j, t.lane j = if j = l then f (s.lane l) else s.lane j := ht ▸ h.shaped.lane_modLane (by omega) _
  have entries : t.entries = s.entries := ht ▸ rfl
  have entryAt : ∀ e, t.entry e = s.entry e := fun e => ht ▸ rfl
  have prompts : t.promptSet = s.promptSet := ht ▸ rfl
  have pointer : t.surveyPointer = s.surveyPointer := ht ▸ rfl
  rw [← ht]
  refine ⟨catalogueOrdered_of_eq calm.services calm.carriages h.ordered, calm.shaped h.shaped, fun j hj _ hc => ?_,
    fun j hj _ hc => ?_, h.parked.congr (fun e => by rw [entryAt]) fun j => ?_,
    h.visited.congr (fun e => by rw [entryAt]) fun j => ?_, fun e he => by rw [entryAt]; exact h.apart e he,
    by rw [entryAt]; exact h.house, by rw [laneAt, if_neg (by omega)]; exact h.houseLane, pointer ▸ h.pointer,
    prompts ▸ h.rising, fun e he => ?_, fun x hx => ?_⟩
  · rw [laneAt]
    split
    · exact between (‹j = l› ▸ hc)
    · exact h.between j hj (fun e => ‹¬ j = l› (Option.some.inj e).symm) ((others j ‹_›).1 hc)
  · rw [laneAt]
    split
    · exact mode (‹j = l› ▸ hc)
    · exact h.modes j hj (fun e => ‹¬ j = l› (Option.some.inj e).symm) fun hm => hc ((others j ‹_›).2 hm)
  · by_cases hj : j = l
    · simp [State.parks, laneAt, hj, entry]
    · simp [State.parks, laneAt, hj, Ne.symm hj]
  · by_cases hj : j = l
    · simp [State.visits, laneAt, hj, visits]
    · simp [State.visits, laneAt, hj, Ne.symm hj]
  · simp only [State.eligible, entryAt]
    exact h.prompts e (prompts ▸ he)
  · rw [calm.carriages] at hx
    simpa only [State.placesAt, entryAt] using h.placed x hx

/-- An emptied lane parks on an entry that no lane holds. -/
theorem State.Tenancy.park {ls' : List Nat} (h : s.Tenancy ls (some l)) (feed : l < 16) (below : e < 63)
    (others : ∀ j, j ≠ l → (j ∈ ls' ↔ j ∈ ls)) (idle : l ∉ ls') (free : (s.entry e).parkedLane = none)
    (unvisited : (s.entry e).visitingLane = none) {f : Lane → Lane} (entry : (f (s.lane l)).entry = some e)
    (visits : (f (s.lane l)).visiting = none) (mode : (f (s.lane l)).ModeLawful) :
    ((leavePrompt (s.modEntry e fun p => { p with parkedLane := some l }) e).modLane l f).Tenancy ls' none := by
  obtain ⟨t, ht⟩ : ∃ t, t = (leavePrompt (s.modEntry e fun p => { p with parkedLane := some l }) e).modLane l f :=
    ⟨_, rfl⟩
  have calm : Calm s t := ht ▸ ((Calm.modEntry s e _).trans (Calm.leavePrompt _ e)).trans (Calm.modLane _ l f)
  have laneAt : ∀ j, t.lane j = if j = l then f (s.lane l) else s.lane j :=
    ht ▸ h.shaped.lane_modLane (by omega) f
  have entryAt : ∀ d, t.entry d = if d = e then { s.entry e with parkedLane := some l } else s.entry d :=
    ht ▸ h.shaped.entry_modEntry (by omega) _
  have prompts : t.promptSet = s.promptSet.filter (· ≠ e) := ht ▸ rfl
  have pointer : t.surveyPointer = s.surveyPointer := ht ▸ rfl
  rw [← ht]
  refine h.reassign (l := l) (e := e) ⟨calm, fun j hj => (laneAt j).trans (if_neg hj),
    fun d hd => (entryAt d).trans (if_neg hd), feed, below, fun hp => pointer ▸ hp,
    prompts ▸ List.filter_sublist, fun prompted => ?_, h.placed.shelved free unvisited⟩
    (fun j hj e => hj (Option.some.inj e).symm) (by nofun) others
    (fun _ hc => absurd hc idle) (fun _ _ => ?_) ?_ ?_ ?_
  · simp [prompts] at prompted
  · rw [laneAt, if_pos rfl]
    exact mode
  · refine h.parked.take (l := l) (e := e) (by omega) (by omega) free (by simp [State.parks]) ?_ ?_ (fun d hd => ?_)
      fun j hj => ?_
    · simp [entryAt]
    · simp [State.parks, laneAt, entry]
    · simp [entryAt, hd]
    · simp [State.parks, laneAt, hj, Ne.symm hj]
  · refine h.visited.congr (fun d => ?_) fun j => ?_
    · simp only [entryAt]
      split <;> simp [*]
    · by_cases hj : j = l
      · simp [State.visits, laneAt, hj, visits]
      · simp [State.visits, laneAt, hj, Ne.symm hj]
  · simp [entryAt, unvisited]

/-! ### Claims (R69, R71) -/

/-- A roving lane's record as it takes an entry. -/
def Lane.claiming (n : Lane) (e : Nat) (word : BitVec 64) (timer : Option Timer) : Lane :=
  let m := n.tuned word
  { m with
    rover := n.rover.map fun r =>
      { r with
        visitState := .tuning, claimedEntry := some e, visitTag := m.currentTag
        visitTimer := timer, visits := saturate Config.counter32 (r.visits + 1) } }

theorem tuningWordOf_visited (s : State) (l e : Nat) :
    (s.modEntry e fun p => { p with visitingLane := some l }).tuningWordOf e = s.tuningWordOf e := by
  simp only [State.tuningWordOf, State.entry, State.modEntry, List.getD, List.getElem?_modify, if_pos]
  cases s.entries[e]? <;> rfl

theorem takeEntry_lanes (hl : l < s.lanes.length) (e : Nat) : (takeEntry s l e).lanes =
    s.lanes.modify l fun n => n.claiming e (s.tuningWordOf e) (s.startTimer s.survey.lockTimeout) := by
  have word := tuningWordOf_visited s l e
  unfold takeEntry
  simp only [sendTune, State.modRover, State.modLane, leavePrompt, State.modEntry] at word ⊢
  refine List.ext_getElem? fun j => ?_
  simp only [List.getElem?_modify]
  by_cases hj : l = j
  · subst hj
    simp only [List.getElem?_eq_getElem hl, State.lane, List.getD, List.getElem?_modify, if_pos,
      Lane.claiming, Lane.tuned, ← word]
    rfl
  · simp [hj]

theorem takeEntry_lane (shaped : s.Shaped) (hl : l < 17) (e j : Nat) : (takeEntry s l e).lane j =
    if j = l then (s.lane l).claiming e (s.tuningWordOf e) (s.startTimer s.survey.lockTimeout) else s.lane j := by
  have lanes := shaped.2.1
  rw [State.lane, takeEntry_lanes (by omega)]
  exact shaped.lane_modLane hl _ j

theorem nextClaim_eligible (prompts : ∀ e ∈ s.promptSet, s.eligible e = true) (claimed : s.nextClaim = some e) :
    s.eligible e = true := by
  unfold State.nextClaim at claimed
  split at claimed
  · rename_i d rest set
    obtain rfl := Option.some.inj claimed
    exact prompts d (set ▸ List.mem_cons_self ..)
  · exact List.find?_some claimed

theorem eligible_iff (s : State) (e : Nat) : s.eligible e = true ↔ e < 63 ∧ (s.entry e).surveyEnable = true ∧
    (s.entry e).tuningWord.isSome = true ∧ (s.entry e).parkedLane = none ∧ (s.entry e).visitingLane = none := by
  simp only [State.eligible, Bool.and_eq_true, decide_eq_true_eq, Option.isNone_iff_eq_none, and_assoc]
  rfl

theorem State.Tenancy.between_feed (h : s.Tenancy ls none) (hl : l < 17) (hc : l ∈ ls) : l < 16 := by
  have between := (h.between l hl (by nofun) hc).rover
  have : l ≠ 16 := by
    rintro rfl
    simp [h.houseLane] at between
  omega

/-- A lane between visits takes an eligible entry. -/
theorem takeEntry_tenancy (h : s.Tenancy (l :: ls) none) (idle : l ∉ ls) (hl : l < 17) (eligible : s.eligible e = true) :
    (takeEntry s l e).Tenancy ls none := by
  obtain ⟨below, -, -, free, unvisited⟩ := (eligible_iff s e).1 eligible
  have between := h.between l hl (by nofun) (List.mem_cons_self ..)
  have feed := h.between_feed hl (List.mem_cons_self ..)
  obtain ⟨r, hr⟩ := Option.isSome_iff_exists.1 between.rover
  have laneAt := takeEntry_lane h.shaped hl e
  obtain ⟨t, ht⟩ : ∃ t, t = takeEntry s l e := ⟨_, rfl⟩
  rw [← ht] at laneAt ⊢
  have calm : Calm s t := ht ▸ takeEntry_calm s l e
  have entryAt : ∀ d, t.entry d = if d = e then { s.entry e with visitingLane := some l } else s.entry d :=
    ht ▸ h.shaped.entry_modEntry (by omega) _
  have prompts : t.promptSet = s.promptSet.filter (· ≠ e) := ht ▸ rfl
  have pointer : t.surveyPointer = e := ht ▸ rfl
  have claimed : t.lane l = (s.lane l).claiming e (s.tuningWordOf e) (s.startTimer s.survey.lockTimeout) :=
    (laneAt l).trans (if_pos rfl)
  have visits : (t.lane l).visiting = some e := by simp [claimed, Lane.claiming, Lane.visiting, hr]
  have mode : (t.lane l).mode = .roving := by rw [claimed]; exact between.mode
  have entry : (t.lane l).entry = none := by rw [claimed]; exact between.entry
  refine h.reassign (l := l) (e := e) ⟨calm, fun j hj => (laneAt j).trans (if_neg hj),
    fun d hd => (entryAt d).trans (if_neg hd), feed, below, fun _ => by omega, prompts ▸ List.filter_sublist,
    fun prompted => ?_, h.placed.shelved free unvisited⟩ (by nofun) (by nofun) (fun j hj => by simp [hj])
    (fun _ hc => absurd hc idle) (fun _ _ => ?_) ?_ ?_ ?_
  · simp [prompts] at prompted
  · obtain ⟨r', hr', taken, tuning⟩ : ∃ r' : Rover, (t.lane l).rover = some r' ∧ r'.claimedEntry = some e ∧
        r'.visitState = .tuning := by
      rw [claimed, Lane.claiming, hr]
      exact ⟨_, rfl, rfl, rfl⟩
    refine Lane.modeLawful_of_rover mode entry hr' (fun d hd => ?_) (by simp [taken, tuning]) (by simp [tuning])
    obtain rfl := Option.some.inj (taken.symm.trans hd)
    exact below
  · refine h.parked.congr (fun d => ?_) fun j => ?_
    · simp only [entryAt]
      split <;> simp [*]
    · by_cases hj : j = l
      · simp [State.parks, hj, entry, between.entry]
      · simp [State.parks, laneAt, hj]
  · refine h.visited.take (l := l) (e := e) (by omega) feed unvisited (by simpa [State.visits] using between.visiting)
      ?_ ?_ (fun d hd => ?_) fun j hj => ?_
    · simp [entryAt]
    · simp [State.visits, visits]
    · simp [entryAt, hd]
    · simp [State.visits, laneAt, hj]
  · simp [entryAt, free]

/-- A roving lane's record as it finds no entry to claim. -/
def Lane.pausing (n : Lane) : Lane :=
  { n with rover := n.rover.map fun r =>
      { r with visitState := .paused, claimedEntry := none, visitTag := none, visitTimer := none } }

theorem Lane.Between.pausing {n : Lane} (h : n.Between) : n.pausing.Between ∧ n.pausing.ModeLawful := by
  obtain ⟨r, hr⟩ := Option.isSome_iff_exists.1 h.rover
  have rover : n.pausing.rover = some
      { r with visitState := .paused, claimedEntry := none, visitTag := none, visitTimer := none } := by
    rw [Lane.pausing, hr]
    rfl
  exact ⟨⟨h.mode, h.entry, by simp [rover], by simp [Lane.visiting, rover], h.quiet⟩,
    Lane.modeLawful_of_rover h.mode h.entry rover (by nofun) ⟨fun _ => rfl, fun _ => rfl⟩ fun _ => h.quiet⟩

/-- A lane between visits pauses. -/
theorem pauseLane_tenancy (h : s.Tenancy (l :: ls) none) (hl : l < 17) : (pauseLane s l).Tenancy ls none := by
  have between := h.between l hl (by nofun) (List.mem_cons_self ..)
  have feed := h.between_feed hl (List.mem_cons_self ..)
  obtain ⟨paused, lawful⟩ := between.pausing
  have emptied : s.Tenancy ls (some l) := h.vacate (fun j hj => by simp [hj]) between.entry between.visiting
  exact emptied.settle feed (fun _ _ => Iff.rfl) paused.entry paused.visiting (fun _ => paused) fun _ => lawful

theorem claim_tenancy (h : s.Tenancy (l :: ls) none) (idle : l ∉ ls) (hl : l < 17) : (claim s l).Tenancy ls none := by
  have between := h.between l hl (by nofun) (List.mem_cons_self ..)
  rw [claim, if_pos between.mode]
  split
  · exact takeEntry_tenancy h idle hl (nextClaim_eligible h.prompts ‹_›)
  · exact pauseLane_tenancy h hl

theorem foldl_claim_tenancy (h : s.Tenancy ls none) (nodup : ls.Nodup) (below : ∀ l ∈ ls, l < 17) :
    (ls.foldl claim s).Tenancy [] none := by
  induction ls generalizing s with
  | nil => exact h
  | cons l ls ih =>
    obtain ⟨idle, nodup'⟩ := List.nodup_cons.1 nodup
    exact ih (claim_tenancy h idle (below l (List.mem_cons_self ..))) nodup'
      fun j hj => below j (List.mem_cons_of_mem _ hj)

/-- A paused lane may be counted among those that have yet to claim. -/
theorem State.Tenancy.resume (h : s.Tenancy [] none) (hl : l < 17) (paused : (s.lane l).paused = true) :
    s.Tenancy [l] none :=
  { h with
    between := fun j _ _ hc => by
      obtain rfl := List.mem_singleton.1 hc
      exact h.paused_between hl paused
    modes := fun j hj ho _ => h.modes j hj ho (by nofun) }

theorem pausedClaims_tenancy (h : s.Tenancy [] none) : (pausedClaims s).Tenancy [] none := by
  have fold : ∀ (ls : List Nat), (∀ l ∈ ls, l < 17) → ∀ u : State, u.Tenancy [] none →
      (ls.foldl (fun s l => if (s.lane l).paused then claim s l else s) u).Tenancy [] none := by
    intro ls
    induction ls with
    | nil => exact fun _ _ hu => hu
    | cons l ls ih =>
      intro below u hu
      refine ih (fun j hj => below j (List.mem_cons_of_mem _ hj)) _ ?_
      dsimp only
      split
      · have hl := below l (List.mem_cons_self ..)
        exact claim_tenancy (hu.resume hl ‹_›) (by nofun) hl
      · exact hu
  exact fold _ (fun l hl => by simp [Config.houseLane] at hl; omega) s h

/-! ### The end of an act -/

theorem closeAct_tenancy {out : Option Nat} (h : s.Tenancy ls out) (s0 : State) : (closeAct s0 s).Tenancy ls out :=
  h.keep (r := false) (Keeps.of_within (closeAct_within s0 s) (by decide)) (closeAct_leads s0 s)

theorem closeWithClaims_tenancy (h : s.Tenancy ls none) (s0 : State) (nodup : ls.Nodup) (below : ∀ l ∈ ls, l < 17) :
    (closeWithClaims s0 s ls).Tenancy [] none :=
  pausedClaims_tenancy (foldl_claim_tenancy (closeAct_tenancy h s0) nodup below)

end

end Sys2Proof.Machine
end

section
namespace Sys2Proof.Machine

open Sys2Proof Host

/-! ## Acts that keep every lane's and every entry's tenancy -/

theorem Keeps.foldl {α : Type} {f : State → α → State} (h : ∀ s a, Keeps s (f s a)) (l : List α) (s : State) :
    Keeps s (l.foldl f s) := by
  induction l generalizing s with
  | nil => exact Keeps.refl s
  | cons a l ih => exact (h s a).trans (ih (f s a))

theorem closeAct_keeps {s t : State} (s0 : State) (h : Keeps s t) : Keeps s (closeAct s0 t) :=
  h.trans (Keeps.of_within (closeAct_within s0 t) (by decide))

theorem settleNotice_keeps (s0 s : State) : Keeps s (settleNotice s0 s) :=
  Keeps.of_within (settleNotice_within s0 s) (by decide)

theorem freeIfUnheld_keeps (s : State) (key : Key) : Keeps s (freeIfUnheld s key) :=
  Keeps.of_within (freeIfUnheld_within s key) (by decide)

/-! ### Commands -/

theorem readCarriageAct_keeps (s : State) (args : List Byte) : Keeps s (readCarriageAct s args).state := by
  unfold readCarriageAct
  dsimp only
  split
  · exact Keeps.refl s
  · exact Keeps.of_eq rfl rfl rfl rfl

theorem flushCarriageAct_keeps (s : State) (args : List Byte) : Keeps s (flushCarriageAct s args).state := by
  unfold flushCarriageAct
  dsimp only
  split
  · exact Keeps.refl s
  · exact Keeps.of_eq rfl rfl rfl rfl

theorem forgetCarriageAct_keeps (s : State) (args : List Byte) : Keeps s (forgetCarriageAct s args).state := by
  unfold forgetCarriageAct
  dsimp only
  split
  · exact Keeps.refl s
  · split
    · exact Keeps.refl s
    · dsimp only [answer]
      exact closeAct_keeps s (Keeps.of_within (removeCarriage_within s _) (by decide))

theorem listCarriagesAct_keeps (s : State) (args : List Byte) : Keeps s (listCarriagesAct s args).state := by
  unfold listCarriagesAct
  dsimp only
  split <;> exact Keeps.refl s

theorem writeWatch_keeps (s : State) (i : Nat) (key : Option Key) : Keeps s (writeWatch s i key) := by
  have written : Keeps s { s with watch := s.watch.set i key, watchSeen := s.watchSeen.set i false } :=
    Keeps.of_eq rfl rfl rfl rfl
  unfold writeWatch
  dsimp only
  split
  · exact written
  · exact written.trans (freeIfUnheld_keeps _ _)

theorem setWatchAct_keeps (s : State) (args : List Byte) : Keeps s (setWatchAct s args).state := by
  unfold setWatchAct
  dsimp only
  split
  · exact Keeps.refl s
  · exact writeWatch_keeps s _ _

theorem Lane.reported_keeps (n : Lane) : n.Keeps n.reported := by
  unfold Lane.reported
  split <;> exact .of_eq rfl rfl rfl rfl rfl

theorem readLaneAct_keeps (s : State) (args : List Byte) : Keeps s (readLaneAct s args).state := by
  unfold readLaneAct
  dsimp only
  split
  · exact Keeps.refl s
  · exact Keeps.modLane (Lane.reported_keeps _)

theorem readSlotAct_keeps (s : State) (args : List Byte) : Keeps s (readSlotAct s args).state := by
  unfold readSlotAct
  dsimp only
  split
  · exact Keeps.refl s
  · exact Keeps.of_eq rfl rfl rfl rfl

theorem readServiceAct_keeps (s : State) (args : List Byte) : Keeps s (readServiceAct s args).state := by
  unfold readServiceAct
  dsimp only
  split
  · exact Keeps.refl s
  · exact Keeps.of_eq rfl rfl rfl rfl

theorem pinTaken_keeps (s : State) (key : Key) (pin : Option Nat) : Keeps s (pinTaken s key pin) := by
  have pinned : Keeps s (s.modService key fun v => { v with pinned := pin }) := Keeps.of_eq rfl rfl rfl rfl
  have handed : ∀ u : State, Keeps u (u.hand key) := fun u => Keeps.of_eq rfl rfl rfl rfl
  unfold pinTaken
  dsimp only
  split
  · exact (pinned.trans (freeIfUnheld_keeps _ _)).trans (handed _)
  · exact pinned.trans (handed _)

theorem pinServiceAct_keeps (s : State) (args : List Byte) : Keeps s (pinServiceAct s args).state := by
  unfold pinServiceAct
  dsimp only
  split
  · exact Keeps.refl s
  · dsimp only [answer]
    exact closeAct_keeps s (pinTaken_keeps s _ _)

theorem setPolicyAct_keeps (s : State) (args : List Byte) : Keeps s (setPolicyAct s args).state := by
  have set : Keeps s { s with policy := policyTaken args } := Keeps.of_eq rfl rfl rfl rfl
  unfold setPolicyAct
  dsimp only
  exact closeAct_keeps s (Keeps.ite (fun _ => set.trans (Keeps.of_within (stallAll_within _) (by decide))) fun _ => set)

theorem slotWritten_keeps (s : State) (a : SlotArgs) : Keeps s (slotWritten s a) := by
  have listed : Keeps s (moveRefs (a.keys.foldl ensureService s) (s.slot a.slot).keys a.keys) :=
    Keeps.of_within ((Within.foldl _ (fun s key => ensureService_within s key) _ s).trans (moveRefs_within _ _ _))
      (by decide)
  exact (listed.trans (Keeps.foldl freeIfUnheld_keeps _ _)).trans (Keeps.of_eq rfl rfl rfl rfl)

theorem reviewSlot_keeps (s : State) (k : Nat) : Keeps s (reviewSlot s k) :=
  Keeps.of_within (reviewSlot_within s k) (by decide)

theorem setSlotAct_keeps (s : State) (args : List Byte) : Keeps s (setSlotAct s args).state := by
  unfold setSlotAct
  dsimp only
  split
  · exact Keeps.refl s
  · dsimp only [answer]
    rw [setSlotTaken_eq]
    exact ((slotWritten_keeps s _).trans (reviewSlot_keeps _ _)).trans (Keeps.of_eq rfl rfl rfl rfl)

theorem slotCleared_keeps (s : State) (k : Nat) : Keeps s (slotCleared s k) := by
  have emptied : Keeps s ((discardQueue s k).modSlot k fun _ => Slot.vacant) := Keeps.of_eq rfl rfl rfl rfl
  exact (emptied.trans (Keeps.of_within (moveRefs_within _ _ _) (by decide))).trans (Keeps.foldl freeIfUnheld_keeps _ _)

theorem clearSlotAct_keeps (s : State) (args : List Byte) : Keeps s (clearSlotAct s args).state := by
  unfold clearSlotAct
  dsimp only
  split
  · exact Keeps.refl s
  split
  · exact Keeps.refl s
  · dsimp only [answer]
    rw [clearSlotTaken_eq]
    exact (slotCleared_keeps s _).trans (Keeps.of_eq rfl rfl rfl rfl)

theorem exchangeSlotsAct_keeps (s : State) (args : List Byte) : Keeps s (exchangeSlotsAct s args).state := by
  unfold exchangeSlotsAct
  dsimp only
  split
  · exact Keeps.refl s
  split
  · exact Keeps.refl s
  split
  · exact Keeps.refl s
  · dsimp only [answer]
    rw [exchangeTaken_eq]
    exact ((Keeps.of_eq rfl rfl rfl rfl : Keeps s (keysExchanged s _ _)).trans (reviewSlot_keeps _ _)).trans
      (reviewSlot_keeps _ _)

/-! ### Lanes (R34 to R38, R41) -/

theorem startLock_keeps (s : State) (l : Nat) : Keeps s (startLock s l) := Keeps.modLane (.of_eq rfl rfl rfl rfl rfl)

theorem stopLock_keeps (s : State) (l : Nat) : Keeps s (stopLock s l) := Keeps.modLane (.of_eq rfl rfl rfl rfl rfl)

theorem startSilence_keeps (s : State) (l : Nat) : Keeps s (startSilence s l) :=
  Keeps.modLane (.of_eq rfl rfl rfl rfl rfl)

theorem stopSilence_keeps (s : State) (l : Nat) : Keeps s (stopSilence s l) :=
  Keeps.modLane (.of_eq rfl rfl rfl rfl rfl)

theorem startWindow_keeps (s : State) (l : Nat) : Keeps s (startWindow s l) :=
  Keeps.modLane (.of_eq rfl rfl rfl rfl rfl)

theorem Lane.entering_keeps (n : Lane) (new : ParkedState) : n.Keeps (n.entering new) := by
  unfold Lane.entering
  split
  · exact .refl n
  · cases new <;> exact .of_eq rfl rfl rfl rfl rfl

theorem moveParked_keeps (s : State) (l : Nat) (new : ParkedState) : Keeps s (moveParked s l new) := by
  have entered : Keeps s (s.modLane l fun n => n.entering new) := Keeps.modLane (Lane.entering_keeps _ new)
  exact Keeps.ite (fun _ => entered) fun _ =>
    entered.trans (Keeps.of_within (laneDownAll_within _ l _) (by decide))

theorem lockSeen_keeps (s : State) (l : Nat) : Keeps s (lockSeen s l) :=
  (moveParked_keeps s l _).trans (stopLock_keeps _ l)

theorem lockMissing_keeps (s : State) (l : Nat) : Keeps s (lockMissing s l) := by
  unfold lockMissing
  split
  · exact (moveParked_keeps s l _).trans (startLock_keeps _ l)
  · exact (moveParked_keeps s l _).trans (startLock_keeps _ l)
  · exact moveParked_keeps s l _

theorem staleSeen_keeps (s : State) (l : Nat) : Keeps s (staleSeen s l) := by
  unfold staleSeen
  split
  · exact (moveParked_keeps s l _).trans (startLock_keeps _ l)
  · exact Keeps.refl s

theorem parkedSilence_keeps (s : State) (l : Nat) : Keeps s (parkedSilence s l) :=
  (moveParked_keeps s l _).trans (stopLock_keeps _ l)

/-- A TUNE on a lane without a rover record leaves its tenancy. -/
theorem sendTune_keeps {s : State} {l : Nat} (rover : (s.lane l).rover = none) (e : Nat) :
    Keeps s (sendTune s l e) := Keeps.modLane (.of_rover_none rover rfl rfl rfl)

theorem lockExpired_keeps {s : State} {l : Nat} (rover : (s.lane l).rover = none) : Keeps s (lockExpired s l) :=
  (((sendTune_keeps rover _).trans (moveParked_keeps _ l _)).trans (Keeps.modCounters _ l _)).trans (startLock_keeps _ l)

theorem parkedRestart_keeps {s : State} {l : Nat} (rover : (s.lane l).rover = none) : Keeps s (parkedRestart s l) :=
  (((sendTune_keeps rover _).trans (moveParked_keeps _ l _)).trans (startLock_keeps _ l)).trans (Keeps.modAsm _ l _)

theorem countStatus_keeps (s : State) (l : Nat) (r : StatusReport) : Keeps s (countStatus s l r) :=
  Keeps.trans (Keeps.modLane (.of_eq rfl rfl rfl rfl rfl)) (startSilence_keeps _ l)

theorem restartSeen_keeps (s : State) (l : Nat) : Keeps s (restartSeen s l) :=
  Keeps.modLane (.of_eq rfl rfl rfl rfl rfl)

theorem countStale_keeps (s : State) (l : Nat) : Keeps s (countStale s l) := Keeps.modCounters s l _

/-- A current status cell on a lane that waits for a tag leaves its tenancy. -/
theorem takeMargin_keeps {s : State} {l : Nat} (awaits : (s.lane l).rover = none ∨ (s.lane l).currentTag ≠ none)
    (r : StatusReport) : Keeps s (takeMargin s l r) :=
  Keeps.modLane ⟨rfl, rfl, rfl, fun some _ quiet => by
    rcases awaits with bare | tagged
    · simp [bare] at some
    · exact absurd quiet.1 tagged⟩

theorem parkedStatus_keeps {s : State} {l : Nat} (rover : (s.lane l).rover = none) (r : StatusReport) :
    Keeps s (parkedStatus s l r) := by
  have counted := countStatus_keeps s l r
  have bare := (counted.lanes l).rover_none rover
  have margin := counted.trans (takeMargin_keeps (.inl bare) r)
  unfold parkedStatus
  split
  · have seen := counted.trans (restartSeen_keeps _ l)
    exact seen.trans (parkedRestart_keeps ((seen.lanes l).rover_none rover))
  · exact Keeps.ite (fun _ => margin.trans (lockSeen_keeps _ l)) fun _ => margin.trans (lockMissing_keeps _ l)
  · exact (counted.trans (countStale_keeps _ l)).trans (staleSeen_keeps _ l)

theorem laneHealth_keeps (s : State) (l : Nat) : Keeps s (laneHealth s l) := by
  refine Keeps.ite (fun _ => Keeps.modLane ?_) fun _ => Keeps.refl s
  unfold Lane.degradeTested
  split <;> split <;> exact .of_eq rfl rfl rfl rfl rfl

theorem windowEnd_keeps (s : State) (l : Nat) : Keeps s (windowEnd s l) := by
  have scored : Keeps s (resetCounters (scoreLane s l) l) :=
    (Keeps.of_within (scoreLane_within s l) (by decide)).trans (Keeps.of_within (resetCounters_within _ l) (by decide))
  have retried := scored.trans (Keeps.of_within (retryAll_within _ l) (by decide))
  have cleared : Keeps s (clearWindow (laneHealth (retryAll (resetCounters (scoreLane s l) l) l) l) l) :=
    (retried.trans (laneHealth_keeps _ l)).trans (Keeps.modLane (.of_eq rfl rfl rfl rfl rfl))
  exact (cleared.trans (Keeps.of_within (setMarks_within _ l) (by decide))).trans (startWindow_keeps _ l)

/-! ### Rovers (R72 to R76) -/

/-- A rover that is not paused settles or dwells with its claim kept. -/
theorem Rover.tenancy_moving {r q : Rover} (moving : r.visitState ≠ .paused) (moves : q.visitState ≠ .paused)
    (claimed : q.claimedEntry = r.claimedEntry) : q.tenancy = r.tenancy := by
  simp [Rover.tenancy, moving, moves, claimed]

/-- No lane that is paused, and whatever the rover of the lane at `l`, it is moving. -/
def Lane.Moving (n : Lane) : Prop := ∀ r, n.rover = some r → r.visitState ≠ .paused

theorem enterSettling_keeps {s : State} {l : Nat} (moving : (s.lane l).Moving) : Keeps s (enterSettling s l) :=
  Keeps.modRover fun r hr => Rover.tenancy_moving (moving r hr) (by nofun) rfl

theorem enterDwelling_keeps {s : State} {l : Nat} (moving : (s.lane l).Moving) : Keeps s (enterDwelling s l) := by
  have cleared : Keeps s (s.modLane l fun n => { n with windowMargin := none, asm := n.asm.cleared true }) :=
    Keeps.modLane (.of_eq rfl rfl rfl rfl rfl)
  refine cleared.trans (Keeps.modRover fun r hr => Rover.tenancy_moving (moving r ?_) (by nofun) rfl)
  rw [← hr]
  exact (lane_modLane_keeps (f := fun n => { n with windowMargin := none, asm := n.asm.cleared true })
    (fun n => n.rover) (fun _ => rfl) l).symm

theorem roveLock_keeps {s : State} {l : Nat} (moving : (s.lane l).Moving) : Keeps s (roveLock s l) :=
  Keeps.ite (fun _ => enterSettling_keeps moving) fun _ => enterDwelling_keeps moving

theorem Lane.moving_of_state {n : Lane} {v : VisitState} (state : n.visitState = some v) (hv : v ≠ .paused) :
    n.Moving := by
  intro r hr
  simp only [Lane.visitState, hr, Option.map_some, Option.some.injEq] at state
  rwa [state]

theorem countLate_keeps (s : State) (l tag : Nat) : Keeps s (countLate s l tag) :=
  Keeps.ite (fun _ => Keeps.modRover fun _ _ => rfl) fun _ => Keeps.refl s

/-! ### Directories and bound cells (R28 to R32, R53 to R61) -/

theorem fullReconciliation_keeps (s : State) (l e : Nat) (m : DirectoryMessage) :
    Keeps s (fullReconciliation s l e m) := by
  have keyed : Within catalogueParts s (m.services.foldl (fun s v => reconcileKey s l e v) s) :=
    Within.foldl _ (fun s v => reconcileKey_within s l e v) _ s
  exact (Keeps.of_within (keyed.trans (Within.foldl _ (fun s c => countMissing_within s c) _ _)) (by decide)).trans
    (Keeps.modEntry _ e fun p => ⟨rfl, rfl, rfl, rfl⟩)

theorem multiplexChange_keeps (s : State) (e : Nat) (old new : BitVec 16) : Keeps s (multiplexChange s e old new) := by
  have recorded : Within catalogueParts s
      (if s.changeRecorded e then writeRecord s .entryChanged e (old ++ new) none else s) :=
    Within.ite ((writeRecord_within s _ _ _ _).mono (by decide)) (Within.refl _ s)
  exact (Keeps.of_within (recorded.trans (Within.foldl _ (fun s c => vanish_within s c) _ _)) (by decide)).trans
    (Keeps.modEntry _ e fun p => ⟨rfl, rfl, rfl, rfl⟩)

theorem repeatDirectory_keeps (s : State) (l e : Nat) (m : DirectoryMessage) : Keeps s (repeatDirectory s l e m) := by
  have reset : Within [.carriages] s ((s.carriagesListed e m true).foldl resetMissing s) :=
    Within.foldl _ (fun s c => resetMissing_within s c) _ s
  unfold repeatDirectory
  refine Keeps.trans ?_ (Keeps.modAsm _ l _)
  exact (Keeps.of_within reset (by decide)).trans
    (Keeps.of_within (Within.foldl _ (fun s c => countMissing_within s c) _ _) (by decide))

theorem reconcile_keeps (s : State) (l e : Nat) (m : DirectoryMessage) (first : Bool) :
    Keeps s (reconcile s l e m first) := by
  unfold reconcile
  split
  · exact (Keeps.modEntry s e (f := fun p => { p with multiplexId := some m.multiplexId })
      fun p => ⟨rfl, rfl, rfl, rfl⟩).trans (fullReconciliation_keeps _ l e m)
  · exact Keeps.ite (fun _ => (multiplexChange_keeps s e _ _).trans (fullReconciliation_keeps _ l e m)) fun _ =>
      Keeps.ite (fun _ => repeatDirectory_keeps s l e m) fun _ => fullReconciliation_keeps s l e m

theorem acceptDirectory_keeps (s : State) (l e : Nat) (m : DirectoryMessage) : Keeps s (acceptDirectory s l e m) := by
  have marked : Keeps s ((s.modAsm l fun a =>
      { a with accepted := saturate Config.counter32 (a.accepted + 1), firstPending := false }).modRover l fun r =>
        { r with directoryTaken := true, dwellServiceCount := m.services.length }) :=
    (Keeps.modAsm s l _).trans (Keeps.modRover fun _ _ => rfl)
  have seen : ∀ (u : State) (seen : List Bool), Keeps u { u with watchSeen := seen } := fun u _ =>
    Keeps.of_eq rfl rfl rfl rfl
  unfold acceptDirectory
  exact (marked.trans (seen _ _)).trans (reconcile_keeps _ l e m _)

theorem completeMessage_keeps (s : State) (l : Nat) (msg : List Byte) : Keeps s (completeMessage s l msg) := by
  unfold completeMessage
  split
  · exact Keeps.modAsm s l _
  · split
    · exact Keeps.modAsm s l _
    · exact acceptDirectory_keeps s l _ _

theorem directoryCell_keeps (s : State) (l : Nat) (c : Cell) : Keeps s (directoryCell s l c) := by
  unfold directoryCell
  dsimp only
  split
  · exact Keeps.modAsm s l _
  · exact (Keeps.modAsm s l _).trans (completeMessage_keeps _ l _)

theorem boundCell_keeps (s : State) (b : Binding) (c : Cell) : Keeps s (boundCell s b c) := by
  unfold boundCell
  split
  · exact (Keeps.of_eq rfl rfl rfl rfl :
      Keeps s (s.modBinding b.name fun y => { y with duplicates := saturate Config.counter24 (y.duplicates + 1) })).trans
      (Keeps.modCounters _ _ _)
  · exact (((Keeps.of_eq rfl rfl rfl rfl : Keeps s (s.modBinding b.name fun y => y.accepting c _ s.clock)).trans
      (Keeps.of_within (markHeard_within _ _) (by decide))).trans
      (Keeps.of_within (clearStalls_within _ _) (by decide))).trans
      (Keeps.of_within (forwardCell_within _ _ _) (by decide))

theorem programmeCell_keeps (s : State) (l : Nat) (c : Cell) : Keeps s (programmeCell s l c) := by
  unfold programmeCell
  split
  · exact boundCell_keeps s _ c
  · exact Keeps.modCounters s l _

theorem errorStatus_keeps (s : State) (l : Nat) : Keeps s (errorStatus s l) :=
  Keeps.trans (Keeps.modLane (.of_eq rfl rfl rfl rfl rfl)) (startSilence_keeps _ l)

theorem idleCell_keeps (s : State) (l : Nat) (c : Cell) : Keeps s (idleCell s l c) :=
  Keeps.ite (fun _ => Keeps.modLane (.of_eq rfl rfl rfl rfl rfl)) fun _ => Keeps.modCounters s l _

end Sys2Proof.Machine
end

section
namespace Sys2Proof.Machine

open Sys2Proof Host

/-! ## What visits and parks leave of the lanes and the entries -/

section

variable {ls : List Nat} {s : State} {l e : Nat}

theorem visitLeft_lane (shaped : s.Shaped) (hl : l < 17) (e : Nat) (o : Option SurveyOutcome) (j : Nat) :
    (visitLeft s l e o).lane j = if j = l then (s.lane l).visitEnded o else s.lane j := by
  have within : Within [.carriages, .bindings, .handed] s
      (shelveVisit (if o = some .surveyed then surveyFigures s l e else s) e) :=
    (Within.ite ((surveyFigures_within s l e).mono (by decide)) (Within.refl _ s)).trans (shelveVisit_within _ e)
  have lanes : (visitLeft s l e o).lanes = s.lanes.modify l fun n => n.visitEnded o := by
    simp only [visitLeft, State.modEntry, State.modLane]
    rw [show (shelveVisit _ e).lanes = s.lanes from within .lanes (by decide)]
  rw [State.lane, lanes]
  exact shaped.lane_modLane hl _ j

theorem visitLeft_entry (shaped : s.Shaped) (he : e < 64) (l : Nat) (o : Option SurveyOutcome) (d : Nat) :
    (visitLeft s l e o).entry d = if d = e then { s.entry e with visitingLane := none } else s.entry d := by
  have within : Within [.carriages, .bindings, .handed] s
      (shelveVisit (if o = some .surveyed then surveyFigures s l e else s) e) :=
    (Within.ite ((surveyFigures_within s l e).mono (by decide)) (Within.refl _ s)).trans (shelveVisit_within _ e)
  have entries : (visitLeft s l e o).entries = s.entries.modify e fun p => { p with visitingLane := none } := by
    simp only [visitLeft, State.modEntry, State.modLane]
    rw [show (shelveVisit _ e).entries = s.entries from within .entries (by decide)]
  rw [State.entry, entries]
  exact shaped.entry_modEntry he _ d

/-- What abandoning a lane's visit leaves of the lanes. -/
theorem abandonVisit_lane (h : s.Tenancy ls none) (l j : Nat) : (abandonVisit s l).lane j =
    if j = l ∧ (s.lane l).visiting.isSome then (s.lane l).visitEnded none else s.lane j := by
  cases visits : (s.lane l).visiting with
  | none =>
    rw [abandonVisit, endVisit_none visits]
    simp
  | some e =>
    have hl := (h.visitor visits).1
    simp only [abandonVisit, endVisit, visits, endVisitTo_eq]
    rw [visitLeft_lane h.shaped (by omega)]
    simp

/-- What abandoning a lane's visit leaves of the entries. -/
theorem abandonVisit_entry (h : s.Tenancy ls none) (l d : Nat) : (abandonVisit s l).entry d =
    if (s.lane l).visiting = some d then { s.entry d with visitingLane := none } else s.entry d := by
  cases visits : (s.lane l).visiting with
  | none =>
    rw [abandonVisit, endVisit_none visits]
    simp
  | some e =>
    obtain ⟨-, -, below, -, -⟩ := h.visitor visits
    simp only [abandonVisit, endVisit, visits, endVisitTo_eq]
    rw [visitLeft_entry h.shaped (by omega)]
    by_cases hd : d = e
    · simp [hd]
    · simp [hd, Ne.symm hd]

/-- An entry's visit abandoned, if it has one. -/
def unvisited (s : State) (e : Nat) : State := (s.entry e).visitingLane.toList.foldl abandonVisit s

theorem unvisited_none (free : (s.entry e).visitingLane = none) : unvisited s e = s := by
  simp [unvisited, free]

theorem unvisited_some {j : Nat} (visited : (s.entry e).visitingLane = some j) : unvisited s e = abandonVisit s j := by
  simp [unvisited, visited]

theorem unvisited_tenancy (h : s.Tenancy [] none) (he : e < 64) :
    (unvisited s e).Tenancy (s.entry e).visitingLane.toList none := by
  cases visited : (s.entry e).visitingLane with
  | none =>
    rw [unvisited_none visited]
    exact h
  | some j =>
    rw [unvisited_some visited]
    exact endVisit_tenancy h (h.visits_of_lane he visited).2 none

theorem unvisited_entry (h : s.Tenancy [] none) (he : e < 64) (d : Nat) : (unvisited s e).entry d =
    if d = e then { s.entry e with visitingLane := none } else s.entry d := by
  cases visited : (s.entry e).visitingLane with
  | none =>
    rw [unvisited_none visited]
    split
    · subst_vars
      rw [← visited]
    · rfl
  | some j =>
    have visits := (h.visits_of_lane he visited).2
    rw [unvisited_some visited, abandonVisit_entry h, visits]
    by_cases hd : d = e
    · simp [hd]
    · simp [hd, Ne.symm hd]

theorem unvisited_lane (h : s.Tenancy [] none) (he : e < 64) (j : Nat) : (unvisited s e).lane j =
    if (s.entry e).visitingLane = some j then (s.lane j).visitEnded none else s.lane j := by
  cases visited : (s.entry e).visitingLane with
  | none =>
    rw [unvisited_none visited]
    simp
  | some i =>
    have visits := (h.visits_of_lane he visited).2
    rw [unvisited_some visited, abandonVisit_lane h, visits]
    by_cases hj : j = i
    · simp [hj]
    · simp [hj, Ne.symm hj]

theorem parkRelease_lane (s : State) (l j : Nat) : (parkRelease s l).lane j = s.lane j := by
  unfold parkRelease
  split
  · rename_i e _ _
    have lanes : (shelveParked s e).lanes = s.lanes := shelveParked_within s e .lanes (by decide)
    simp only [State.lane, State.modEntry_lanes, lanes]
  · rfl

theorem parkRelease_entry (h : s.Tenancy ls none) (hl : l < 17) (d : Nat) : (parkRelease s l).entry d =
    if (s.entry d).parkedLane = some l ∧ d < 64 then { s.entry d with parkedLane := none } else s.entry d := by
  unfold parkRelease
  split
  · rename_i e mode entry
    obtain ⟨-, -, e', he, entry', parked⟩ := h.parker hl mode
    obtain rfl : e' = e := Option.some.inj (entry'.symm.trans entry)
    have entries : ((shelveParked s e').modEntry e' fun p => { p with parkedLane := none }).entries =
        s.entries.modify e' fun p => { p with parkedLane := none } := by
      rw [State.modEntry_entries, show (shelveParked s e').entries = s.entries from shelveParked_within s _ .entries (by decide)]
    rw [State.entry, entries]
    refine (h.shaped.entry_modEntry he _ d).trans ?_
    by_cases hd : d = e'
    · subst hd
      simp [parked, he]
    · have other : ¬ ((s.entry d).parkedLane = some l ∧ d < 64) := fun ⟨held, hd'⟩ =>
        hd (Option.some.inj ((h.parks_of_lane hd' held).2.symm.trans entry'))
      simp [hd, other]
  · rename_i unparked
    have other : ¬ ((s.entry d).parkedLane = some l ∧ d < 64) := fun ⟨held, hd⟩ => by
      have entry := (h.parks_of_lane hd held).2
      refine unparked d ?_ entry
      by_contra mode
      rw [h.bare hl mode] at entry
      cases entry
    simp [other]

/-- What leaving a lane leaves of the lanes. -/
theorem leaveLane_lane (h : s.Tenancy ls none) (l j : Nat) (hj : j ≠ l) : (leaveLane s l).lane j = s.lane j := by
  unfold leaveLane abandonVisit endVisit
  split
  · exact parkRelease_lane s l j
  · rename_i e visits
    rw [endVisitTo_eq]
    rw [parkRelease_lane] at visits
    obtain ⟨hl, idle, below, -, -⟩ := h.visitor visits
    have shaped : (parkRelease s l).Shaped := (parkRelease_leads (r := false) (B := anyBind) s l).shaped h.ordered h.shaped
    rw [visitLeft_lane shaped (by omega), if_neg hj, parkRelease_lane]

/-- What leaving a lane leaves of an entry that the lane neither parks on nor visits, and of one it does. -/
theorem leaveLane_entry (h : s.Tenancy ls none) (hl : l < 17) {d : Nat} (hd : d < 64) : (leaveLane s l).entry d =
    { s.entry d with
      parkedLane := if (s.entry d).parkedLane = some l then none else (s.entry d).parkedLane
      visitingLane := if (s.entry d).visitingLane = some l then none else (s.entry d).visitingLane } := by
  have released := parkRelease_entry h hl d
  have visits_iff : (s.lane l).visiting = some d ↔ (s.entry d).visitingLane = some l :=
    ⟨fun visits => (h.visitor visits).2.2.2.1, fun lane => (h.visits_of_lane hd lane).2⟩
  unfold leaveLane abandonVisit endVisit
  rw [parkRelease_lane]
  cases visits : (s.lane l).visiting with
  | none =>
    rw [released]
    have unvisited : (s.entry d).visitingLane ≠ some l := fun lane => by
      rw [visits_iff.2 lane] at visits
      cases visits
    by_cases parked : (s.entry d).parkedLane = some l <;> simp [parked, hd, unvisited]
  | some e =>
    have shaped : (parkRelease s l).Shaped := (parkRelease_leads (r := false) (B := anyBind) s l).shaped h.ordered h.shaped
    obtain ⟨-, -, below, lane, -⟩ := h.visitor visits
    simp only [endVisitTo_eq]
    rw [visitLeft_entry shaped (by omega), released]
    by_cases hde : d = e
    · subst hde
      rw [released]
      by_cases parked : (s.entry d).parkedLane = some l <;> simp [parked, hd, lane]
    · have unvisited : (s.entry d).visitingLane ≠ some l := fun lane => by
        rw [visits] at visits_iff
        exact hde (Option.some.inj (visits_iff.2 lane)).symm
      by_cases parked : (s.entry d).parkedLane = some l <;> simp [parked, hd, hde, unvisited]

end

/-! ## Every row keeps the laws of tenancy -/

/-- What an act leaves before its close: the laws but for the lanes that have yet to claim. -/
structure Acted (r : State × List Nat) : Prop where
  tenancy : r.1.Tenancy r.2 none
  nodup : r.2.Nodup
  below : ∀ l ∈ r.2, l < 17

section

variable {s t : State} {l e : Nat}

theorem Acted.of_keep {r : Bool} (h : s.Tenancy [] none) (keeps : Keeps s t) (leads : Leads r s.placesAt s t) :
    Acted (t, []) := ⟨h.keep keeps leads, List.nodup_nil, by nofun⟩

theorem Acted.of_visit (h : s.Tenancy [] none) {v : VisitState} (state : (s.lane l).visitState = some v)
    (moving : v ≠ .paused) (hl : l < 17) (o : Option SurveyOutcome) : Acted (endVisit s l o, [l]) := by
  obtain ⟨e, visits⟩ := h.visiting_of_state hl state moving
  exact ⟨endVisit_tenancy h visits o, List.nodup_singleton l, fun j hj => List.mem_singleton.1 hj ▸ hl⟩

/-- The close of an act. -/
theorem Acted.close {r : State × List Nat} (h : Acted r) (s0 : State) :
    (if r.2 = [] then closeAct s0 r.1 else closeWithClaims s0 r.1 r.2).Tenancy [] none := by
  split
  · rename_i none
    have := h.tenancy
    rw [none] at this
    exact closeAct_tenancy this s0
  · exact closeWithClaims_tenancy h.tenancy s0 h.nodup h.below

theorem settleNotice_tenancy {ls : List Nat} (h : t.Tenancy ls none) (s0 : State) :
    (settleNotice s0 t).Tenancy ls none :=
  h.keep (r := false) (settleNotice_keeps s0 t) (settleNotice_calm s0 t).leads

theorem event_tenancy (h : s.Tenancy [] none) {enabled : Bool} {act : State → State × List Nat}
    (acted : enabled = true → Acted (act s)) : (event s enabled act).Tenancy [] none := by
  unfold event
  split
  · rename_i on
    rw [Bool.and_eq_true] at on
    exact settleNotice_tenancy ((acted on.1).close s) s
  · exact h

theorem quietEvent_tenancy (h : s.Tenancy [] none) {enabled : Bool} {act : State → State}
    (keeps : enabled = true → Keeps s (act s)) (calm : enabled = true → Calm s (act s)) :
    (quietEvent s enabled act).Tenancy [] none := by
  unfold quietEvent
  split
  · rename_i on
    rw [Bool.and_eq_true] at on
    exact settleNotice_tenancy (h.keep (r := false) (keeps on.1) (calm on.1).leads) s
  · exact h

theorem takeIf_tenancy (h : s.Tenancy [] none) {p : Command → Bool} {act : State → List Byte → Reply}
    (acted : ∀ u args, u.Tenancy [] none → (act u args).state.Tenancy [] none) : (takeIf p s act).Tenancy [] none := by
  unfold takeIf
  split
  · exact h
  · rename_i c rest _
    have dropped : (dropHead s rest).Tenancy [] none :=
      h.keep (r := false) (Keeps.of_eq rfl rfl rfl rfl) (mgmt_calm s _).leads
    have placed := fun (u : State) (cell : ControlCell) (hu : u.Tenancy [] none) =>
      (hu.keep (r := false) (Keeps.of_eq rfl rfl rfl rfl) (store_calm u _).leads : (placeControl u cell).Tenancy [] none)
    exact (placed _ _ (settleNotice_tenancy (acted _ c.args dropped) s)).keep (r := false)
      (Keeps.of_within (noteRestart_within _) (by decide)) (noteRestart_calm _).leads

/-- A command whose act keeps every lane's and entry's tenancy and binds nothing. -/
theorem takeIf_keep (h : s.Tenancy [] none) {p : Command → Bool} {r : Bool} {act : State → List Byte → Reply}
    (keeps : ∀ u args, Keeps u (act u args).state)
    (run : ∀ (u : State) args, Concludes r u.placesAt u (act u args).state) : (takeIf p s act).Tenancy [] none :=
  takeIf_tenancy h fun u args hu => hu.keep (keeps u args) (run u args).leads

/-! ### Cells (R28, R34, R35, R53, R72 to R76) -/

theorem Lane.Keeps.moving {n m : Lane} (h : n.Keeps m) (moving : n.Moving) : m.Moving := by
  intro r' hr'
  have view : n.rover.map Rover.tenancy = some r'.tenancy := by rw [← h.rover, hr']; rfl
  obtain ⟨r, hr, same⟩ := Option.map_eq_some_iff.1 view
  have := moving r hr
  have state : r'.visitState = .paused ↔ r.visitState = .paused := by
    simpa [Rover.tenancy] using (congrArg Prod.fst same).symm
  rwa [ne_eq, state]

/-- A lane that waits for a tag or has acknowledged one visits its entry. -/
theorem State.Tenancy.visiting_of_not_quiet (h : s.Tenancy [] none) (hl : l < 17) (mode : (s.lane l).mode = .roving)
    (busy : ¬ (s.lane l).Quiet) : ∃ e, (s.lane l).visiting = some e := by
  obtain ⟨-, -, roves, -, rover⟩ := h.modes l hl (by nofun) (by nofun)
  obtain ⟨r, hr⟩ := Option.isSome_iff_exists.1 (roves.1 mode)
  obtain ⟨idle, quiet⟩ := rover r hr
  cases claimed : r.claimedEntry with
  | none => exact absurd (quiet (idle.2 claimed)) busy
  | some e => exact ⟨e, by simp [Lane.visiting, hr, claimed]⟩

theorem countStatus_currentTag (s : State) (l : Nat) (r : StatusReport) (j : Nat) :
    ((countStatus s l r).lane j).currentTag = (s.lane j).currentTag :=
  (lane_modLane_keeps (fun n => n.currentTag) (by intro; rfl) j).trans
    (lane_modLane_keeps (fun n => n.currentTag) (by intro; rfl) j)

/-- What an accepted directory binds stands where the entry's lane is. -/
theorem State.Tenancy.allowsAccepted (h : s.Tenancy [] none) (hl : l < 17) : AllowsAccepted s.placesAt s l := by
  intro e accepting st hst
  unfold Lane.acceptingEntry at accepting
  split at accepting
  · cases accepting
  · rename_i mode
    split at accepting
    · obtain ⟨-, -, d, hd, entry, parked⟩ := h.parker hl mode
      obtain rfl := Option.some.inj (entry.symm.trans accepting)
      rcases hst with rfl | rfl
      · rw [State.boundState, if_neg (by rw [mode]; nofun)]
        exact ⟨hd, rfl, parked⟩
      · exact ⟨hd, rfl, .inl parked⟩
    · cases accepting
  · rename_i mode
    split at accepting
    · obtain ⟨-, -, below, visited, -⟩ := h.visitor accepting
      rcases hst with rfl | rfl
      · rw [State.boundState, if_pos mode]
        exact ⟨by omega, rfl, visited⟩
      · exact ⟨by omega, rfl, .inr visited⟩
    · cases accepting

theorem losesLock_moving {n : Lane} (loses : n.losesLock = true) : ∃ v, n.visitState = some v ∧ v ≠ .paused := by
  simp only [Lane.losesLock, Bool.or_eq_true, decide_eq_true_eq] at loses
  rcases loses with state | state
  · exact ⟨_, state, by nofun⟩
  · exact ⟨_, state, by nofun⟩

theorem rovingStatus_acted (h : s.Tenancy [] none) (hl : l < 17) (mode : (s.lane l).mode = .roving) (r : StatusReport) :
    Acted (rovingStatus s l r) := by
  have counted := countStatus_keeps s l r
  have countedLeads : Leads false s.placesAt s (countStatus s l r) := (countStatus_calm s l r).leads
  unfold rovingStatus
  split
  · rename_i kind
    have busy : ¬ (s.lane l).Quiet := fun quiet => by
      unfold Lane.statusKind at kind
      split at kind
      · rename_i known
        rw [quiet.2] at known
        cases known.2
      · split at kind <;> cases kind
    obtain ⟨e, visits⟩ := h.visiting_of_not_quiet hl mode busy
    have keeps := counted.trans (restartSeen_keeps _ l)
    have seen := h.keep keeps (countedLeads.trans (Calm.modLane _ l _).leads)
    exact ⟨endVisit_tenancy seen ((keeps.lanes l).visiting.trans visits) none, List.nodup_singleton l,
      fun j hj => List.mem_singleton.1 hj ▸ hl⟩
  · rename_i kind
    have tagged : (s.lane l).currentTag ≠ none := by
      unfold Lane.statusKind at kind
      split at kind
      · cases kind
      · split at kind
        · rename_i current
          rw [current]
          nofun
        · cases kind
    have keeps := counted.trans
      (takeMargin_keeps (s := countStatus s l r) (l := l) (.inr (by rwa [countStatus_currentTag])) r)
    have leads : Leads false s.placesAt s (takeMargin (countStatus s l r) l r) :=
      countedLeads.trans (Calm.modLane _ l _).leads
    split
    · split
      · rename_i tuning
        have moving := (keeps.lanes l).moving (Lane.moving_of_state tuning (by nofun))
        exact Acted.of_keep h (keeps.trans (roveLock_keeps moving)) (leads.trans (roveLock_calm _ l).leads)
      · exact Acted.of_keep h keeps leads
    · split
      · obtain ⟨v, state, moving⟩ := losesLock_moving ‹_›
        obtain ⟨e, visits⟩ := h.visiting_of_state hl state moving
        exact ⟨endVisit_tenancy (h.keep keeps leads) ((keeps.lanes l).visiting.trans visits) _, List.nodup_singleton l,
          fun j hj => List.mem_singleton.1 hj ▸ hl⟩
      · exact Acted.of_keep h keeps leads
  · have stale : Leads false s.placesAt s (countStale (countStatus s l r) l) :=
      countedLeads.trans (Calm.modCounters _ l _).leads
    refine Acted.of_keep h ((counted.trans (countStale_keeps _ l)).trans (countLate_keeps _ l _)) (stale.trans ?_)
    exact Leads.ite (fun _ => (Calm.modRover _ l _).leads) fun _ => Leads.refl _

theorem statusCell_acted (h : s.Tenancy [] none) (hl : l < 17) (mode : (s.lane l).mode ≠ .idle) (c : Cell) :
    Acted (statusCell s l c) := by
  unfold statusCell
  split
  · exact Acted.of_keep (r := false) h (errorStatus_keeps s l) (errorStatus_calm s l).leads
  · split
    · exact rovingStatus_acted h hl ‹_› _
    · rename_i roving
      have parked : (s.lane l).mode = .parked := by
        cases hm : (s.lane l).mode with
        | idle => exact absurd hm mode
        | roving => exact absurd hm roving
        | parked => rfl
      exact Acted.of_keep (r := false) h (parkedStatus_keeps (h.parker hl parked).1 _) (parkedStatus_leads s l _)

theorem dispatchCell_acted (h : s.Tenancy [] none) (hl : l < 17) (mode : (s.lane l).mode ≠ .idle) (c : Cell) :
    Acted (dispatchCell s l c) := by
  unfold dispatchCell
  split
  · exact Acted.of_keep (r := false) h (programmeCell_keeps s l c) (programmeCell_leads s l c)
  split
  · exact Acted.of_keep (r := false) h (Keeps.modCounters s l _) (voidArrived_calm s l).leads
  split
  · exact Acted.of_keep (r := false) h (directoryCell_keeps s l c) (directoryCell_leads (h.allowsAccepted hl))
  split
  · exact statusCell_acted h hl mode c
  split
  · exact Acted.of_keep (r := false) h (Keeps.of_within (admitCommand_within s c) (by decide)) (admitCommand_calm s c).leads
  · exact Acted.of_keep (r := false) h (Keeps.modCounters s l _) (unexpectedCell_calm s l).leads

theorem checkedCell_acted (h : s.Tenancy [] none) (hl : l < 17) (c : Cell) : Acted (checkedCell s l c) := by
  unfold checkedCell
  split
  · exact Acted.of_keep (r := false) h (idleCell_keeps s l c) (idleCell_calm s l c).leads
  · rename_i mode
    exact dispatchCell_acted h hl (by rw [mode]; nofun) c
  · rename_i mode
    split
    · exact dispatchCell_acted h hl (by rw [mode]; nofun) c
    · split
      · exact statusCell_acted h hl (by rw [mode]; nofun) c
      · exact Acted.of_keep (r := false) h (Keeps.refl s) (Leads.refl s)

theorem arriveCell_acted (h : s.Tenancy [] none) (hl : l < 17) (bytes : List Byte) : Acted (arriveCell s l bytes) := by
  unfold arriveCell
  dsimp only
  have counted : (s.modCounters l fun n => { n with received := saturate Config.counter32 (n.received + 1) }).Tenancy
      [] none := h.keep (r := false) (Keeps.modCounters s l _) (Calm.modCounters s l _).leads
  split
  · exact checkedCell_acted counted hl _
  · exact Acted.of_keep (r := false) counted (Keeps.modLane (.of_eq rfl rfl rfl rfl rfl)) (Calm.modLane _ l _).leads

/-! ### Expiries (R37, R38, R41, R72, R81) -/

theorem silenceExpired_acted (h : s.Tenancy [] none) (hl : l < 17) : Acted (silenceExpired s l) := by
  have stopped := stopSilence_keeps s l
  have leads : Leads false s.placesAt s (stopSilence s l) := (Calm.modLane s l _).leads
  unfold silenceExpired
  dsimp only
  split
  · exact Acted.of_keep h (stopped.trans (parkedSilence_keeps _ l)) (leads.trans (parkedSilence_leads _ l))
  · split
    · obtain ⟨v, state, moving⟩ := losesLock_moving ‹_›
      obtain ⟨e, visits⟩ := h.visiting_of_state hl state moving
      exact ⟨endVisit_tenancy (h.keep stopped leads) ((stopped.lanes l).visiting.trans visits) _,
        List.nodup_singleton l, fun j hj => List.mem_singleton.1 hj ▸ hl⟩
    · exact Acted.of_keep h stopped leads
  · exact Acted.of_keep h stopped leads

theorem setInterval_acted (h : s.Tenancy [] none) (hl : l < 17) (ms : Nat) : Acted (setInterval s l ms) := by
  have set : Keeps s (s.modLane l fun n => n.intervalSet ms) := Keeps.modLane (.of_eq rfl rfl rfl rfl rfl)
  have leads : Leads false s.placesAt s (s.modLane l fun n => n.intervalSet ms) := (Calm.modLane s l _).leads
  unfold setInterval
  dsimp only
  split
  · exact silenceExpired_acted (h.keep set leads) hl
  · exact Acted.of_keep h set leads

/-- The retries of a parked lane's window end stand where the entry's lane is (R17). -/
theorem windowEnd_acted (h : s.Tenancy [] none) (hl : l < 17) (mode : (s.lane l).mode = .parked) :
    Acted (windowEnd s l, []) := by
  refine Acted.of_keep (r := false) h (windowEnd_keeps s l) (windowEnd_leads fun x hx lane state st hst => ?_)
  have scored : Leads false s.placesAt s (resetCounters (scoreLane s l) l) :=
    (scoreLane_leads s l).trans (resetCounters_leads _ l)
  obtain ⟨hd, placed⟩ := scored.placed h.ordered h.placed x hx
  rw [state, lane] at placed
  have parked : (s.entry x.2.entry).parkedLane = some l := by
    rcases placed.2 with parked | visited
    · exact parked
    · have visits := (h.visits_of_lane hd visited).2
      simp [Lane.visiting, (h.parker hl mode).1] at visits
  rcases hst with rfl | rfl
  · rw [State.boundState, if_neg (by rw [mode]; nofun)]
    exact ⟨hd, rfl, parked⟩
  · exact ⟨hd, rfl, .inl parked⟩

/-! ### Plan commands (R3, R4, R70) -/

/-- An entry's record is written with its lanes kept, and the prompt set shrinks or keeps it eligible. -/
theorem State.Tenancy.writeEntry {ls : List Nat} {out : Option Nat} (h : s.Tenancy ls out) (he : e < 63)
    {f : PlanEntry → PlanEntry} (parked : (f (s.entry e)).parkedLane = (s.entry e).parkedLane)
    (visited : (f (s.entry e)).visitingLane = (s.entry e).visitingLane) {ps : List Nat} (sub : ps.Sublist s.promptSet)
    (kept : e ∈ ps → (f (s.entry e)).surveyEnable = true ∧ (f (s.entry e)).tuningWord.isSome) :
    ({ s.modEntry e f with promptSet := ps } : State).Tenancy ls out := by
  obtain ⟨t, ht⟩ : ∃ t, t = ({ s.modEntry e f with promptSet := ps } : State) := ⟨_, rfl⟩
  have lanes : ∀ l, t.lane l = s.lane l := fun l => ht ▸ rfl
  have entryAt : ∀ d, t.entry d = if d = e then f (s.entry e) else s.entry d :=
    ht ▸ h.shaped.entry_modEntry (by omega) f
  have parkedAt : ∀ d, (t.entry d).parkedLane = (s.entry d).parkedLane := fun d => by
    rw [entryAt]
    split <;> simp [*]
  have visitedAt : ∀ d, (t.entry d).visitingLane = (s.entry d).visitingLane := fun d => by
    rw [entryAt]
    split <;> simp [*]
  have prompts : t.promptSet = ps := ht ▸ rfl
  have carriages : t.carriages = s.carriages := ht ▸ rfl
  have pointer : t.surveyPointer = s.surveyPointer := ht ▸ rfl
  have ordered : t.CatalogueOrdered := ht ▸ h.ordered
  have shaped : t.Shaped := ht ▸ (Calm.modEntry s e f).shaped h.shaped
  rw [← ht]
  refine ⟨ordered, shaped, fun l hl ho hc => lanes l ▸ h.between l hl ho hc, fun l hl ho hc => lanes l ▸ h.modes l hl ho hc,
    h.parked.congr parkedAt fun l => by simp only [State.parks, lanes],
    h.visited.congr visitedAt fun l => by simp only [State.visits, lanes],
    fun d hd => by rw [parkedAt, visitedAt]; exact h.apart d hd, (parkedAt 63).trans h.house, lanes 16 ▸ h.houseLane,
    pointer ▸ h.pointer, prompts ▸ h.rising.sublist sub, fun d hd => ?_, fun x hx => ?_⟩
  · rw [prompts] at hd
    obtain ⟨below, survey, word, free, unvisited⟩ := (eligible_iff s d).1 (h.prompts d (sub.subset hd))
    refine (eligible_iff t d).2 ⟨below, ?_, ?_, (parkedAt d).trans free, (visitedAt d).trans unvisited⟩
    · by_cases hde : d = e
      · subst hde
        simp [entryAt, (kept hd).1]
      · simpa [entryAt, hde] using survey
    · by_cases hde : d = e
      · subst hde
        simpa [entryAt] using (kept hd).2
      · simpa [entryAt, hde] using word
  · rw [carriages] at hx
    simpa only [State.placesAt, parkedAt, visitedAt] using h.placed x hx

theorem PlanEntry.set_fields (p : PlanEntry) (word : BitVec 64) (bias : Int) (survey : Bool) :
    (p.set word bias survey).parkedLane = p.parkedLane ∧ (p.set word bias survey).visitingLane = p.visitingLane ∧
      (p.set word bias survey).surveyEnable = survey ∧ (p.set word bias survey).tuningWord = some word := by
  unfold PlanEntry.set
  dsimp only
  split <;> exact ⟨rfl, rfl, rfl, rfl⟩

theorem setPlanEntryAct_tenancy (args : List Byte) (h : s.Tenancy [] none) :
    (setPlanEntryAct s args).state.Tenancy [] none := by
  unfold setPlanEntryAct
  dsimp only
  split
  · exact h
  · rename_i taken
    have below : byteAt args 0 < 63 := by
      unfold planRefusal at taken
      split at taken
      · cases taken
      · omega
    obtain ⟨parked, visited, survey, word⟩ := (s.entry (byteAt args 0)).set_fields
      (BitVec.ofNat 64 (numberAt args 1 8)) (clampInt (-100) 100 (signedAt args 9)) (choiceAt args 11)
    dsimp only
    refine closeWithClaims_tenancy ?_ s List.nodup_nil (by nofun)
    split
    · rename_i enabled
      exact h.writeEntry below parked visited (List.Sublist.refl s.promptSet) fun _ =>
        ⟨survey.trans enabled, by rw [word]; rfl⟩
    · exact h.writeEntry (ps := s.promptSet.filter (· ≠ byteAt args 0)) below parked visited List.filter_sublist
        fun hm => by simp at hm

theorem clearEntry_tenancy {ls : List Nat} (h : s.Tenancy ls none) (he : e < 63) (parked : (s.entry e).parkedLane = none)
    (visited : (s.entry e).visitingLane = none) : (clearEntry s e).Tenancy ls none := by
  have emptied : Within catalogueParts s ((s.entryCarriages e).foldl vanish s) :=
    Within.foldl _ (fun s c => vanish_within s c) _ s
  have keeps : Keeps s ((s.entryCarriages e).foldl vanish s) := Keeps.of_within emptied (by decide)
  have cleared := h.keep (r := false) keeps (Leads.foldl (fun s c => vanish_leads s c) _ s)
  exact cleared.writeEntry (f := fun _ => PlanEntry.fresh)
    (ps := ((s.entryCarriages e).foldl vanish s).promptSet.filter (· ≠ e)) he
    (((keeps.entries e).parkedLane.trans parked).symm) (((keeps.entries e).visitingLane.trans visited).symm)
    List.filter_sublist fun hm => by simp at hm

theorem clearPlanEntryAct_tenancy (args : List Byte) (h : s.Tenancy [] none) :
    (clearPlanEntryAct s args).state.Tenancy [] none := by
  unfold clearPlanEntryAct
  dsimp only
  split
  · exact h
  · rename_i taken
    dsimp only [answer]
    obtain ⟨below, free⟩ : byteAt args 0 < 63 ∧ (s.entry (byteAt args 0)).parkedLane = none := by
      unfold clearRefusal at taken
      split at taken
      · cases taken
      · split at taken
        · cases taken
        · rename_i small free
          exact ⟨by omega, Option.not_isSome_iff_eq_none.1 free⟩
    have left := unvisited_tenancy h (e := byteAt args 0) (by omega)
    have entry := unvisited_entry h (e := byteAt args 0) (by omega) (byteAt args 0)
    rw [if_pos rfl] at entry
    refine closeWithClaims_tenancy (clearEntry_tenancy left below (by rw [entry]; exact free) (by rw [entry])) s ?_ ?_
    · cases (s.entry (byteAt args 0)).visitingLane <;> simp
    · intro j hj
      have := (h.visits_of_lane (e := byteAt args 0) (by omega) (Option.mem_toList.1 hj)).1
      omega

theorem insertPrompt_mem (ps : List Nat) (e d : Nat) : d ∈ insertPrompt ps e ↔ d = e ∨ d ∈ ps := by
  induction ps with
  | nil => simp [insertPrompt]
  | cons a ps ih =>
    simp only [insertPrompt]
    split
    · simp [*]
    · split
      · simp
      · simp only [List.mem_cons, ih]
        tauto

theorem insertPrompt_rising {ps : List Nat} (e : Nat) (h : ps.Pairwise (· < ·)) :
    (insertPrompt ps e).Pairwise (· < ·) := by
  induction ps with
  | nil => simp [insertPrompt]
  | cons a ps ih =>
    obtain ⟨above, rest⟩ := List.pairwise_cons.1 h
    simp only [insertPrompt]
    split
    · exact h
    · split
      · refine List.pairwise_cons.2 ⟨fun b hb => ?_, h⟩
        rcases List.mem_cons.1 hb with rfl | hb
        · assumption
        · exact lt_trans ‹e < a› (above b hb)
      · refine List.pairwise_cons.2 ⟨fun b hb => ?_, ih rest⟩
        rcases (insertPrompt_mem ps e b).1 hb with rfl | hb
        · omega
        · exact above b hb

theorem joinPrompt_tenancy (h : s.Tenancy [] none) (e : Nat) : (joinPrompt s e).Tenancy [] none := by
  unfold joinPrompt
  split
  · rename_i joined
    have eligible : s.eligible e = true := by
      unfold State.promptOutcome at joined
      split at joined
      · cases joined
      · split at joined
        · assumption
        · cases joined
    exact { h with
      rising := insertPrompt_rising e h.rising
      prompts := fun d hd => by
        rcases (insertPrompt_mem s.promptSet e d).1 hd with rfl | hd
        · exact eligible
        · exact h.prompts d hd }
  all_goals exact h

/-! ### Lane commands (R5, R6, R26) -/

theorem laneRefusal_none (h : laneRefusal l = none) : l < 16 := by
  unfold laneRefusal at h
  split at h
  · cases h
  · split at h
    · cases h
    · have : Config.houseLane = 16 := rfl
      omega

theorem roveLaneAct_tenancy (args : List Byte) (h : s.Tenancy [] none) :
    (roveLaneAct s args).state.Tenancy [] none := by
  unfold roveLaneAct
  dsimp only
  split
  · exact h
  · dsimp only [answer]
    have feed := laneRefusal_none ‹_›
    have between : ∀ n : Lane, n.roving.Between := fun n => ⟨rfl, rfl, rfl, rfl, rfl, rfl⟩
    have roving : ((leaveLane s (byteAt args 0)).modLane (byteAt args 0) Lane.roving).Tenancy [byteAt args 0] none :=
      (leaveLane_tenancy h feed).settle feed (fun j hj => by simp [hj]) rfl rfl (fun _ => between _)
        fun hc => absurd (List.mem_singleton_self _) hc
    refine closeWithClaims_tenancy (roving.keep (r := false) (startSilence_keeps _ _) (Calm.modLane _ _ _).leads) s
      (List.nodup_singleton _) fun j hj => ?_
    have := List.mem_singleton.1 hj
    omega

theorem releaseLaneAct_tenancy (args : List Byte) (h : s.Tenancy [] none) :
    (releaseLaneAct s args).state.Tenancy [] none := by
  unfold releaseLaneAct
  dsimp only
  split
  · exact h
  · dsimp only [answer]
    have feed := laneRefusal_none ‹_›
    have released : (releaseRecord s (byteAt args 0)).Tenancy [] none :=
      (leaveLane_tenancy h feed).settle feed (fun _ _ => Iff.rfl) rfl rfl (by nofun)
        fun _ => Lane.modeLawful_of_idle rfl rfl rfl
    exact closeWithClaims_tenancy released s List.nodup_nil (by nofun)

theorem setLaneAct_tenancy (args : List Byte) (h : s.Tenancy [] none) : (setLaneAct s args).state.Tenancy [] none := by
  unfold setLaneAct
  dsimp only
  split
  · exact h
  · have feed := laneRefusal_none ‹_›
    exact (setInterval_acted h (by omega) _).close s

/-- What PARK LANE's checks leave: a feed lane, and an entry 0..62 that no other lane parks on. -/
theorem parkRefusal_none (h : s.Tenancy [] none) (taken : parkRefusal s l e = none) :
    l < 16 ∧ e < 63 ∧ ((s.entry e).parkedLane = none ∨ (s.entry e).parkedLane = some l) := by
  unfold parkRefusal at taken
  split at taken
  · cases taken
  · have feed := laneRefusal_none ‹_›
    split at taken
    · cases taken
    · rename_i small
      split at taken
      · cases taken
      · split at taken
        · cases taken
        · rename_i free
          simp only [Bool.and_eq_true, decide_eq_true_eq, not_and, not_not, Option.isSome_iff_ne_none] at free
          have own : (s.entry e).parkedLane = none ∨ (s.entry e).parkedLane = some l := by
            by_cases none : (s.entry e).parkedLane = none
            · exact .inl none
            · exact .inr (free none)
          have house : e ≠ 63 := by
            rintro rfl
            rw [h.house] at own
            rcases own with none | some
            · cases none
            · have := Option.some.inj some
              omega
          have : Config.houseEntry = 63 := rfl
          exact ⟨feed, by omega, own⟩

/-- The claim of a park and the lane record it writes, before the carriages bind. -/
theorem parkClaim_tenancy (h : s.Tenancy [] none) (feed : l < 16) (he : e < 63)
    (own : (s.entry e).parkedLane = none ∨ (s.entry e).parkedLane = some l) :
    ((parkClaim s l e).modLane l fun n => n.parkedOn e).Tenancy (parkClaimants s l e) none := by
  have left := unvisited_tenancy h (e := e) (by omega)
  have vacated := leaveLane_tenancy left feed
  have entry := leaveLane_entry left (l := l) (by omega) (d := e) (by omega)
  have before := unvisited_entry h (e := e) (by omega) e
  rw [if_pos rfl] at before
  refine vacated.park (e := e) feed he (fun j hj => ?_) ?_ ?_ ?_ rfl rfl (Lane.modeLawful_of_parked rfl rfl (by omega) rfl)
  · simp [parkClaimants, hj]
  · simp [parkClaimants]
  · rw [entry, before]
    rcases own with free | free <;> simp [free]
  · rw [entry, before]
    simp

theorem parkRecord_tenancy (h : s.Tenancy [] none) (feed : l < 16) (he : e < 63)
    (own : (s.entry e).parkedLane = none ∨ (s.entry e).parkedLane = some l) :
    (parkRecord (parkClaim s l e) l e).Tenancy (parkClaimants s l e) none := by
  have claimed := parkClaim_tenancy h feed he own
  obtain ⟨u, hu⟩ : ∃ u, u = (parkClaim s l e).modLane l fun n => n.parkedOn e := ⟨_, rfl⟩
  have lane : u.lane l = ((parkClaim s l e).lane l).parkedOn e := by
    have lanes := (parkClaim_leads (r := false) (B := anyBind) s l e).shaped h.ordered h.shaped
    rw [hu, lanes.lane_modLane (by omega), if_pos rfl]
  rw [← hu] at claimed
  have mode : (u.lane l).mode = .parked := by rw [lane]; rfl
  obtain ⟨rover, -, d, -, entry, parked⟩ := claimed.parker (l := l) (by omega) mode
  obtain rfl : d = e := by
    rw [lane] at entry
    exact (Option.some.inj entry).symm
  have bound : (bindParked u l d).Tenancy (parkClaimants s l d) none := by
    refine claimed.keep (r := false) (Keeps.of_within (bindParked_within u l d) (by decide))
      (bindParked_leads fun st hst => ?_)
    rcases hst with rfl | rfl
    · rw [State.boundState, if_neg (by rw [mode]; nofun)]
      exact ⟨by omega, rfl, parked⟩
    · exact ⟨by omega, rfl, .inl parked⟩
  have bare : ((bindParked u l d).lane l).rover = none :=
    ((Keeps.of_within (bindParked_within u l d) (by decide) : Keeps u _).lanes l).rover_none rover
  rw [parkRecord, ← hu]
  exact bound.keep (r := false) ((((sendTune_keeps bare d).trans (startLock_keeps _ l)).trans
    (startSilence_keeps _ l)).trans (startWindow_keeps _ l))
    ((((Calm.modLane _ l _).trans (Calm.modLane _ l _)).trans (Calm.modLane _ l _)).trans (Calm.modLane _ l _)).leads

theorem parkLaneAct_tenancy (args : List Byte) (h : s.Tenancy [] none) :
    (parkLaneAct s args).state.Tenancy [] none := by
  unfold parkLaneAct
  dsimp only
  split
  · exact h
  · dsimp only [answer]
    obtain ⟨feed, he, own⟩ := parkRefusal_none h ‹_›
    refine closeWithClaims_tenancy (parkRecord_tenancy h feed he own) s ?_ fun j hj => ?_
    · refine List.Nodup.filter _ ?_
      cases (s.entry (byteAt args 1)).visitingLane <;> simp
    · have := (h.visits_of_lane (e := byteAt args 1) (by omega) (Option.mem_toList.1 (List.mem_filter.1 hj).1)).1
      omega

end

end Sys2Proof.Machine
end

section
namespace Sys2Proof.Machine

open Sys2Proof Host

/-! ## Every step keeps the laws of tenancy -/

theorem State.Fresh.shaped {t : State} (h : t.Fresh) : t.Shaped := h.lineupLawful.1

theorem State.Fresh.tenancy {t : State} (h : t.Fresh) : t.Tenancy [] none := by
  have entry : ∀ e, t.entry e = State.reset.entry e := fun e => by simp only [State.entry, h.entries]
  have lane : ∀ l, t.lane l = State.reset.lane l := fun l => by simp only [State.lane, h.lanes]
  have parked : ∀ e < 64, (t.entry e).parkedLane = if e = 63 then some 16 else none := by
    simp only [entry]
    decide
  have visited : ∀ e < 64, (t.entry e).visitingLane = none := by
    simp only [entry]
    decide
  have records : ∀ l, (t.lane l).entry = (if l = 16 then some 63 else none) ∧ (t.lane l).rover = none ∧
      (t.lane l).mode = if l = 16 then .parked else .idle := by
    intro l
    by_cases hl : l < 17
    · rw [lane]
      revert l
      decide
    · have : t.lane l = Lane.fresh := by
        rw [lane, State.lane, List.getD, List.getElem?_eq_none (show State.reset.lanes.length ≤ l from by
          have : State.reset.lanes.length = 17 := by decide
          omega)]
        rfl
      rw [this, if_neg (by omega), if_neg (by omega)]
      exact ⟨rfl, rfl, rfl⟩
  refine ⟨h.catalogueOrdered, h.shaped, by nofun, fun l hl _ _ => ?_, fun e he l => ?_, fun e he l => ?_,
    fun e he => .inr (visited e he), by rw [parked 63 (by omega)]; rfl, (records 16).2.1, by simp [h.pointer],
    by simp [h.prompts], by simp [h.prompts], by simp [State.AllPlaced, h.carriages]⟩
  · obtain ⟨held, rover, mode⟩ := records l
    by_cases house : l = 16
    · subst house
      exact Lane.modeLawful_of_parked mode held (by omega) rover
    · rw [if_neg house] at mode held
      exact Lane.modeLawful_of_idle mode held rover
  · simp only [State.parks, (records l).1, parked e he, reduceCtorEq, if_false]
    by_cases house : e = 63
    · subst house
      by_cases hl : l = 16
      · simp [hl]
      · simp [hl, Ne.symm hl]
    · by_cases hl : l = 16
      · simp [hl, house, Ne.symm house]
      · simp [hl, house]
  · simp [State.visits, Lane.visiting, (records l).2.1, visited e he]

/-- Every row keeps the laws of tenancy. -/
theorem exec_tenancy {i : Instr} {s t : State} (hs : s.Tenancy [] none) (h : exec i s = .next t) :
    t.Tenancy [] none := by
  have house : ∀ {l : Nat}, ¬ Config.houseLane < l → l < 17 := fun hl => by
    have : Config.houseLane = 16 := rfl
    omega
  have still : ∀ (u : State) (b : Bool), Concludes b u.placesAt u u := fun u _ => Concludes.refl u
  cases i <;> simp only [exec] at h
  case powerOn pins => injection h with h; exact h ▸ (fullReset_fresh s pins).tenancy
  case resetPin =>
    injection h with h
    subst h
    exact State.Fresh.tenancy ⟨rfl, rfl, rfl, rfl, rfl, rfl, rfl, rfl, rfl, rfl, rfl⟩
  case resetPinRelease pins =>
    injection h with h
    subst h
    split
    · exact State.Fresh.tenancy ⟨rfl, rfl, rfl, rfl, rfl, rfl, rfl, rfl, rfl, rfl, rfl⟩
    · exact hs
  case restart pins =>
    unfold execRestart at h
    split at h
    · injection h with h; exact h ▸ hs
    · split at h
      · injection h with h
        subst h
        split
        · exact State.Fresh.tenancy ⟨rfl, rfl, rfl, rfl, rfl, rfl, rfl, rfl, rfl, rfl, rfl⟩
        · exact hs.keep (r := false) (Keeps.of_within (noteRestart_within s) (by decide)) (noteRestart_calm s).leads
      · injection h with h; exact h ▸ hs
  case cellArrival lane cell =>
    unfold execCellArrival at h
    split at h
    · cases h
    · rw [next_of_check h]
      exact event_tenancy hs fun _ => arriveCell_acted hs (house ‹_›) cell
  case orderCellSend lane =>
    rw [next_of_check h]
    split
    · have order : Keeps s (s.modLane lane fun n =>
          { n with returnOut := some (cellToBytes (returnPathCell n (Config.returnHeader s.freeCount)))
                   pendingOrder := none }) := Keeps.modLane (.of_eq rfl rfl rfl rfl rfl)
      exact hs.keep (r := false) (order.trans (Keeps.of_eq rfl rfl rfl rfl)) (sendReturnCell_calm s lane).leads
    · exact hs
  case lockTimeout lane =>
    unfold execLockTimeout at h
    split at h
    · cases h
    · injection h with h
      subst h
      refine event_tenancy hs fun due => ?_
      simp only [State.lockDue, Bool.and_eq_true, decide_eq_true_eq] at due
      exact Acted.of_keep (r := false) hs (lockExpired_keeps (hs.parker (house ‹_›) due.1.1).1) (lockExpired_leads s lane)
  case silenceExpiry lane =>
    unfold execSilenceExpiry at h
    split at h
    · cases h
    · injection h with h
      exact h ▸ event_tenancy hs fun _ => silenceExpired_acted hs (house ‹_›)
  case stallExpiry c =>
    rw [next_of_check h]
    exact event_tenancy hs fun _ => Acted.of_keep (r := false) hs
      (Keeps.of_within (stallCarriage_within s c) (by decide)) (stallCarriage_leads s c)
  case windowEnd lane =>
    unfold execWindowEnd at h
    split at h
    · cases h
    · injection h with h
      subst h
      refine event_tenancy hs fun due => ?_
      simp only [State.windowDue, Bool.and_eq_true, decide_eq_true_eq] at due
      exact windowEnd_acted hs (house ‹_›) due.1
  case visitLockTimeout lane =>
    unfold execVisitLockTimeout at h
    split at h
    · cases h
    · injection h with h
      subst h
      refine event_tenancy hs fun due => ?_
      simp only [State.visitDue, Bool.and_eq_true, decide_eq_true_eq] at due
      exact Acted.of_visit hs due.1 (by nofun) (house ‹_›) _
  case settleExpiry lane =>
    rw [next_of_check h]
    refine quietEvent_tenancy hs (fun due => ?_) fun _ => enterDwelling_calm s lane
    simp only [State.visitDue, Bool.and_eq_true, decide_eq_true_eq] at due
    exact enterDwelling_keeps (Lane.moving_of_state due.1 (by nofun))
  case dwellEnd lane =>
    unfold execDwellEnd at h
    split at h
    · cases h
    · injection h with h
      subst h
      refine event_tenancy hs fun due => ?_
      simp only [State.visitDue, Bool.and_eq_true, decide_eq_true_eq] at due
      exact Acted.of_visit hs due.1 (by nofun) (house ‹_›) _
  case changeoverTimeout k =>
    rw [next_of_check h]
    refine quietEvent_tenancy hs (fun _ => Keeps.of_eq rfl rfl rfl rfl) fun due => ?_
    exact armedExpired_calm (slotDue_live due (by nofun))
  case splicingTimeout k =>
    rw [next_of_check h]
    refine quietEvent_tenancy hs (fun _ => Keeps.of_within (endSplice_within s k) (by decide)) fun due => ?_
    exact endSplice_calm (slotDue_live due (by nofun))
  all_goals
    injection h with h
    subst h
  case directoryPeriodExpiry =>
    refine quietEvent_tenancy hs (fun _ => ?_) fun _ => ?_
    · exact (Keeps.of_within (directoryPeriod_within s) (by decide)).trans (Keeps.of_eq rfl rfl rfl rfl)
    · exact (Calm.of_within (directoryPeriod_within s) (by decide)).trans (store_calm _ _)
  case cellOpportunity =>
    refine quietEvent_tenancy hs (fun _ => ?_) fun _ => ?_
    · exact (Keeps.of_within (serve_within s _) (by decide)).trans
        (Keeps.of_within (advanceSchedule_within _) (by decide))
    · exact (serve_calm s _).trans (Calm.of_within (advanceSchedule_within _) (by decide))
  case noticePlaced =>
    exact quietEvent_tenancy hs (fun _ => Keeps.of_eq rfl rfl rfl rfl) fun _ => (store_calm s _).trans (mgmt_calm _ _)
  case unknownCommand => exact takeIf_keep (r := false) hs (fun u _ => Keeps.refl u) fun u _ => still u _
  case setPolicy => exact takeIf_keep (r := false) hs setPolicyAct_keeps fun u args => setPolicyAct_concludes u args
  case setSurvey =>
    exact takeIf_keep (r := false) hs (fun _ _ => Keeps.of_eq rfl rfl rfl rfl) fun u _ =>
      (settings_calm u u.policy _ u.output u.store).concludes
  case setOutput =>
    exact takeIf_keep (r := false) hs (fun _ _ => Keeps.of_eq rfl rfl rfl rfl) fun u _ =>
      (settings_calm u u.policy u.survey _ _).concludes
  case setPlanEntry => exact takeIf_tenancy hs fun _ args hu => setPlanEntryAct_tenancy args hu
  case clearPlanEntry => exact takeIf_tenancy hs fun _ args hu => clearPlanEntryAct_tenancy args hu
  case parkLane => exact takeIf_tenancy hs fun _ args hu => parkLaneAct_tenancy args hu
  case roveLane => exact takeIf_tenancy hs fun _ args hu => roveLaneAct_tenancy args hu
  case releaseLane => exact takeIf_tenancy hs fun _ args hu => releaseLaneAct_tenancy args hu
  case setLane => exact takeIf_tenancy hs fun _ args hu => setLaneAct_tenancy args hu
  case setSlot => exact takeIf_keep hs setSlotAct_keeps fun u args => setSlotAct_concludes u args
  case clearSlot => exact takeIf_keep hs clearSlotAct_keeps fun u args => clearSlotAct_concludes u args
  case exchangeSlots => exact takeIf_keep hs exchangeSlotsAct_keeps fun u args => exchangeSlotsAct_concludes u args
  case pinService => exact takeIf_keep (r := false) hs pinServiceAct_keeps fun u args => pinServiceAct_concludes u args
  case setWatch => exact takeIf_keep (r := false) hs setWatchAct_keeps fun u args => setWatchAct_concludes u args
  case promptSurvey => exact takeIf_tenancy hs fun _ _ hu => joinPrompt_tenancy hu _
  case readLane =>
    exact takeIf_keep (r := false) hs readLaneAct_keeps fun u args => (readLaneAct_calm u args).concludes
  case readPlanEntry =>
    exact takeIf_keep (r := false) hs (fun u args => by rw [readPlanEntryAct_state]; exact Keeps.refl u) fun u args => by
      rw [readPlanEntryAct_state]; exact Concludes.refl u
  case readService => exact takeIf_keep (r := false) hs readServiceAct_keeps fun u args => readServiceAct_concludes u args
  case readCarriage =>
    exact takeIf_keep (r := false) hs readCarriageAct_keeps fun u args => readCarriageAct_concludes u args
  case readSlot =>
    exact takeIf_keep (r := false) hs readSlotAct_keeps fun u args => (readSlotAct_calm u args).concludes
  case flushCarriage =>
    exact takeIf_keep (r := false) hs flushCarriageAct_keeps fun u args => flushCarriageAct_concludes u args
  case forgetCarriage =>
    exact takeIf_keep (r := false) hs forgetCarriageAct_keeps fun u args => forgetCarriageAct_concludes u args
  case readNotices =>
    exact takeIf_keep (r := false) hs (fun _ _ => Keeps.of_eq rfl rfl rfl rfl) fun u _ => (clearCounts_calm u).concludes
  case readDiscoveryLog =>
    exact takeIf_keep (r := false) hs (fun _ _ => Keeps.of_eq rfl rfl rfl rfl) fun u _ => (drainLog_calm u).concludes
  case listServices =>
    exact takeIf_keep (r := false) hs (fun u args => by rw [listServicesAct_state]; exact Keeps.refl u) fun u args => by
      rw [listServicesAct_state]; exact Concludes.refl u
  case listCarriages =>
    exact takeIf_keep (r := false) hs listCarriagesAct_keeps fun u args => listCarriagesAct_concludes u args

theorem idle_keeps (s : State) : Keeps s (idle s) := by
  unfold idle
  split
  · exact Keeps.refl s
  · split <;> exact Keeps.of_eq rfl rfl rfl rfl

theorem step_tenancy {s t : State} (hs : s.Tenancy [] none) (h : step s = .next t) : t.Tenancy [] none := by
  unfold step at h
  split at h
  · injection h with h
    exact h ▸ hs.keep (r := false) (idle_keeps s) (idle_calm s).leads
  · rename_i i rest _
    have queued : ({ s with pending := rest } : State).Tenancy [] none :=
      hs.keep (r := false) (Keeps.of_eq rfl rfl rfl rfl) (pending_calm s rest).leads
    exact exec_tenancy queued h

end Sys2Proof.Machine

open Sys2Proof Sys2Proof.Machine Host

/-- Settles O13: every act keeps the laws of tenancy, in which a lane whose visit has ended claims only as the act
closes; a full reset meets them. -/
theorem noEntryIsHeldTwice : Obligations.NoEntryIsHeldTwice := by
  intro s t ordered lawful h
  exact ((tenancy_iff t).1 (step_tenancy ((tenancy_iff s).2 ⟨ordered, lawful⟩) h)).2

end

section
namespace Sys2Proof.Machine

open Sys2Proof Host

/-! ## The discovery log (R63, R188) -/

/-- The records `rs` join the log, as many as there are places for, and the rest is lost with the overflow flag set. -/
structure Logs (s t : State) (rs : List DiscoveryRecord) : Prop where
  log : t.mgmt.log = s.mgmt.log ++ rs.take (32 - s.mgmt.log.length)
  overflow : t.mgmt.overflow = (s.mgmt.overflow || decide (32 - s.mgmt.log.length < rs.length))

theorem Logs.refl (s : State) : Logs s s [] := ⟨by simp, by simp⟩

theorem Logs.of_eq {s t : State} (log : t.mgmt.log = s.mgmt.log) (overflow : t.mgmt.overflow = s.mgmt.overflow) :
    Logs s t [] := ⟨by simp [log], by simp [overflow]⟩

theorem Logs.of_within {ps : List Part} {s t : State} (h : Within ps s t) (hp : Part.log ∉ ps) : Logs s t [] :=
  Logs.of_eq (h .log hp).1 (h .log hp).2

theorem Logs.trans {s t u : State} {rs qs : List DiscoveryRecord} (h : Logs s t rs) (g : Logs t u qs) :
    Logs s u (rs ++ qs) := by
  have places : 32 - t.mgmt.log.length = 32 - s.mgmt.log.length - rs.length := by
    simp only [h.log, List.length_append, List.length_take]
    omega
  constructor
  · rw [g.log, h.log, List.append_assoc, List.take_append, ← h.log, places]
  · rw [g.overflow, h.overflow, places, Bool.or_assoc, List.length_append]
    congr 1
    rw [← Bool.decide_or]
    exact decide_eq_decide.2 (by omega)

theorem Logs.congr {s t : State} {rs qs : List DiscoveryRecord} (h : Logs s t rs) (same : rs = qs) : Logs s t qs :=
  same ▸ h

theorem Logs.trans_nil {s t u : State} {rs : List DiscoveryRecord} (h : Logs s t rs) (g : Logs t u []) : Logs s u rs := by
  simpa using h.trans g

theorem Logs.nil_trans {s t u : State} {rs : List DiscoveryRecord} (h : Logs s t []) (g : Logs t u rs) : Logs s u rs := by
  simpa using h.trans g

theorem writeRecord_logs (s : State) (kind : RecordKind) (e : Nat) (key : Key) (c : Option Nat) :
    Logs s (writeRecord s kind e key c)
      [{ kind := kind, entry := e, key := key, carriage := c, time := s.clock }] := by
  have places : Config.logPlaces = 32 := rfl
  unfold writeRecord
  by_cases room : s.mgmt.log.length < Config.logPlaces
  · rw [if_pos room]
    have some : ¬ 32 - s.mgmt.log.length < 1 := by omega
    exact ⟨by rw [List.take_of_length_le (by simp; omega)], by simp [some]⟩
  · rw [if_neg room]
    have none : 32 - s.mgmt.log.length = 0 := by omega
    exact ⟨by simp [none], by simp [none]⟩

theorem offerRecord_logs (s : State) (kind : RecordKind) (e : Nat) (key : Key) (c : Nat) :
    Logs s (offerRecord s kind e key c)
      (if s.keyRecorded key then [{ kind := kind, entry := e, key := key, carriage := some c, time := s.clock }]
        else []) := by
  unfold offerRecord
  split
  · exact writeRecord_logs s kind e key (some c)
  · exact Logs.refl s

/-! ### What the records' condition depends on -/

theorem slotRefsOf_of_services {s t : State} (h : t.services = s.services) (key : Key) :
    t.slotRefsOf key = s.slotRefsOf key := by
  simp only [State.slotRefsOf, State.service, h]

theorem freeIfUnheld_slotRefsOf (s : State) (key k : Key) : (freeIfUnheld s key).slotRefsOf k = s.slotRefsOf k := by
  rcases freeIfUnheld_cases s key with h | ⟨unheld, h⟩ <;> rw [h]
  simp only [State.slotRefsOf, State.service, List.find?_filter]
  by_cases hk : k = key
  · subst hk
    have gone : s.services.find? (fun x => decide (decide (x.2.key ≠ k) = true ∧ decide (x.2.key = k) = true)) = none := by
      simp
    rw [gone]
    cases found : s.services.find? fun x => decide (x.2.key = k) with
    | none => rfl
    | some x =>
      have := ((held_eq_false unheld).2.1 x.2 (by simp [State.service, found])).1
      simp [this]
  · refine congrArg (fun p => ((Option.map Prod.snd (s.services.find? p)).map (·.slotRefs)).getD 0)
      (funext fun x => ?_)
    by_cases hx : x.2.key = k
    · simp [hx, hk]
    · simp [hx]

theorem modService_slotRefsOf (s : State) (key k : Key) (f : Service → Service) (same : ∀ v, (f v).key = v.key)
    (refs : ∀ v, (f v).slotRefs = v.slotRefs) : (s.modService key f).slotRefsOf k = s.slotRefsOf k := by
  simp only [State.slotRefsOf]
  by_cases hk : k = key
  · subst hk
    rw [State.service_modService s k f same]
    cases s.service k with
    | none => rfl
    | some v => simp [refs]
  · rw [State.service_modService_other s key k f same (Ne.symm hk)]

theorem keyRecorded_of_eq {s t : State} (output : t.output = s.output) (watch : t.watch = s.watch)
    (refs : ∀ k, t.slotRefsOf k = s.slotRefsOf k) (key : Key) : t.keyRecorded key = s.keyRecorded key := by
  simp only [State.keyRecorded, State.watched, output, watch, refs]

theorem removeCarriage_slotRefsOf (s : State) (c : Nat) (k : Key) :
    (removeCarriage s c).slotRefsOf k = s.slotRefsOf k := by
  cases found : s.carriage c with
  | none => rw [removeCarriage_none found]
  | some x =>
    rw [removeCarriage_some found, slotRefsOf_of_services (State.hand_services ..), freeIfUnheld_slotRefsOf,
      slotRefsOf_of_services (removed_services s c x)]
    exact modService_slotRefsOf s _ k _ (fun _ => rfl) fun _ => rfl

theorem vanish_none {s : State} {c : Nat} (h : s.carriage c = none) : vanish s c = s := by simp [vanish, h]

theorem vanish_some {s : State} {c : Nat} {x : Carriage} (h : s.carriage c = some x) :
    vanish s c = removeCarriage (offerRecord s .vanished x.entry x.service c) c := by simp [vanish, h]

theorem offerRecord_carriage (s : State) (kind : RecordKind) (e : Nat) (key : Key) (c d : Nat) :
    (offerRecord s kind e key c).carriage d = s.carriage d := by
  have : (offerRecord s kind e key c).carriages = s.carriages := offerRecord_within s kind e key c .carriages (by decide)
  rw [State.carriage, this]
  rfl

theorem vanish_slotRefsOf (s : State) (c : Nat) (k : Key) : (vanish s c).slotRefsOf k = s.slotRefsOf k := by
  cases found : s.carriage c with
  | none => rw [vanish_none found]
  | some x =>
    rw [vanish_some found, removeCarriage_slotRefsOf]
    exact slotRefsOf_of_services (offerRecord_within s _ _ _ _ .services (by decide)) k

theorem vanish_keyRecorded (s : State) (c : Nat) (key : Key) : (vanish s c).keyRecorded key = s.keyRecorded key :=
  keyRecorded_of_eq (vanish_within s c .output (by decide)) (vanish_within s c .watch (by decide))
    (vanish_slotRefsOf s c) key

/-! ### Removals with their records (R60, R63) -/

theorem vanish_carriages {s : State} (ordered : s.CatalogueOrdered) (c : Nat) :
    (vanish s c).carriages = tableErase s.carriages c := by
  cases found : s.carriage c with
  | none =>
    rw [vanish_none found, tableErase, List.filter_eq_self.2]
    exact fun x hx => by simpa using tableGet_eq_none.1 found x hx
  | some x =>
    have same : (offerRecord s .vanished x.entry x.service c).carriages = s.carriages :=
      offerRecord_within s _ _ _ _ .carriages (by decide)
    rw [vanish_some found, removeCarriage_carriages (by rw [same]; exact ordered.carriages_ordered)
      ((offerRecord_carriage ..).trans found), same]

theorem vanish_own (s : State) (c d : Nat) (ordered : s.CatalogueOrdered) (h : d ≠ c) :
    (vanish s c).carriage d = s.carriage d := by
  rw [State.carriage, vanish_carriages ordered, tableGet_erase_other _ (Ne.symm h)]
  rfl

theorem vanish_ordered {s : State} (c : Nat) (ordered : s.CatalogueOrdered) : (vanish s c).CatalogueOrdered :=
  (vanish_leads (r := false) (B := anyBind) s c).ordered ordered

theorem foldl_vanish_carriages {s : State} (ordered : s.CatalogueOrdered) (cs : List Nat) :
    (cs.foldl vanish s).carriages = s.carriages.filter fun x => decide (x.1 ∉ cs) := by
  induction cs generalizing s with
  | nil => simp
  | cons c cs ih =>
    rw [List.foldl_cons, ih (vanish_ordered c ordered), vanish_carriages ordered, tableErase, List.filter_filter]
    refine List.filter_congr fun x _ => ?_
    by_cases hc : x.1 = c <;> simp [hc]

/-- Removing the carriages that `p` picks leaves the others. -/
theorem vanishWhere_carriages {s : State} (ordered : s.CatalogueOrdered) (p : Carriage → Bool) :
    ((s.carriagesWhere p).foldl vanish s).carriages = s.carriages.filter fun x => !p x.2 := by
  rw [foldl_vanish_carriages ordered]
  refine List.filter_congr fun x hx => ?_
  have : x.1 ∈ s.carriagesWhere p ↔ p x.2 = true := by
    rw [mem_carriagesWhere ordered.carriages_ordered]
    constructor
    · rintro ⟨y, hy, hp⟩
      rw [ordered.carriage_of_mem hx] at hy
      rwa [Option.some.inj hy]
    · exact fun hp => ⟨x.2, ordered.carriage_of_mem hx, hp⟩
  simp [this]

/-- The record of a removal, if its key is recorded (R63). -/
def State.vanishRecord (s : State) (c : Nat) : Option DiscoveryRecord :=
  (s.carriage c).bind fun x =>
    if s.keyRecorded x.service then
      some { kind := .vanished, entry := x.entry, key := x.service, carriage := some c, time := s.clock }
    else none

theorem vanish_logs (s : State) (c : Nat) : Logs s (vanish s c) (s.vanishRecord c).toList := by
  cases found : s.carriage c with
  | none =>
    rw [vanish_none found, State.vanishRecord, found]
    exact Logs.refl s
  | some x =>
    have offered := offerRecord_logs s .vanished x.entry x.service c
    have removal : Logs _ (removeCarriage (offerRecord s .vanished x.entry x.service c) c) [] :=
      Logs.of_within (removeCarriage_within _ c) (by decide)
    rw [vanish_some found]
    refine (offered.trans_nil removal).congr ?_
    simp only [State.vanishRecord, found, Option.bind_some]
    split <;> rfl

theorem vanish_vanishRecord {s : State} (ordered : s.CatalogueOrdered) {c d : Nat} (h : d ≠ c) :
    (vanish s c).vanishRecord d = s.vanishRecord d := by
  have clock : (vanish s c).clock = s.clock := vanish_within s c .clock (by decide)
  simp only [State.vanishRecord, vanish_own s c d ordered h, vanish_keyRecorded, clock]

theorem foldl_vanish_logs {s : State} (ordered : s.CatalogueOrdered) {cs : List Nat} (nodup : cs.Nodup) :
    Logs s (cs.foldl vanish s) (cs.filterMap s.vanishRecord) := by
  induction cs generalizing s with
  | nil => exact Logs.refl s
  | cons c cs ih =>
    obtain ⟨new, nodup'⟩ := List.nodup_cons.1 nodup
    have rest := ih (vanish_ordered c ordered) nodup'
    have same : ∀ d ∈ cs, (vanish s c).vanishRecord d = s.vanishRecord d := fun d hd =>
      vanish_vanishRecord ordered fun e => new (e ▸ hd)
    rw [List.filterMap_congr same] at rest
    refine ((vanish_logs s c).trans rest).congr ?_
    cases h : s.vanishRecord c <;> simp [h]

/-- The records of the removals of the carriages that `p` picks. -/
theorem filterMap_vanishRecord {s : State} (ordered : s.CatalogueOrdered) (p : Carriage → Bool) :
    (s.carriagesWhere p).filterMap s.vanishRecord =
      (s.carriages.filter fun x => p x.2 && s.keyRecorded x.2.service).map fun x =>
        { kind := .vanished, entry := x.2.entry, key := x.2.service, carriage := some x.1, time := s.clock } := by
  rw [State.carriagesWhere, List.filterMap_map, ← List.filterMap_eq_map, List.filterMap_filter, List.filterMap_filter]
  refine List.filterMap_congr fun x hx => ?_
  simp only [Function.comp_apply, State.vanishRecord, ordered.carriage_of_mem hx, Option.bind_some]
  by_cases hp : p x.2 = true <;> by_cases hr : s.keyRecorded x.2.service = true <;> simp [hp, hr]

end Sys2Proof.Machine
end

section
namespace Sys2Proof.Machine

open Sys2Proof Host

/-! ## What claims leave (R69, R71) -/

/-- What claims leave: every lane that is not roving, every entry but for the lane that visits it, and every entry that
is not eligible. -/
structure ClaimsLeave (s t : State) : Prop where
  modes : ∀ j, (t.lane j).mode = (s.lane j).mode
  lanes : ∀ j, (s.lane j).mode ≠ .roving → t.lane j = s.lane j
  entries : ∀ d, ({ t.entry d with visitingLane := none } : PlanEntry) = { s.entry d with visitingLane := none }
  held : ∀ d, s.eligible d = false → t.entry d = s.entry d
  prompts : ∀ d ∈ t.promptSet, d ∈ s.promptSet

theorem ClaimsLeave.refl (s : State) : ClaimsLeave s s := ⟨fun _ => rfl, fun _ _ => rfl, fun _ => rfl, fun _ _ => rfl, fun _ => id⟩

theorem eligible_of_entry {s t : State} {d : Nat} (h : t.entry d = s.entry d) : t.eligible d = s.eligible d := by
  simp only [State.eligible, h]

theorem ClaimsLeave.trans {s t u : State} (h : ClaimsLeave s t) (g : ClaimsLeave t u) : ClaimsLeave s u where
  modes := fun j => (g.modes j).trans (h.modes j)
  lanes := fun j hj => (g.lanes j (by rwa [h.modes])).trans (h.lanes j hj)
  entries := fun d => (g.entries d).trans (h.entries d)
  held := fun d hd => by
    have same := h.held d hd
    exact (g.held d ((eligible_of_entry same).trans hd)).trans same
  prompts := fun d hd => h.prompts d (g.prompts d hd)

theorem ClaimsLeave.of_eq {s t : State} (entries : t.entries = s.entries) (lanes : t.lanes = s.lanes)
    (prompts : t.promptSet = s.promptSet) : ClaimsLeave s t := by
  have lane : ∀ j, t.lane j = s.lane j := fun j => by simp only [State.lane, lanes]
  have entry : ∀ d, t.entry d = s.entry d := fun d => by simp only [State.entry, entries]
  exact ⟨fun j => by rw [lane], fun j _ => lane j, fun d => by rw [entry], fun d _ => entry d, fun d hd => prompts ▸ hd⟩

section

variable {ls : List Nat} {s : State} {l e : Nat}

theorem takeEntry_claimsLeave (h : s.Tenancy (l :: ls) none) (hl : l < 17) (eligible : s.eligible e = true) :
    ClaimsLeave s (takeEntry s l e) := by
  have roving := (h.between l hl (by nofun) (List.mem_cons_self ..)).mode
  have below := ((eligible_iff s e).1 eligible).1
  have laneAt := takeEntry_lane h.shaped hl e
  have entryAt : ∀ d, (takeEntry s l e).entry d = if d = e then { s.entry e with visitingLane := some l } else s.entry d :=
    h.shaped.entry_modEntry (by omega) _
  refine ⟨fun j => ?_, fun j hj => ?_, fun d => ?_, fun d hd => ?_, fun d hd => (List.mem_filter.1 hd).1⟩
  · rw [laneAt]
    split
    · subst_vars
      rfl
    · rfl
  · rw [laneAt, if_neg]
    rintro rfl
    exact hj roving
  · rw [entryAt]
    split <;> simp [*]
  · refine (entryAt d).trans (if_neg fun same => ?_)
    rw [same, eligible] at hd
    cases hd

theorem pauseLane_claimsLeave (roving : (s.lane l).mode = .roving) : ClaimsLeave s (pauseLane s l) := by
  refine ⟨fun j => lane_modLane_keeps (fun n => n.mode) (by intro; rfl) j, fun j hj => ?_, fun _ => rfl, fun _ _ => rfl,
    fun _ => id⟩
  exact s.lane_modLane_other l j _ fun same => hj (same ▸ roving)

theorem claim_claimsLeave (h : s.Tenancy (l :: ls) none) (hl : l < 17) : ClaimsLeave s (claim s l) := by
  have roving := (h.between l hl (by nofun) (List.mem_cons_self ..)).mode
  rw [claim, if_pos roving]
  split
  · exact takeEntry_claimsLeave h hl (nextClaim_eligible h.prompts ‹_›)
  · exact pauseLane_claimsLeave roving

theorem foldl_claim_claimsLeave (h : s.Tenancy ls none) (nodup : ls.Nodup) (below : ∀ l ∈ ls, l < 17) :
    ClaimsLeave s (ls.foldl claim s) := by
  induction ls generalizing s with
  | nil => exact ClaimsLeave.refl s
  | cons l ls ih =>
    obtain ⟨idle, nodup'⟩ := List.nodup_cons.1 nodup
    have hl := below l (List.mem_cons_self ..)
    exact (claim_claimsLeave h hl).trans
      (ih (claim_tenancy h idle hl) nodup' fun j hj => below j (List.mem_cons_of_mem _ hj))

theorem pausedClaims_claimsLeave (h : s.Tenancy [] none) : ClaimsLeave s (pausedClaims s) := by
  have fold : ∀ (ls : List Nat), (∀ l ∈ ls, l < 17) → ∀ u : State, u.Tenancy [] none →
      ClaimsLeave u (ls.foldl (fun s l => if (s.lane l).paused then claim s l else s) u) := by
    intro ls
    induction ls with
    | nil => exact fun _ u _ => ClaimsLeave.refl u
    | cons l ls ih =>
      intro below u hu
      have rest := ih fun j hj => below j (List.mem_cons_of_mem _ hj)
      rw [List.foldl_cons]
      split
      · have hl := below l (List.mem_cons_self ..)
        exact (claim_claimsLeave (hu.resume hl ‹_›) hl).trans (rest _ (claim_tenancy (hu.resume hl ‹_›) (by nofun) hl))
      · exact rest u hu
  exact fold _ (fun l hl => by simp [Config.houseLane] at hl; omega) s h

/-- What the close of an act with claims leaves. -/
theorem closeWithClaims_leaves (h : s.Tenancy ls none) (s0 : State) (nodup : ls.Nodup) (below : ∀ l ∈ ls, l < 17) :
    ClaimsLeave s (closeWithClaims s0 s ls) := by
  have within := closeAct_within s0 s
  have closed : ClaimsLeave s (closeAct s0 s) :=
    ClaimsLeave.of_eq (within .entries (by decide)) (within .lanes (by decide)) (within .survey (by decide)).2
  have tenancy := closeAct_tenancy h s0
  exact (closed.trans (foldl_claim_claimsLeave tenancy nodup below)).trans
    (pausedClaims_claimsLeave (foldl_claim_tenancy tenancy nodup below))

end

/-! ## What a command leaves of its act (R167, R168) -/

/-- The registers of the catalogue and of tenancy, the log and the control queue after a command whose act leaves `u` and
answers with `reply`. -/
structure Answered (s u t : State) (c : Command) (status : Status) (result : List Byte) : Prop where
  lanes : t.lanes = u.lanes
  entries : t.entries = u.entries
  prompts : t.promptSet = u.promptSet
  carriages : t.carriages = u.carriages
  bindings : t.bindings = u.bindings
  log : t.mgmt.log = u.mgmt.log
  queue : t.store.controlQueue = s.store.controlQueue ++ [replyCell s c status result]

theorem Answered.lane {s u t : State} {c : Command} {status : Status} {result : List Byte}
    (h : Answered s u t c status result) (l : Nat) : t.lane l = u.lane l := by simp only [State.lane, h.lanes]

theorem Answered.entry {s u t : State} {c : Command} {status : Status} {result : List Byte}
    (h : Answered s u t c status result) (e : Nat) : t.entry e = u.entry e := by simp only [State.entry, h.entries]

theorem takeCommand_leaves {s v u : State} {code len : Nat} {args : List Byte} {c : Command} {rest : List Command}
    {act : State → List Byte → Reply} {result : List Byte} {ps : List Part} (offers : Offers s code args c rest)
    (hlen : args.length = len) (dropped : v = dropHead s rest) (acted : act v args = answer u result)
    (within : Within ps v u) (address : Part.unitAddress ∉ ps) (queue : Part.controlQueue ∉ ps) :
    Answered s u (takeCommand code len s act) c .done result := by
  subst dropped
  have hp : isCommand code len c = true := by simp [isCommand, offers.2.1, offers.2.2.1, hlen]
  rw [takeCommand, takeIf_of_head act offers.1 hp offers.canTake, offers.2.2.1, acted]
  dsimp only [answer]
  have noted := noteRestart_within (placeControl (settleNotice s u) (replyTo u c .done result))
  have settled := settleNotice_within s u
  refine ⟨(noted .lanes (by decide)).trans (settled .lanes (by decide)),
    (noted .entries (by decide)).trans (settled .entries (by decide)),
    (noted .survey (by decide)).2.trans (settled .survey (by decide)).2,
    (noted .carriages (by decide)).trans (settled .carriages (by decide)),
    (noted .bindings (by decide)).trans (settled .bindings (by decide)),
    (noted .log (by decide)).1.trans (settled .log (by decide)).1, ?_⟩
  have held : u.store.controlQueue = s.store.controlQueue := within .controlQueue queue
  have unit : u.mgmt.unitAddress = s.mgmt.unitAddress := within .unitAddress address
  have kept : (settleNotice s u).store.controlQueue = u.store.controlQueue := settled .controlQueue (by decide)
  refine (noted .controlQueue (by decide)).trans ?_
  simp only [placeControl, replyTo, replyCell, kept, held, unit]

/-! ## CLEAR PLAN ENTRY (R4) -/

section

variable {s : State} {l e : Nat}

theorem filter_shelved_others (xs : List (Nat × Carriage)) (e : Nat) (p : Carriage → Bool)
    (own : ∀ x : Carriage, p x = true → x.entry = e) :
    (xs.map fun x => (x.1, if p x.2 then x.2.shelvedNow else x.2)).filter (fun x => decide (x.2.entry ≠ e)) =
      xs.filter fun x => decide (x.2.entry ≠ e) := by
  induction xs with
  | nil => rfl
  | cons x xs ih =>
    by_cases hp : p x.2 = true
    · have := own x.2 hp
      simpa [hp, this, Carriage.shelvedNow] using ih
    · simp only [hp, List.map_cons, List.filter_cons, ih]
      rfl

theorem shelveVisit_carriages (ordered : s.CatalogueOrdered) (e : Nat) : (shelveVisit s e).carriages =
    s.carriages.map fun x => (x.1,
      if x.2.entry = e && (x.2.state = .survey || x.2.state = .incomplete) then x.2.shelvedNow else x.2) :=
  shelveWhere_carriages ordered fun x => x.entry = e && (x.state = .survey || x.state = .incomplete)

/-- Abandoning an entry's visit shelves carriages of the entry, and changes no other record of the catalogue. -/
theorem unvisited_carriages (h : s.Tenancy [] none) (he : e < 64) : ∃ p : Carriage → Bool,
    (∀ x, p x = true → x.entry = e) ∧
      (unvisited s e).carriages = s.carriages.map fun x => (x.1, if p x.2 then x.2.shelvedNow else x.2) := by
  cases visited : (s.entry e).visitingLane with
  | none =>
    rw [unvisited_none visited]
    refine ⟨fun _ => false, fun _ picked => absurd picked Bool.false_ne_true, ?_⟩
    simp
  | some j =>
    refine ⟨fun x => x.entry = e && (x.state = .survey || x.state = .incomplete), fun x hx => ?_, ?_⟩
    · simp only [Bool.and_eq_true, decide_eq_true_eq] at hx
      exact hx.1
    · have visits := (h.visits_of_lane he visited).2
      rw [unvisited_some visited]
      simp only [abandonVisit, endVisit, visits, endVisitTo_eq]
      exact shelveVisit_carriages h.ordered e

theorem unvisited_within (s : State) (e : Nat) : Within endParts s (unvisited s e) :=
  Within.foldl abandonVisit (fun s l => endVisit_within s l none) _ s

/-- The carriages of an entry, one for one, where a map of the records keeps their entries. -/
theorem entryCarriages_length (xs : List (Nat × Carriage)) (e : Nat) (p : Carriage → Bool) :
    ((xs.map fun x => (x.1, if p x.2 then x.2.shelvedNow else x.2)).filter fun x => decide (x.2.entry = e)).length =
      (xs.filter fun x => decide (x.2.entry = e)).length := by
  rw [List.filter_map, List.length_map]
  congr 1
  refine List.filter_congr fun x _ => ?_
  simp only [Function.comp_apply]
  split <;> rfl

/-- The state of CLEAR PLAN ENTRY before its close. -/
theorem clearEntry_leaves (h : s.Tenancy [] none) (he : e < 63) :
    ((clearEntry (unvisited s e) e).carriages = s.carriages.filter fun x => decide (x.2.entry ≠ e)) ∧
      ((unvisited s e).entryCarriages e).length = (s.carriages.filter fun x => decide (x.2.entry = e)).length ∧
      Logs s (clearEntry (unvisited s e) e)
        ((s.carriages.filter fun x => decide (x.2.entry = e) && s.keyRecorded x.2.service).map fun x =>
          { kind := .vanished, entry := e, key := x.2.service, carriage := some x.1, time := s.clock }) := by
  obtain ⟨p, own, carriages⟩ := unvisited_carriages h (e := e) (by omega)
  have left := unvisited_tenancy h (e := e) (by omega)
  have within := unvisited_within s e
  refine ⟨?_, ?_, ?_⟩
  · show (((unvisited s e).entryCarriages e).foldl vanish (unvisited s e)).carriages = _
    rw [State.entryCarriages, vanishWhere_carriages left.ordered, carriages]
    simpa using filter_shelved_others s.carriages e p own
  · rw [State.entryCarriages, State.carriagesWhere, List.length_map, carriages, entryCarriages_length]
  · have removals : Logs (unvisited s e) (((unvisited s e).entryCarriages e).foldl vanish (unvisited s e)) _ :=
      foldl_vanish_logs left.ordered (carriagesWhere_nodup left.ordered.carriages_ordered _)
    have cleared : Logs (((unvisited s e).entryCarriages e).foldl vanish (unvisited s e)) (clearEntry (unvisited s e) e) [] :=
      Logs.of_eq rfl rfl
    refine (((Logs.of_within within (by decide)).nil_trans removals).trans_nil cleared).congr ?_
    have recorded : ∀ key, (unvisited s e).keyRecorded key = s.keyRecorded key :=
      keyRecorded_of_eq (within .output (by decide)) (within .watch (by decide))
        (slotRefsOf_of_services (within .services (by decide)))
    have clock : (unvisited s e).clock = s.clock := within .clock (by decide)
    rw [State.entryCarriages, filterMap_vanishRecord left.ordered, carriages, List.filter_map, List.map_map, clock]
    have picked : (fun x : Nat × Carriage => decide (x.2.entry = e) && (unvisited s e).keyRecorded x.2.service) ∘
        (fun x : Nat × Carriage => (x.1, if p x.2 then x.2.shelvedNow else x.2)) =
        fun x => decide (x.2.entry = e) && s.keyRecorded x.2.service := by
      funext x
      simp only [Function.comp_apply, recorded]
      split <;> rfl
    rw [picked]
    refine List.map_congr_left fun x hx => ?_
    have entry : x.2.entry = e := by
      simp only [List.mem_filter, Bool.and_eq_true, decide_eq_true_eq] at hx
      exact hx.2.1
    simp only [Function.comp_apply]
    split <;> simp [Carriage.shelvedNow, entry]

end

end Sys2Proof.Machine
end

section
namespace Sys2Proof.Machine

open Sys2Proof Host

section

variable {s : State} {e : Nat}

/-- The parts that a plan command's act touches before the owed notice and its reply. -/
def planParts : List Part :=
  [.entries, .survey, .lanes, .carriages, .bindings, .handed, .slots, .services, .log]

theorem clearEntry_within (s : State) (e : Nat) : Within planParts s (clearEntry s e) :=
  (((Within.foldl vanish (fun s c => vanish_within s c) (s.entryCarriages e) s).mono (qs := planParts) (by decide)).trans
    ((modEntry_within _ e fun _ => PlanEntry.fresh).mono (by decide))).trans ((leavePrompt_within _ e).mono (by decide))

theorem clearPlanEntry_within (s : State) (e : Nat) (ls : List Nat) :
    Within planParts s (closeWithClaims s (clearEntry (unvisited s e) e) ls) :=
  (((unvisited_within s e).mono (qs := planParts) (by decide)).trans (clearEntry_within _ e)).trans
    ((closeWithClaims_within s _ ls).mono (by decide))

/-- The act of CLEAR PLAN ENTRY on an entry that no lane parks on. -/
theorem clearPlanEntryAct_taken {args : List Byte} (small : byteAt args 0 ≤ 62)
    (free : (s.entry (byteAt args 0)).parkedLane = none) : clearPlanEntryAct s args =
      answer (closeWithClaims s (clearEntry (unvisited s (byteAt args 0)) (byteAt args 0))
          (s.entry (byteAt args 0)).visitingLane.toList)
        (bytesOf 1 (byteAt args 0) ++ bytesOf 2 ((unvisited s (byteAt args 0)).entryCarriages (byteAt args 0)).length) := by
  have passes : clearRefusal s (byteAt args 0) = none := by
    rw [clearRefusal, if_neg (by omega), if_neg (by simp [free])]
  unfold clearPlanEntryAct
  simp only [passes]
  rfl

theorem clearEntry_entry (h : s.Tenancy [] none) (he : e < 63) (d : Nat) : (clearEntry (unvisited s e) e).entry d =
    if d = e then PlanEntry.fresh else s.entry d := by
  have left := unvisited_tenancy h (e := e) (by omega)
  have within := Within.foldl vanish (fun s c => vanish_within s c) ((unvisited s e).entryCarriages e) (unvisited s e)
  have entries : (clearEntry (unvisited s e) e).entries = (unvisited s e).entries.modify e fun _ => PlanEntry.fresh := by
    simp only [clearEntry, leavePrompt, State.modEntry]
    rw [show (List.foldl vanish _ _).entries = _ from within .entries (by decide)]
  rw [State.entry, entries]
  refine (left.shaped.entry_modEntry (by omega) _ d).trans ?_
  split
  · rfl
  · exact (unvisited_entry h (by omega) d).trans (if_neg ‹_›)

theorem clearEntry_lane (h : s.Tenancy [] none) (he : e < 63) (j : Nat) (mode : (s.lane j).mode ≠ .roving) :
    (clearEntry (unvisited s e) e).lane j = s.lane j ∧ ((clearEntry (unvisited s e) e).lane j).mode ≠ .roving := by
  have within := Within.foldl vanish (fun s c => vanish_within s c) ((unvisited s e).entryCarriages e) (unvisited s e)
  have lanes : (clearEntry (unvisited s e) e).lanes = (unvisited s e).lanes := within .lanes (by decide)
  have same : (clearEntry (unvisited s e) e).lane j = s.lane j := by
    rw [State.lane, lanes]
    refine (unvisited_lane h (by omega) j).trans (if_neg fun visited => mode ?_)
    have visits := (h.visits_of_lane (by omega) visited).2
    obtain ⟨hl, idle, -⟩ := h.visitor visits
    refine (h.modes j (by omega) (by nofun) idle).2.2.1.2 ?_
    cases rover : (s.lane j).rover with
    | none => simp [Lane.visiting, rover] at visits
    | some r => rfl
  exact ⟨same, by rwa [same]⟩

/-- The state that CLEAR PLAN ENTRY's act leaves. -/
theorem clearPlanEntry_leaves (h : s.Tenancy [] none) (he : e < 63) (free : (s.entry e).parkedLane = none) :
    let t := closeWithClaims s (clearEntry (unvisited s e) e) (s.entry e).visitingLane.toList
    t.entry e = PlanEntry.fresh ∧ e ∉ t.promptSet ∧
      (∀ d, d ≠ e → ({ t.entry d with visitingLane := none } : PlanEntry) = { s.entry d with visitingLane := none }) ∧
      (∀ j, (s.lane j).mode ≠ .roving → t.lane j = s.lane j) ∧
      t.carriages = s.carriages.filter (fun x => decide (x.2.entry ≠ e)) ∧
      Logs s t ((s.carriages.filter fun x => decide (x.2.entry = e) && s.keyRecorded x.2.service).map fun x =>
        { kind := .vanished, entry := e, key := x.2.service, carriage := some x.1, time := s.clock }) := by
  intro t
  have left := unvisited_tenancy h (e := e) (by omega)
  have entry := unvisited_entry h (e := e) (by omega) e
  rw [if_pos rfl] at entry
  have cleared := clearEntry_tenancy left he (by rw [entry]; exact free) (by rw [entry])
  have claims : ClaimsLeave (clearEntry (unvisited s e) e) t := by
    refine closeWithClaims_leaves cleared s ?_ fun j hj => ?_
    · cases (s.entry e).visitingLane <;> simp
    · have := (h.visits_of_lane (e := e) (by omega) (Option.mem_toList.1 hj)).1
      omega
  have closed := closeWithClaims_within s (clearEntry (unvisited s e) e) (s.entry e).visitingLane.toList
  obtain ⟨carriages, -, logs⟩ := clearEntry_leaves h he
  have entryAt := clearEntry_entry h he
  have fresh : (clearEntry (unvisited s e) e).entry e = PlanEntry.fresh := (entryAt e).trans (if_pos rfl)
  refine ⟨?_, fun prompted => ?_, fun d hd => ?_, fun j hj => ?_, (closed .carriages (by decide)).trans carriages,
    logs.trans_nil (Logs.of_within closed (by decide))⟩
  · exact (claims.held e (by simp [State.eligible, fresh, PlanEntry.fresh])).trans fresh
  · have := claims.prompts e prompted
    exact absurd this fun hm => by simpa using (List.mem_filter.1 hm).2
  · rw [claims.entries, entryAt, if_neg hd]
  · obtain ⟨same, mode⟩ := clearEntry_lane h he j hj
    exact (claims.lanes j mode).trans same

end

end Sys2Proof.Machine

open Sys2Proof Sys2Proof.Machine Host

/-- Settles O22: the visit's end, the removals with their records, the entry's reset and the claims of the act's close,
each by what it leaves. -/
theorem clearPlanEntryRemovesItsCarriages : Obligations.ClearPlanEntryRemovesItsCarriages := by
  intro s args c rest offers len settled ordered lawful e gone small free bounded
  obtain ⟨v, dropped⟩ : ∃ v, v = dropHead s rest := ⟨_, rfl⟩
  have tenancy : v.Tenancy [] none :=
    dropped ▸ ((tenancy_iff s).2 ⟨ordered, lawful⟩).keep (r := false) (Keeps.of_eq rfl rfl rfl rfl) (mgmt_calm s _).leads
  have entryAt : ∀ d, v.entry d = s.entry d := fun d => dropped ▸ rfl
  have laneAt : ∀ j, v.lane j = s.lane j := fun j => dropped ▸ rfl
  have table : v.carriages = s.carriages := dropped ▸ rfl
  have log : v.mgmt.log = s.mgmt.log := dropped ▸ rfl
  have clock : v.clock = s.clock := dropped ▸ rfl
  have recorded : ∀ key, v.keyRecorded key = s.keyRecorded key := fun key => dropped ▸ rfl
  have free' : (v.entry e).parkedLane = none := by rw [entryAt]; exact free
  have act := clearPlanEntryAct_taken (s := v) (args := args) small free'
  have within := clearPlanEntry_within v e (v.entry e).visitingLane.toList
  obtain ⟨entry, prompts, entries, lanes, carriages, logs⟩ := clearPlanEntry_leaves tenancy (e := e) (by omega) free'
  obtain ⟨-, number, -⟩ := clearEntry_leaves tenancy (e := e) (by omega)
  have answered := takeCommand_leaves (code := codeClearPlanEntry) offers len dropped act within (by decide) (by decide)
  refine ⟨_, rfl, (answered.entry e).trans entry, ?_, fun d hd => ?_, fun j hj => ?_,
    answered.carriages.trans (carriages.trans (by rw [table])), ?_, ?_⟩
  · rw [answered.prompts]
    exact prompts
  · rw [answered.entry, ← entryAt]
    exact entries d hd
  · rw [answered.lane, ← laneAt]
    exact lanes j (by rwa [laneAt])
  · rw [answered.log, logs.log, log, List.take_append, List.take_of_length_le bounded, List.filter_filter, table, clock]
    simp only [recorded, Bool.and_comm]
  · refine answered.queue.trans ?_
    rw [number, table]
    rfl

end

section
namespace Sys2Proof.Machine

open Sys2Proof Host

/-! ## What a bind attempt and a release leave (R15, R16) -/

section

variable {s t : State} {c l : Nat}

/-- The test of a bind attempt is R15's. -/
theorem canBind_eq (s : State) (l : Nat) (cs : List Component) :
    canBind s l cs = true ↔ s.Bindable l (cs.map (·.flow)) := by
  rw [canBind_iff, State.Bindable, ← List.countP_eq_length_filter, List.countP_map]
  simp only [List.forall_mem_map, State.binding_mk]
  rfl

/-- What an attempt leaves of a carriage is R15's outcome. -/
theorem attempted_leaves (s : State) (l : Nat) (mark : Bool) (x : Carriage) :
    s.AttemptLeaves l mark x (s.attempted l mark x) := by
  have down : s.laneDownOf l = decide ((s.lane l).mode = .parked ∧ (s.lane l).parkedState ≠ some .locked) := by
    unfold State.laneDownOf
    rw [Bool.decide_and]
  refine ⟨fun bindable => ?_, fun unbindable => ?_⟩
  · rw [State.attempted, if_pos ((canBind_eq s l x.components).2 bindable), Carriage.bound, down]
    rfl
  · rw [State.attempted, if_neg fun h => unbindable ((canBind_eq s l x.components).1 h), Carriage.unbound, down]

theorem mem_namesOn (x : Carriage) (l j f : Nat) :
    ({ lane := j, flow := f } : BindingName) ∈ x.namesOn l ↔ j = l ∧ f ∈ x.components.map (·.flow) := by
  simp only [Carriage.namesOn, List.mem_map, BindingName.mk.injEq]
  constructor
  · rintro ⟨d, hd, rfl, rfl⟩
    exact ⟨rfl, d, hd, rfl⟩
  · rintro ⟨rfl, d, hd, rfl⟩
    exact ⟨d, hd, rfl, rfl⟩

/-- The bindings after an attempt that succeeds. -/
theorem attemptBind_binding {x : Carriage} (found : s.carriage c = some x)
    (flows : (x.components.map (·.flow)).Nodup) (mark : Bool) (bindable : s.Bindable l (x.components.map (·.flow)))
    (j f : Nat) : (attemptBind s c l mark).binding j f =
      if j = l ∧ f ∈ x.components.map (·.flow) then
        some (joined { lane := l, flow := f } s.clock (s.binding l f)) else s.binding j f := by
  rw [State.binding_mk, attemptBind_bindings found, if_pos ((canBind_eq s l x.components).2 bindable),
    foldl_join_find _ (Carriage.namesOn_nodup flows l)]
  by_cases h : j = l ∧ f ∈ x.components.map (·.flow)
  · rw [if_pos h, if_pos ((mem_namesOn x l j f).2 h), h.1]
    rfl
  · rw [if_neg h, if_neg fun hm => h ((mem_namesOn x l j f).1 hm)]
    rfl

end

/-! ## Bindings that lose references alone (R16) -/

/-- The bindings of `t` are bindings of `s`, with other counts. -/
def Thinned (s t : State) : Prop :=
  ∃ g : Binding → Option Nat, t.bindings = s.bindings.filterMap fun b => (g b).map fun k => { b with refCount := k }

theorem Thinned.of_eq {s t : State} (h : t.bindings = s.bindings) : Thinned s t := by
  refine ⟨fun b => some b.refCount, ?_⟩
  rw [h]
  exact List.filterMap_some.symm

theorem Thinned.refl (s : State) : Thinned s s := Thinned.of_eq rfl

theorem Thinned.trans {s t u : State} (h : Thinned s t) (g : Thinned t u) : Thinned s u := by
  obtain ⟨f, hf⟩ := h
  obtain ⟨g, hg⟩ := g
  refine ⟨fun b => (f b).bind fun k => g { b with refCount := k }, ?_⟩
  rw [hg, hf, List.filterMap_filterMap]
  refine List.filterMap_congr fun b _ => ?_
  cases kept : f b <;> simp [kept]

theorem Thinned.of_within {ps : List Part} {s t : State} (h : Within ps s t) (hp : Part.bindings ∉ ps) : Thinned s t :=
  Thinned.of_eq (h .bindings hp)

theorem Thinned.foldl {α : Type} {f : State → α → State} (h : ∀ s a, Thinned s (f s a)) (l : List α) (s : State) :
    Thinned s (l.foldl f s) := by
  induction l generalizing s with
  | nil => exact Thinned.refl s
  | cons a l ih => exact (h s a).trans (ih (f s a))

theorem leaveBinding_thinned (s : State) (name : BindingName) : Thinned s (leaveBinding s name) := by
  unfold leaveBinding
  split
  · exact Thinned.refl s
  · split
    · refine ⟨fun b => if b.name = name then none else some b.refCount, ?_⟩
      show s.bindings.filter _ = _
      rw [← List.filterMap_eq_filter]
      refine List.filterMap_congr fun b _ => ?_
      by_cases h : b.name = name <;> simp [h]
    · refine ⟨fun b => some (if b.name = name then b.refCount - 1 else b.refCount), ?_⟩
      show s.bindings.map _ = _
      rw [← List.filterMap_eq_map]
      refine List.filterMap_congr fun b _ => ?_
      by_cases h : b.name = name <;> simp [h]

theorem releaseBindings_thinned (s : State) (c : Nat) : Thinned s (releaseBindings s c) := by
  unfold releaseBindings
  split
  · exact Thinned.refl s
  · exact (Thinned.foldl leaveBinding_thinned _ s).trans (Thinned.of_eq rfl)

theorem shelve_thinned (s : State) (c : Nat) : Thinned s (shelve s c) := by
  unfold shelve
  split
  · exact Thinned.refl s
  · exact (releaseBindings_thinned s c).trans (Thinned.of_eq rfl)

theorem foldl_shelve_thinned (cs : List Nat) (s : State) : Thinned s (cs.foldl shelve s) :=
  Thinned.foldl shelve_thinned cs s

theorem abandonVisit_thinned (s : State) (l : Nat) : Thinned s (abandonVisit s l) := by
  unfold abandonVisit endVisit
  split
  · exact Thinned.refl s
  · rename_i e _
    have left : Thinned (shelveVisit s e) (visitLeft s l e none) := Thinned.of_eq rfl
    rw [endVisitTo_eq]
    exact (foldl_shelve_thinned _ s).trans left

theorem parkRelease_thinned (s : State) (l : Nat) : Thinned s (parkRelease s l) := by
  unfold parkRelease
  split
  · exact (foldl_shelve_thinned _ s).trans (Thinned.of_eq rfl)
  · exact Thinned.refl s

theorem parkClaim_thinned (s : State) (l e : Nat) : Thinned s (parkClaim s l e) :=
  ((Thinned.foldl abandonVisit_thinned _ s).trans
    ((parkRelease_thinned _ l).trans (abandonVisit_thinned _ l))).trans (Thinned.of_eq rfl)

/-- Bindings that lose references alone are those that are still referred to, at their counts. -/
theorem Thinned.bindings {s t : State} (h : Thinned s t) (hs : s.BindingsLawful) (ht : t.BindingsLawful) :
    t.bindings = s.bindings.filterMap fun b =>
      if t.referencesTo b.name = 0 then none else some { b with refCount := t.referencesTo b.name } := by
  obtain ⟨g, hg⟩ := h
  obtain ⟨-, tallied, -⟩ := (bindingsLawful_iff t).1 ht
  obtain ⟨-, sTallied, -⟩ := (bindingsLawful_iff s).1 hs
  rw [hg]
  refine List.filterMap_congr fun b hb => ?_
  have counted := tallied.counted b.name
  cases kept : g b with
  | some k =>
    have hm : { b with refCount := k } ∈ t.bindings := by
      rw [hg]
      exact List.mem_filterMap.2 ⟨b, hb, by simp [kept]⟩
    have found := findBinding_of_mem tallied.ordered hm
    have range := (tallied.range b.name _ found).1
    rw [show findBinding t.bindings b.name = some { b with refCount := k } from found] at counted
    rw [State.referencesTo_eq, ← counted]
    simp only [Option.map_some] at range ⊢
    rw [if_neg (by simpa using Nat.one_le_iff_ne_zero.1 range)]
    rfl
  | none =>
    have gone : findBinding t.bindings b.name = none := by
      refine findBinding_none.2 fun d hd named => ?_
      rw [hg] at hd
      obtain ⟨b', hb', hd⟩ := List.mem_filterMap.1 hd
      obtain ⟨k, hk, rfl⟩ := Option.map_eq_some_iff.1 hd
      have same := findBinding_of_mem sTallied.ordered hb'
      rw [show b'.name = b.name from named, findBinding_of_mem sTallied.ordered hb] at same
      rw [Option.some.inj same, hk] at kept
      cases kept
    rw [gone] at counted
    rw [State.referencesTo_eq, ← counted]
    rfl

end Sys2Proof.Machine
end

section
namespace Sys2Proof.Machine

open Sys2Proof Host

/-! ## Carriages that a lane leaves (R6, R80) -/

section

variable {ls : List Nat} {s : State} {l e : Nat}

theorem Carriage.shelvedFrom_shelved {x : Carriage} (h : x.state = .shelved) : x.shelvedFrom = x := by
  rw [Carriage.shelvedFrom_eq, if_pos h]

theorem Carriage.shelvedFrom_state (x : Carriage) : x.shelvedFrom.state = .shelved := by
  rw [Carriage.shelvedFrom_eq]
  split
  · assumption
  · rfl

theorem Carriage.shelvedFrom_entry (x : Carriage) : x.shelvedFrom.entry = x.entry := by
  rw [Carriage.shelvedFrom_eq]
  split <;> rfl

theorem Carriage.shelvedFrom_sameFigures (x : Carriage) : x.SameFigures x.shelvedFrom := by
  rw [Carriage.shelvedFrom_eq]
  split <;> exact ⟨rfl, rfl, rfl, rfl, rfl, rfl, rfl, rfl, rfl, rfl⟩

theorem Carriage.SameFigures.trans {x y z : Carriage} (h : x.SameFigures y) (g : y.SameFigures z) :
    x.SameFigures z := by
  obtain ⟨h1, h2, h3, h4, h5, h6, h7, h8, h9, h10⟩ := h
  obtain ⟨g1, g2, g3, g4, g5, g6, g7, g8, g9, g10⟩ := g
  exact ⟨g1.trans h1, g2.trans h2, g3.trans h3, g4.trans h4, g5.trans h5, g6.trans h6, g7.trans h7, g8.trans h8,
    g9.trans h9, g10.trans h10⟩

/-- Shelving those carriages of an entry that are not shelved shelves the entry's carriages. -/
theorem shelveWhere_entry (ordered : s.CatalogueOrdered) {p : Carriage → Bool} (own : ∀ x, p x = true → x.entry = e)
    (held : ∀ x, p x = true → x.state ≠ .shelved)
    (rest : ∀ x ∈ s.carriages, x.2.entry = e → p x.2 = false → x.2.state = .shelved) :
    ((s.carriagesWhere p).foldl shelve s).carriages =
      s.carriages.map fun x => (x.1, if x.2.entry = e then x.2.shelvedFrom else x.2) := by
  rw [shelveWhere_carriages ordered]
  refine List.map_congr_left fun x hx => ?_
  by_cases hp : p x.2 = true
  · rw [if_pos hp, if_pos (own x.2 hp), Carriage.shelvedFrom_eq, if_neg (held x.2 hp)]
  · rw [if_neg hp]
    split
    · rw [Carriage.shelvedFrom_shelved (rest x hx ‹_› (by simpa using hp))]
    · rfl

theorem State.AllPlaced.unparked (h : s.AllPlaced) (parked : (s.entry e).parkedLane = none) :
    ∀ x ∈ s.carriages, x.2.entry = e → x.2.state = .shelved ∨ x.2.state = .survey ∨ x.2.state = .incomplete := by
  intro x hx entry
  obtain ⟨-, held⟩ := h x hx
  rw [entry, parked] at held
  cases state : x.2.state <;> simp only [state] at held <;> simp
  all_goals
    obtain ⟨some, held⟩ := held
    rw [← held] at some
    cases some

theorem abandonVisit_carriages (h : s.Tenancy ls none) (l : Nat) : (abandonVisit s l).carriages =
    s.carriages.map fun x => (x.1, if (s.lane l).visiting = some x.2.entry then x.2.shelvedFrom else x.2) := by
  cases visits : (s.lane l).visiting with
  | none =>
    rw [abandonVisit, endVisit_none visits]
    simp
  | some e =>
    obtain ⟨-, -, -, -, parked⟩ := h.visitor visits
    simp only [abandonVisit, endVisit, visits, endVisitTo_eq]
    refine (shelveWhere_entry (e := e) h.ordered (fun x hx => ?_) (fun x hx => ?_) fun x hx entry kept => ?_).trans ?_
    · simp only [Bool.and_eq_true, decide_eq_true_eq] at hx
      exact hx.1
    · simp only [Bool.and_eq_true, Bool.or_eq_true, decide_eq_true_eq] at hx
      rcases hx.2 with state | state <;> rw [state] <;> nofun
    · rcases h.placed.unparked parked x hx entry with state | state | state
      · exact state
      · simp [entry, state] at kept
      · simp [entry, state] at kept
    · refine List.map_congr_left fun x _ => ?_
      simp only [Option.some.injEq, eq_comm]

theorem parkRelease_carriages (h : s.Tenancy ls none) (hl : l < 17) : (parkRelease s l).carriages =
    s.carriages.map fun x => (x.1, if (s.lane l).entry = some x.2.entry then x.2.shelvedFrom else x.2) := by
  unfold parkRelease
  split
  · rename_i e mode entry
    obtain ⟨-, -, d, hd, entry', parked⟩ := h.parker hl mode
    obtain rfl : d = e := Option.some.inj (entry'.symm.trans entry)
    have visited : (s.entry d).visitingLane = none := (h.apart d hd).resolve_left (by simp [parked])
    refine (shelveWhere_entry (e := d) h.ordered (fun x hx => ?_) (fun x hx => ?_) fun x hx entry kept => ?_).trans ?_
    · simp only [Bool.and_eq_true, decide_eq_true_eq] at hx
      exact hx.1
    · simp only [Bool.and_eq_true] at hx
      intro state
      simp [state, CarriageState.keepsLaneDown] at hx
    · obtain ⟨-, held⟩ := h.placed x hx
      rw [entry, visited] at held
      cases state : x.2.state <;> simp only [state] at held kept <;> simp [entry, CarriageState.keepsLaneDown] at kept
      case shelved => rfl
      case survey =>
        obtain ⟨some, held⟩ := held
        rw [← held] at some
        cases some
    · refine List.map_congr_left fun x _ => ?_
      simp only [entry, Option.some.injEq, eq_comm]
  · rename_i unparked
    have bare : (s.lane l).entry = none := by
      by_cases mode : (s.lane l).mode = .parked
      · cases entry : (s.lane l).entry with
        | none => rfl
        | some e => exact absurd entry (unparked e mode)
      · exact h.bare hl mode
    simp [bare]

/-- A parked lane visits no entry, and a visiting one is not parked. -/
theorem State.Tenancy.bare_or_still (h : s.Tenancy ls none) (hl : l < 17) :
    (s.lane l).entry = none ∨ (s.lane l).visiting = none := by
  by_cases mode : (s.lane l).mode = .parked
  · exact .inr (by simp [Lane.visiting, (h.parker hl mode).1])
  · exact .inl (h.bare hl mode)

/-- Leaving a lane shelves the carriages of the entry it parks on or visits. -/
theorem leaveLane_carriages (h : s.Tenancy ls none) (feed : l < 16) : (leaveLane s l).carriages =
    s.carriages.map fun x => (x.1, x.2.leftBy (s.lane l)) := by
  rcases h.bare_or_still (l := l) (by omega) with bare | still
  · have same : parkRelease s l = s := by
      unfold parkRelease
      split
      · rename_i e mode entry
        rw [bare] at entry
        cases entry
      · rfl
    rw [leaveLane, same, abandonVisit_carriages h]
    refine List.map_congr_left fun x _ => ?_
    simp [Carriage.leftBy, bare]
  · rw [leaveLane, abandonVisit, endVisit_none (by rw [parkRelease_lane]; exact still), parkRelease_carriages h (by omega)]
    refine List.map_congr_left fun x _ => ?_
    simp [Carriage.leftBy, still]

theorem unvisited_shelves (h : s.Tenancy [] none) (he : e < 64) : (unvisited s e).carriages =
    s.carriages.map fun x => (x.1,
      if (s.entry e).visitingLane.isSome ∧ x.2.entry = e then x.2.shelvedFrom else x.2) := by
  cases visited : (s.entry e).visitingLane with
  | none =>
    rw [unvisited_none visited]
    simp
  | some j =>
    have visits := (h.visits_of_lane he visited).2
    rw [unvisited_some visited, abandonVisit_carriages h, visits]
    refine List.map_congr_left fun x _ => ?_
    simp [eq_comm]

/-- The claim of a park leaves the entry's carriages shelved, and those of the entry that the lane holds. -/
theorem parkClaim_carriages (h : s.Tenancy [] none) (feed : l < 16) (he : e < 63)
    (own : (s.entry e).parkedLane = none ∨ (s.entry e).parkedLane = some l) : (parkClaim s l e).carriages =
    s.carriages.map fun x => (x.1, if x.2.entry = e then x.2.shelvedFrom else x.2.leftBy (s.lane l)) := by
  have left := unvisited_tenancy h (e := e) (by omega)
  show (leaveLane (unvisited s e) l).carriages = _
  rw [leaveLane_carriages left feed, unvisited_shelves h (by omega), List.map_map, unvisited_lane h (by omega)]
  refine List.map_congr_left fun x hx => ?_
  have entries : ∀ d, ((s.lane l).visitEnded none).entry = some d ↔ (s.lane l).entry = some d := fun _ => Iff.rfl
  simp only [Function.comp_apply, Prod.mk.injEq, true_and]
  by_cases entry : x.2.entry = e
  · rw [if_pos entry]
    have shelved : ∀ (y : Carriage) (n : Lane), y.state = .shelved → y.leftBy n = y := by
      intro y n hy
      unfold Carriage.leftBy
      split
      · exact Carriage.shelvedFrom_shelved hy
      · rfl
    cases visited : (s.entry e).visitingLane with
    | some j =>
      simp only [Option.isSome_some, entry, and_self, if_true]
      exact shelved _ _ x.2.shelvedFrom_state
    | none =>
      simp only [Option.isSome_none, Bool.false_eq_true, false_and, if_false, reduceCtorEq]
      rcases own with free | parked
      · have state := h.placed.shelved free visited x hx entry
        rw [shelved _ _ state, Carriage.shelvedFrom_shelved state]
      · have held := (h.parks_of_lane (by omega) parked).2
        rw [Carriage.leftBy, if_pos (.inl (by rw [held, entry]))]
  · rw [if_neg entry, if_neg fun h => entry h.2]
    by_cases visited : (s.entry e).visitingLane = some l
    · have visits := (h.visits_of_lane (by omega) visited).2
      have between := ((left.between l (by omega) (by nofun) (by simp [visited])).visiting)
      rw [unvisited_lane h (by omega), if_pos visited] at between
      rw [if_pos visited]
      simp only [Carriage.leftBy, entries, visits, between, Option.some.injEq, Ne.symm entry, reduceCtorEq]
    · rw [if_neg visited]

end

/-! ## Attempts in index order (R19) -/

/-- A fold over distinct carriages, each round of which changes its own alone: what each round does to its own. -/
theorem foldl_own_result {f : State → Nat → State} {I : State → Prop} {Q : Carriage → Carriage → Prop}
    (ordered : ∀ u c, u.CatalogueOrdered → (f u c).CatalogueOrdered)
    (step : ∀ u c x, u.CatalogueOrdered → I u → u.carriage c = some x → ∃ y, (f u c).carriage c = some y ∧ Q x y)
    (keeps : ∀ u c, I u → I (f u c))
    (own : ∀ u c d, u.CatalogueOrdered → d ≠ c → (f u c).carriage d = u.carriage d) {cs : List Nat}
    (nodup : cs.Nodup) {s : State} (hs : s.CatalogueOrdered) (hI : I s) :
    (∀ c ∈ cs, ∀ x, s.carriage c = some x → ∃ y, (cs.foldl f s).carriage c = some y ∧ Q x y) ∧
      ∀ c, c ∉ cs → (cs.foldl f s).carriage c = s.carriage c := by
  induction cs generalizing s with
  | nil => exact ⟨by nofun, fun _ _ => rfl⟩
  | cons c cs ih =>
    obtain ⟨new, nodup'⟩ := List.nodup_cons.1 nodup
    obtain ⟨changed, kept⟩ := ih nodup' (ordered s c hs) (keeps s c hI)
    refine ⟨fun d hd x hx => ?_, fun d hd => ?_⟩
    · rcases List.mem_cons.1 hd with rfl | hd
      · obtain ⟨y, hy, q⟩ := step s d x hs hI hx
        exact ⟨y, (kept d new).trans hy, q⟩
      · have other : d ≠ c := fun same => new (same ▸ hd)
        exact changed d hd x ((own s c d hs other).trans hx)
    · obtain ⟨other, rest⟩ := not_or.1 (fun h => hd (List.mem_cons.2 h))
      exact (kept d rest).trans (own s c d hs other)

theorem bindParked_eq {s : State} {l e : Nat} {cs : List Nat}
    (h : cs = s.carriagesWhere fun x => x.entry = e && x.state = .shelved) :
    bindParked s l e = cs.foldl (fun u c => attemptBind u c l true) s := by rw [h]; rfl

end Sys2Proof.Machine
end

section
namespace Sys2Proof.Machine

open Sys2Proof Host

/-! ## What a bind attempt and a release leave, as the statements say it (R15, R16) -/

section

variable {s : State} {c l : Nat} {x : Carriage}

theorem attemptBind_outcome (ordered : s.CatalogueOrdered) (found : s.carriage c = some x) (mark : Bool) :
    ∃ y, s.AttemptLeaves l mark x y ∧
      (attemptBind s c l mark).carriages = s.carriages.map fun z => if z.1 = c then (c, y) else z :=
  ⟨_, attempted_leaves s l mark x,
    (attemptBind_carriages ordered.carriages_ordered found l mark).trans (replaceAt_eq ..)⟩

theorem attemptBind_unbindable (found : s.carriage c = some x) (mark : Bool)
    (unbindable : ¬ s.Bindable l (x.components.map (·.flow))) : (attemptBind s c l mark).bindings = s.bindings := by
  rw [attemptBind_bindings found, if_neg fun can => unbindable ((canBind_eq s l x.components).1 can)]

theorem releaseBindings_outcome (ordered : s.CatalogueOrdered) (found : s.carriage c = some x) :
    (releaseBindings s c).carriages = s.carriages.map fun z => if z.1 = c then (c, x.released) else z :=
  (releaseBindings_carriages ordered.carriages_ordered found).trans (replaceAt_eq ..)

theorem releaseBindings_binding (found : s.carriage c = some x) (nodup : x.names.Nodup) (j f : Nat) :
    (releaseBindings s c).binding j f =
      if { lane := j, flow := f } ∈ x.names then (s.binding j f).bind left else s.binding j f := by
  rw [State.binding_mk, releaseBindings_bindings found, foldl_leave_find _ nodup]
  rfl

end

/-! ## The carriages of a parked entry (R19) -/

section

variable {s : State} {l e : Nat}

/-- A carriage bound to a lane that has just been parked. -/
structure Carriage.ParkedAs (x : Carriage) (l : Nat) (y : Carriage) : Prop where
  lane : y.lane = some l
  state : y.state = .probation ∨ y.state = .incomplete
  laneDown : y.laneDown = true
  stalled : y.stalled = false
  probation : y.probation = 0
  figures : x.SameFigures y

theorem attempted_parkedAs (mode : (s.lane l).mode = .parked) (await : (s.lane l).parkedState = some .await)
    (mark : Bool) (x : Carriage) : x.ParkedAs l (s.attempted l mark x) := by
  have down : s.laneDownOf l = true := by simp [State.laneDownOf, mode, await]
  have state : s.boundState l = .probation := by simp [State.boundState, mode]
  unfold State.attempted
  split
  · exact ⟨rfl, .inl state, down, rfl, rfl, ⟨rfl, rfl, rfl, rfl, rfl, rfl, rfl, rfl, rfl, rfl⟩⟩
  · exact ⟨rfl, .inr rfl, down, rfl, rfl, ⟨rfl, rfl, rfl, rfl, rfl, rfl, rfl, rfl, rfl, rfl⟩⟩

theorem attemptBind_carriage {s : State} {c : Nat} {x : Carriage} (ordered : s.CatalogueOrdered)
    (found : s.carriage c = some x) (l : Nat) (mark : Bool) :
    (attemptBind s c l mark).carriage c = some (s.attempted l mark x) := by
  rw [State.carriage, attemptBind_carriages ordered.carriages_ordered found]
  exact tableGet_replaceAt _ found

theorem attemptBind_lanes (s : State) (c l : Nat) (mark : Bool) : (attemptBind s c l mark).lanes = s.lanes :=
  attemptBind_within s c l mark .lanes (by decide)

/-- Attempts in index order on a lane just parked: each carriage stands on the lane, and no other is touched. -/
theorem foldl_attemptBind_parked (ordered : s.CatalogueOrdered) (mode : (s.lane l).mode = .parked)
    (await : (s.lane l).parkedState = some .await) {cs : List Nat} (nodup : cs.Nodup) :
    (∀ c ∈ cs, ∀ x, s.carriage c = some x →
      ∃ y, (cs.foldl (fun u c => attemptBind u c l true) s).carriage c = some y ∧ x.ParkedAs l y) ∧
      ∀ c, c ∉ cs → (cs.foldl (fun u c => attemptBind u c l true) s).carriage c = s.carriage c := by
  refine foldl_own_result (I := fun u => u.lanes = s.lanes) (fun u c => attemptBind_ordered c l true)
    (fun u c x hu lanes found => ⟨_, attemptBind_carriage hu found l true, attempted_parkedAs ?_ ?_ true x⟩)
    (fun u c lanes => (attemptBind_lanes u c l true).trans lanes)
    (fun u c d hu => attemptBind_own u c l true d hu) nodup ordered rfl
  · rwa [State.lane, lanes]
  · rwa [State.lane, lanes]

end

end Sys2Proof.Machine
end

section
namespace Sys2Proof.Machine

open Sys2Proof Host

/-! ## The lane that PARK LANE parks (R5, R26, R33) -/

/-- The record of a lane parked on an entry of tuning word `word`, its TUNE sent and its timers started at `now`. -/
def Lane.tunedOn (n : Lane) (e : Nat) (word : BitVec 64) (now : Clock) (lockTimeout window : Nat) : Lane :=
  { (n.parkedOn e).tuned word with
    lockTimer := some { start := now, span := micros lockTimeout }
    silenceTimer := some { start := now, span := micros (3 * n.statusInterval) }
    windowTimer := some { start := now, span := micros (250 * window) } }

/-- A visit that the lane gives up as it is parked leaves no trace. -/
theorem Lane.visitEnded_tunedOn (n : Lane) (e : Nat) (word : BitVec 64) (now : Clock) (lockTimeout window : Nat) :
    (n.visitEnded none).tunedOn e word now lockTimeout window = n.tunedOn e word now lockTimeout window := by
  have asm : (n.visitEnded none).assemblerLeft true = n.assemblerLeft true := rfl
  simp only [Lane.tunedOn, Lane.parkedOn, asm]
  rfl

theorem Lane.tunedOn_eq (n : Lane) (e : Nat) (word : BitVec 64) (now : Clock) (lockTimeout window : Nat) :
    n.tunedOn e word now lockTimeout window =
      { n.wiped true (if n.mode = .roving then none else n.asm.lastRejection) with
        mode := .parked, entry := some e, parkedState := some .await, tagCounter := tagAfter n.tagCounter
        currentTag := some n.tagCounter
        pendingOrder := some { kind := .tune, tag := n.tagCounter, word := word }
        lockTimer := some { start := now, span := 1000 * lockTimeout }
        silenceTimer := some { start := now, span := 3000 * n.statusInterval }
        windowTimer := some { start := now, span := 250000 * window }
        rover := none } := by
  have tag : nextTag n.tagCounter = tagAfter n.tagCounter := by
    unfold nextTag tagAfter
    split <;> split <;> omega
  have asm : n.assemblerLeft true = (n.wiped true (if n.mode = .roving then none else n.asm.lastRejection)).asm := by
    unfold Lane.assemblerLeft
    split <;> rfl
  have silence : micros (3 * n.statusInterval) = 3000 * n.statusInterval := by unfold micros; omega
  have span : micros (250 * window) = 250000 * window := by unfold micros; omega
  have lock : micros lockTimeout = 1000 * lockTimeout := by unfold micros; omega
  simp only [Lane.tunedOn, Lane.tuned, Lane.parkedOn, Lane.commandCleared, Lane.wiped, tag, asm, silence, span, lock]
  rfl

section

variable {s : State} {l e : Nat}

theorem parkClaim_lane (h : s.Tenancy [] none) (he : e < 63) (j : Nat) (hj : j ≠ l)
    (mode : (s.lane j).mode ≠ .roving) : (parkClaim s l e).lane j = s.lane j := by
  have left := unvisited_tenancy h (e := e) (by omega)
  refine (leaveLane_lane left l j hj).trans ((unvisited_lane h (by omega) j).trans (if_neg fun visited => mode ?_))
  have visits := (h.visits_of_lane (by omega) visited).2
  obtain ⟨hl, idle, -⟩ := h.visitor visits
  refine (h.modes j (by omega) (by nofun) idle).2.2.1.2 ?_
  cases rover : (s.lane j).rover with
  | none => simp [Lane.visiting, rover] at visits
  | some r => rfl

/-- The lane itself gives up its visit, if it has one. -/
theorem leaveLane_own {ls : List Nat} (h : s.Tenancy ls none) (hl : l < 17) :
    (leaveLane s l).lane l = s.lane l ∨ (leaveLane s l).lane l = (s.lane l).visitEnded none := by
  unfold leaveLane abandonVisit endVisit
  split
  · exact .inl (parkRelease_lane s l l)
  · rename_i d visits
    have shaped : (parkRelease s l).Shaped := (parkRelease_leads (r := false) (B := anyBind) s l).shaped h.ordered h.shaped
    rw [endVisitTo_eq]
    exact .inr (by rw [visitLeft_lane shaped hl, if_pos rfl, parkRelease_lane])

theorem parkClaim_tunedOn (h : s.Tenancy [] none) (feed : l < 16) (he : e < 63) (word : BitVec 64) (now : Clock)
    (lockTimeout window : Nat) : ((parkClaim s l e).lane l).tunedOn e word now lockTimeout window =
      (s.lane l).tunedOn e word now lockTimeout window := by
  have left := unvisited_tenancy h (e := e) (by omega)
  have first : ((unvisited s e).lane l).tunedOn e word now lockTimeout window =
      (s.lane l).tunedOn e word now lockTimeout window := by
    rw [unvisited_lane h (by omega)]
    split
    · exact Lane.visitEnded_tunedOn ..
    · rfl
  show ((leaveLane (unvisited s e) l).lane l).tunedOn e word now lockTimeout window = _
  rcases leaveLane_own left (l := l) (by omega) with same | ended
  · rw [same, first]
  · rw [ended, Lane.visitEnded_tunedOn, first]

/-- The entries after the claim of a park. -/
theorem parkClaim_entry (h : s.Tenancy [] none) (feed : l < 16) (he : e < 63) {d : Nat} (hd : d < 64) :
    (parkClaim s l e).entry d =
      if d = e then { s.entry e with parkedLane := some l, visitingLane := none }
      else { s.entry d with
        parkedLane := if (s.entry d).parkedLane = some l then none else (s.entry d).parkedLane
        visitingLane := if (s.entry d).visitingLane = some l then none else (s.entry d).visitingLane } := by
  have left := unvisited_tenancy h (e := e) (by omega)
  have shaped : (leaveLane (unvisited s e) l).Shaped :=
    (leaveLane_leads (r := false) (B := anyBind) _ l).shaped left.ordered left.shaped
  refine (shaped.entry_modEntry (by omega) _ d).trans ?_
  split
  · rename_i same
    rw [leaveLane_entry left (by omega) (by omega), unvisited_entry h (by omega), if_pos rfl]
    simp
  · rw [leaveLane_entry left (by omega) hd, unvisited_entry h (by omega), if_neg ‹_›]

theorem parkClaim_within (s : State) (l e : Nat) : Within planParts s (parkClaim s l e) :=
  ((((unvisited_within s e).mono (qs := planParts) (by decide)).trans ((leaveLane_within _ l).mono (by decide))).trans
    ((modEntry_within _ e _).mono (by decide))).trans ((leavePrompt_within _ e).mono (by decide))

/-- The state in which PARK LANE's carriages make their bind attempts. -/
def parking (s : State) (l e : Nat) : State := (parkClaim s l e).modLane l fun n => n.parkedOn e

theorem parking_within (s : State) (l e : Nat) : Within planParts s (parking s l e) :=
  (parkClaim_within s l e).trans ((modLane_within _ l _).mono (by decide))

theorem parking_leads (s : State) (l e : Nat) : Leads false anyBind s (parking s l e) :=
  (parkClaim_leads s l e).trans (Calm.modLane _ l _).leads

theorem parking_lane (h : s.Tenancy [] none) (feed : l < 16) (j : Nat) : (parking s l e).lane j =
    if j = l then ((parkClaim s l e).lane l).parkedOn e else (parkClaim s l e).lane j :=
  ((parkClaim_leads (r := false) (B := anyBind) s l e).shaped h.ordered h.shaped).lane_modLane (by omega) _ j

/-- The parts of PARK LANE's record after the attempts. -/
theorem parkRecord_within (s : State) (l e : Nat) :
    Within [.lanes] (bindParked (s.modLane l fun n => n.parkedOn e) l e) (parkRecord s l e) :=
  (((modLane_within _ l _).trans (modLane_within _ l _)).trans (modLane_within _ l _)).trans (modLane_within _ l _)

theorem parkRecord_lane (h : s.Tenancy [] none) (feed : l < 16) (he : e < 63) (j : Nat) :
    (parkRecord (parkClaim s l e) l e).lane j =
      if j = l then
        (s.lane l).tunedOn e ((s.entry e).tuningWord.getD 0) s.clock s.survey.lockTimeout s.policy.windowLength
      else (parkClaim s l e).lane j := by
  obtain ⟨t, ht⟩ : ∃ t, t = bindParked (parking s l e) l e := ⟨_, rfl⟩
  have bound : Within [.carriages, .bindings, .handed] (parking s l e) t := ht ▸ bindParked_within (parking s l e) l e
  have parked := parking_within s l e
  have lanes : t.lanes = (parking s l e).lanes := bound .lanes (by decide)
  have word : t.tuningWordOf e = (s.entry e).tuningWord.getD 0 := by
    have entries : (parking s l e).entries = (parkClaim s l e).entries := rfl
    rw [State.tuningWordOf, State.entry, show t.entries = _ from bound .entries (by decide), entries]
    rw [show (parkClaim s l e).entries.getD e _ = (parkClaim s l e).entry e from rfl,
      parkClaim_entry h feed he (by omega), if_pos rfl]
  have clock : t.clock = s.clock := (bound .clock (by decide)).trans (parked .clock (by decide))
  have settings : t.policy = s.policy ∧ t.survey = s.survey := by
    obtain ⟨p1, s1⟩ := parked .settings (by decide)
    obtain ⟨p2, s2⟩ := bound .settings (by decide)
    exact ⟨p2.trans p1, s2.trans s1⟩
  have shaped : t.Shaped := by
    have bindings : Leads false anyBind (parking s l e) (bindParked (parking s l e) l e) :=
      bindParked_leads fun _ _ => trivial
    exact ht ▸ ((parking_leads s l e).trans bindings).shaped h.ordered h.shaped
  have record : parkRecord (parkClaim s l e) l e = t.modLane l fun n =>
      { n.tuned (t.tuningWordOf e) with
        lockTimer := t.startTimer t.survey.lockTimeout
        silenceTimer := t.startTimer (3 * n.statusInterval)
        windowTimer := t.startTimer (250 * t.policy.windowLength) } := by
    rw [ht]
    simp only [parkRecord, startWindow, startSilence, startLock, sendTune, State.modLane_modLane]
    rfl
  have laneAt : t.lane j = (parking s l e).lane j := by rw [State.lane, lanes]; rfl
  rw [record, shaped.lane_modLane (by omega)]
  split
  · rename_i same
    subst same
    rw [laneAt, parking_lane h feed, if_pos rfl, ← parkClaim_tunedOn h feed he, word, settings.1, settings.2]
    simp only [State.startTimer, clock]
    rfl
  · rw [laneAt, parking_lane h feed, if_neg ‹_›]

end

end Sys2Proof.Machine
end

section
namespace Sys2Proof.Machine

open Sys2Proof Host

/-! ## What PARK LANE leaves (R5, R6, R19, R26) -/

/-- A step from `s` to `t` parks lane `l` on entry `e`. -/
structure ParkLeaves (s t : State) (l e : Nat) : Prop where
  lane : t.lane l = (s.lane l).tunedOn e ((s.entry e).tuningWord.getD 0) s.clock s.survey.lockTimeout s.policy.windowLength
  entry : t.entry e = { s.entry e with parkedLane := some l, visitingLane := none }
  prompts : e ∉ t.promptSet
  released : ∀ d, (s.lane l).entry = some d → d ≠ e → (t.entry d).parkedLane = none
  bound : ∀ x ∈ s.carriages, x.2.entry = e → ∃ y, t.carriage x.1 = some y ∧ x.2.ParkedAs l y
  others : ∀ x ∈ s.carriages, x.2.entry ≠ e → t.carriage x.1 = some (x.2.leftBy (s.lane l))
  lanes : ∀ j, j ≠ l → (s.lane j).mode ≠ .roving → t.lane j = s.lane j
  entries : ∀ d, d ≠ e → ({ t.entry d with parkedLane := none, visitingLane := none } : PlanEntry) =
    { s.entry d with parkedLane := none, visitingLane := none }
  attempts : s.BindingsLawful → ∃ u : State,
    u.carriages = (s.carriages.map fun x =>
      (x.1, if x.2.entry = e then x.2.shelvedFrom else x.2.leftBy (s.lane l))) ∧
    u.bindings = (s.bindings.filterMap fun b =>
      if u.referencesTo b.name = 0 then none else some { b with refCount := u.referencesTo b.name }) ∧
    u.clock = s.clock ∧ (u.lane l).mode = .parked ∧ (u.lane l).parkedState = some .await ∧
    let bound := ((s.carriages.filter fun x => decide (x.2.entry = e)).map Prod.fst).foldl
      (fun u i => attemptBind u i l true) u
    t.carriages = bound.carriages ∧ t.bindings = bound.bindings

section

variable {s : State} {l e : Nat}

/-- The indices of the carriages of an entry. -/
def State.indicesOf (s : State) (e : Nat) : List Nat :=
  (s.carriages.filter fun x => decide (x.2.entry = e)).map Prod.fst

theorem indicesOf_nodup (ordered : s.CatalogueOrdered) (e : Nat) : (s.indicesOf e).Nodup :=
  carriagesWhere_nodup ordered.carriages_ordered fun x => decide (x.entry = e)

theorem parking_carriages (h : s.Tenancy [] none) (feed : l < 16) (he : e < 63)
    (own : (s.entry e).parkedLane = none ∨ (s.entry e).parkedLane = some l) : (parking s l e).carriages =
      s.carriages.map fun x => (x.1, if x.2.entry = e then x.2.shelvedFrom else x.2.leftBy (s.lane l)) :=
  parkClaim_carriages h feed he own

theorem Carriage.leftBy_entry (x : Carriage) (n : Lane) : (x.leftBy n).entry = x.entry := by
  unfold Carriage.leftBy
  split
  · exact x.shelvedFrom_entry
  · rfl

/-- The attempts of a park are those of the entry's carriages, which all stand shelved (R19). -/
theorem bindParked_parking (h : s.Tenancy [] none) (feed : l < 16) (he : e < 63)
    (own : (s.entry e).parkedLane = none ∨ (s.entry e).parkedLane = some l) : bindParked (parking s l e) l e =
      (s.indicesOf e).foldl (fun u i => attemptBind u i l true) (parking s l e) := by
  refine bindParked_eq ?_
  rw [State.carriagesWhere, parking_carriages h feed he own, List.filter_map, List.map_map, State.indicesOf]
  refine congrArg (List.map Prod.fst) (List.filter_congr fun x _ => ?_)
  by_cases entry : x.2.entry = e
  · simp [entry, x.2.shelvedFrom_state, x.2.shelvedFrom_entry]
  · simp [entry, x.2.leftBy_entry]

theorem parking_parked (h : s.Tenancy [] none) (feed : l < 16) :
    ((parking s l e).lane l).mode = .parked ∧ ((parking s l e).lane l).parkedState = some .await := by
  rw [parking_lane h feed, if_pos rfl]
  exact ⟨rfl, rfl⟩

theorem parking_carriage (h : s.Tenancy [] none) (feed : l < 16) (he : e < 63)
    (own : (s.entry e).parkedLane = none ∨ (s.entry e).parkedLane = some l) {x : Nat × Carriage} (hx : x ∈ s.carriages) :
    (parking s l e).carriage x.1 =
      some (if x.2.entry = e then x.2.shelvedFrom else x.2.leftBy (s.lane l)) := by
  have ordered := (parking_leads s l e).ordered h.ordered
  refine tableGet_of_mem ordered.carriages_ordered ?_
  rw [parking_carriages h feed he own]
  exact List.mem_map_of_mem hx

theorem entryAt_outside (shaped : s.Shaped) {d : Nat} (h : 64 ≤ d) : s.entry d = PlanEntry.fresh := by
  obtain ⟨entries, _⟩ := shaped
  exact List.getD_eq_default _ _ (by omega)

theorem parkClaim_promptSet (s : State) (l e : Nat) : e ∉ (parkClaim s l e).promptSet := by
  simp [parkClaim, leavePrompt]

/-- The claimants of a park are feed lanes, each named once. -/
theorem parkClaimants_lawful (h : s.Tenancy [] none) (he : e < 63) (l : Nat) :
    (parkClaimants s l e).Nodup ∧ ∀ j ∈ parkClaimants s l e, j < 17 := by
  refine ⟨List.Nodup.filter _ ?_, fun j hj => ?_⟩
  · cases (s.entry e).visitingLane <;> simp
  · have := (h.visits_of_lane (e := e) (by omega) (Option.mem_toList.1 (List.mem_filter.1 hj).1)).1
    omega

theorem parkLane_leaves (h : s.Tenancy [] none) (feed : l < 16) (he : e < 63)
    (own : (s.entry e).parkedLane = none ∨ (s.entry e).parkedLane = some l) :
    ParkLeaves s (closeWithClaims s (parkRecord (parkClaim s l e) l e) (parkClaimants s l e)) l e := by
  obtain ⟨nodup, below⟩ := parkClaimants_lawful h he l
  have claims := closeWithClaims_leaves (parkRecord_tenancy h feed he own) s nodup below
  have closed := closeWithClaims_within s (parkRecord (parkClaim s l e) l e) (parkClaimants s l e)
  have recorded : Within [.lanes] (bindParked (parking s l e) l e) (parkRecord (parkClaim s l e) l e) :=
    parkRecord_within (parkClaim s l e) l e
  have bound := bindParked_within (parking s l e) l e
  have laneAt := parkRecord_lane h feed he
  have entryAt : ∀ d, (parkRecord (parkClaim s l e) l e).entry d = (parkClaim s l e).entry d := fun d => by
    have entries : (parkRecord (parkClaim s l e) l e).entries = (parking s l e).entries :=
      (recorded .entries (by decide)).trans (bound .entries (by decide))
    rw [State.entry, entries]
    rfl
  have prompts : (parkRecord (parkClaim s l e) l e).promptSet = (parkClaim s l e).promptSet :=
    (recorded .survey (by decide)).2.trans (bound .survey (by decide)).2
  have attempts := bindParked_parking h feed he own
  have carriages : (closeWithClaims s (parkRecord (parkClaim s l e) l e) (parkClaimants s l e)).carriages =
      ((s.indicesOf e).foldl (fun u i => attemptBind u i l true) (parking s l e)).carriages := by
    rw [← attempts]
    exact (closed .carriages (by decide)).trans (recorded .carriages (by decide))
  have bindings : (closeWithClaims s (parkRecord (parkClaim s l e) l e) (parkClaimants s l e)).bindings =
      ((s.indicesOf e).foldl (fun u i => attemptBind u i l true) (parking s l e)).bindings := by
    rw [← attempts]
    exact (closed .bindings (by decide)).trans (recorded .bindings (by decide))
  generalize closeWithClaims s (parkRecord (parkClaim s l e) l e) (parkClaimants s l e) = t at claims closed carriages bindings ⊢
  obtain ⟨mode, await⟩ := parking_parked (e := e) h feed
  have ordered := (parking_leads s l e).ordered h.ordered
  obtain ⟨taken, kept⟩ := foldl_attemptBind_parked ordered mode await (indicesOf_nodup h.ordered e)
  have carriage : ∀ i, t.carriage i =
      ((s.indicesOf e).foldl (fun u i => attemptBind u i l true) (parking s l e)).carriage i := fun i => by
    simp only [State.carriage, carriages]
  have stands := fun (x : Nat × Carriage) hx => parking_carriage (x := x) h feed he own hx
  have parkedAt : (parkRecord (parkClaim s l e) l e).entry e = { s.entry e with parkedLane := some l, visitingLane := none } := by
    rw [entryAt, parkClaim_entry h feed he (by omega), if_pos rfl]
  have recordAt := laneAt l
  rw [if_pos rfl] at recordAt
  refine
    { lane := ?_, entry := ?_, prompts := ?_, released := ?_, bound := ?_, others := ?_, lanes := ?_, entries := ?_
      attempts := ?_ }
  · exact (claims.lanes l (by rw [recordAt]; nofun)).trans recordAt
  · exact (claims.held e (by simp [State.eligible, parkedAt])).trans parkedAt
  · exact fun prompted => parkClaim_promptSet s l e (prompts ▸ claims.prompts e prompted)
  · intro d entry hd
    have mode : (s.lane l).mode = .parked := by
      by_contra mode
      rw [h.bare (by omega) mode] at entry
      cases entry
    obtain ⟨-, -, d', hd', entry', held⟩ := h.parker (by omega) mode
    obtain rfl : d' = d := Option.some.inj (entry'.symm.trans entry)
    have same := congrArg PlanEntry.parkedLane (claims.entries d')
    dsimp only at same
    rw [same, entryAt, parkClaim_entry h feed he hd', if_neg hd, if_pos held]
  · intro x hx entry
    obtain ⟨y, found, parked⟩ := taken x.1 (List.mem_map.2 ⟨x, List.mem_filter.2 ⟨hx, by simpa using entry⟩, rfl⟩)
      _ (stands x hx)
    rw [if_pos entry] at parked
    exact ⟨y, (carriage x.1).trans found, { parked with figures := x.2.shelvedFrom_sameFigures.trans parked.figures }⟩
  · intro x hx entry
    rw [carriage, kept x.1 fun hm => ?_, stands x hx, if_neg entry]
    obtain ⟨z, hz, same⟩ := List.mem_map.1 hm
    obtain ⟨hz, entry'⟩ := List.mem_filter.1 hz
    have found := tableGet_of_mem h.ordered.carriages_ordered hz
    rw [same, tableGet_of_mem h.ordered.carriages_ordered hx] at found
    rw [← Option.some.inj found] at entry'
    exact entry (of_decide_eq_true entry')
  · intro j hj still
    have same : (parkRecord (parkClaim s l e) l e).lane j = s.lane j := by
      rw [laneAt, if_neg hj, parkClaim_lane h he j hj still]
    exact (claims.lanes j (by rwa [same])).trans same
  · intro d hd
    have shaped := (parkRecord_tenancy h feed he own).shaped
    by_cases below : d < 64
    · have same := (congrArg (fun p : PlanEntry => { p with parkedLane := none }) (claims.entries d))
      dsimp only at same
      rw [same, entryAt, parkClaim_entry h feed he below, if_neg hd]
    · rw [entryAt_outside h.shaped (by omega)]
      have same := (congrArg (fun p : PlanEntry => { p with parkedLane := none }) (claims.entries d))
      dsimp only at same
      rw [same, entryAt_outside shaped (by omega)]
  · intro lawful
    refine ⟨parking s l e, parking_carriages h feed he own, ?_, parking_within s l e .clock (by decide), mode, await, ?_⟩
    · have thin : Thinned s (parking s l e) := (parkClaim_thinned s l e).trans (Thinned.of_eq rfl)
      exact thin.bindings lawful ((parking_leads s l e).keeps (fun _ _ m _ => m.bindingsLawful) h.ordered lawful)
    · exact ⟨carriages, bindings⟩

theorem parkRecordLane_within (s : State) (l e : Nat) (ls : List Nat) :
    Within planParts s (closeWithClaims s (parkRecord (parkClaim s l e) l e) ls) :=
  (((parking_within s l e).trans ((bindParked_within _ l e).mono (by decide))).trans
    ((parkRecord_within (parkClaim s l e) l e).mono (by decide))).trans ((closeWithClaims_within s _ ls).mono (by decide))

/-- The act of PARK LANE on a feed lane, for an entry that it may hold. -/
theorem parkLaneAct_taken {args : List Byte} (feed : byteAt args 0 < 16) (small : byteAt args 1 < 63)
    (word : (s.entry (byteAt args 1)).tuningWord.isSome)
    (own : (s.entry (byteAt args 1)).parkedLane = none ∨ (s.entry (byteAt args 1)).parkedLane = some (byteAt args 0)) :
    parkLaneAct s args =
      answer (closeWithClaims s (parkRecord (parkClaim s (byteAt args 0) (byteAt args 1)) (byteAt args 0) (byteAt args 1))
          (parkClaimants s (byteAt args 0) (byteAt args 1)))
        (bytesOf 1 (byteAt args 0) ++ bytesOf 1 (byteAt args 1) ++ bytesOf 1 (s.lane (byteAt args 0)).tagCounter) := by
  have house : Config.houseLane = 16 := rfl
  have houseEntry : Config.houseEntry = 63 := rfl
  have passes : parkRefusal s (byteAt args 0) (byteAt args 1) = none := by
    have lane : laneRefusal (byteAt args 0) = none := by
      rw [laneRefusal, if_neg (by omega), if_neg (by omega)]
    have full : s.entryEmpty (byteAt args 1) = false := by
      simp [State.entryEmpty, Option.isNone_eq_false_iff.2 word]
    unfold parkRefusal
    rw [lane]
    dsimp only
    rw [if_neg (by omega), full, if_neg Bool.false_ne_true, if_neg]
    rcases own with free | held <;> simp [*]
  unfold parkLaneAct
  simp only [passes]

end

end Sys2Proof.Machine

open Sys2Proof Sys2Proof.Machine Host

/-- Settles O26: the park's record, entries and carriages as its parts leave them, and the attempts and releases by
their own lemmas. -/
theorem parkLaneParksTheLane : Obligations.ParkLaneParksTheLane := by
  refine ⟨?_, ?_, ?_⟩
  · intro s args c rest offers len settled ordered lawful l e n feed small word tuned own
    obtain ⟨v, dropped⟩ : ∃ v, v = dropHead s rest := ⟨_, rfl⟩
    have tenancy : v.Tenancy [] none :=
      dropped ▸ ((tenancy_iff s).2 ⟨ordered, lawful⟩).keep (r := false) (Keeps.of_eq rfl rfl rfl rfl) (mgmt_calm s _).leads
    have entryAt : ∀ d, v.entry d = s.entry d := fun d => dropped ▸ rfl
    have laneAt : ∀ j, v.lane j = s.lane j := fun j => dropped ▸ rfl
    have table : v.carriages = s.carriages := dropped ▸ rfl
    have bindings : v.bindings = s.bindings := dropped ▸ rfl
    have clock : v.clock = s.clock := dropped ▸ rfl
    have survey : v.survey = s.survey := dropped ▸ rfl
    have policy : v.policy = s.policy := dropped ▸ rfl
    have wiring : s.BindingsLawful → v.BindingsLawful := fun h => dropped ▸ h
    have own' : (v.entry e).parkedLane = none ∨ (v.entry e).parkedLane = some l := by rwa [entryAt]
    have act := parkLaneAct_taken (s := v) (args := args) (by omega) (by omega) (by rw [entryAt, tuned]; rfl) own'
    have left := parkLane_leaves tenancy (l := l) (e := e) (by omega) (by omega) own'
    have answered := takeCommand_leaves (code := codeParkLane) offers len dropped act (parkRecordLane_within v _ _ _)
      (by decide) (by decide)
    have carriage : ∀ i, (takeCommand codeParkLane 2 s parkLaneAct).carriage i = _ := fun i => by
      rw [State.carriage, answered.carriages]
    refine ⟨_, rfl, ?_, ?_, ?_, fun d entry hd => ?_, fun x hx entry => ?_, fun x hx entry => ?_, fun j hj still => ?_,
      fun d hd => ?_, ?_, fun h => ?_⟩
    · rw [answered.lane, left.lane, Lane.tunedOn_eq, laneAt, entryAt, tuned, clock, survey, policy]
      rfl
    · rw [answered.entry, left.entry, entryAt]
    · rw [answered.prompts]
      exact left.prompts
    · rw [answered.entry]
      exact left.released d (by rwa [laneAt]) hd
    · obtain ⟨y, found, parked⟩ := left.bound x (table ▸ hx) entry
      exact ⟨y, (carriage x.1).trans found, parked.lane, parked.state, parked.laneDown, parked.stalled, parked.probation,
        parked.figures⟩
    · have released := left.others x (table ▸ hx) entry
      rw [laneAt] at released
      exact (carriage x.1).trans released
    · rw [answered.lane, ← laneAt]
      exact left.lanes j hj (by rwa [laneAt])
    · rw [answered.entry, ← entryAt]
      exact left.entries d hd
    · rw [answered.queue, laneAt]
    · obtain ⟨u, carriages, thinned, now, mode, await, bound⟩ := left.attempts (wiring h)
      rw [table, laneAt] at carriages
      rw [bindings] at thinned
      rw [table] at bound
      exact ⟨u, carriages, thinned, now.trans clock, mode, await, answered.carriages.trans bound.1,
        answered.bindings.trans bound.2⟩
  · intro s i l mark x ordered found nodup t flows
    refine ⟨attemptBind_outcome ordered found mark, attemptBind_handed found l mark, attemptBind_unbindable found mark,
      fun bindable j f => (attemptBind_binding found nodup mark bindable j f).trans ?_⟩
    split
    · cases s.binding l f <;> rfl
    · rfl
  · intro s i x ordered found nodup t
    exact ⟨releaseBindings_outcome ordered found, fun j f => releaseBindings_binding found nodup j f⟩

end

section
namespace Sys2Proof.Machine

open Sys2Proof Host

/-! ## Window counters and bind attempts (R15, R41)

A bind attempt reads no window counter, so that it commutes with clearing the counters of a lane. -/

/-- A binding with the window counters of its lane cleared (step 3 of R86). -/
def Binding.restarted (b : Binding) (l : Nat) : Binding :=
  if b.name.lane = l then { b with n := 0, g := 0, x := 0, peakJ := 0, deviationSeen := false } else b

theorem resetCounters_bindings (s : State) (l : Nat) :
    (resetCounters s l).bindings = s.bindings.map fun b => b.restarted l := rfl

theorem Binding.restarted_name (b : Binding) (l : Nat) : (b.restarted l).name = b.name := by
  unfold Binding.restarted
  split <;> rfl

theorem Binding.restarted_refCount (b : Binding) (l : Nat) : (b.restarted l).refCount = b.refCount := by
  unfold Binding.restarted
  split <;> rfl

theorem Binding.fresh_restarted (name : BindingName) (now : Clock) (l : Nat) :
    (Binding.fresh name now).restarted l = Binding.fresh name now := by
  unfold Binding.restarted
  split <;> rfl

theorem insertBinding_restarted (bs : List Binding) (b : Binding) (l : Nat) :
    (insertBinding bs b).map (fun b => b.restarted l) = insertBinding (bs.map fun b => b.restarted l) (b.restarted l) := by
  induction bs with
  | nil => rfl
  | cons a bs ih =>
    simp only [insertBinding, List.map_cons, Binding.restarted_name]
    split <;> simp [ih]

/-- `u` is `w` with the window counters of lane `l` cleared, as far as bind attempts see. -/
structure Mirrors (l : Nat) (u w : State) : Prop where
  clock : u.clock = w.clock
  lanes : u.lanes = w.lanes
  bindings : u.bindings = w.bindings.map fun b => b.restarted l

section

variable {l : Nat} {u w : State}

theorem Mirrors.binding (h : Mirrors l u w) (j f : Nat) : u.binding j f = (w.binding j f).map fun b => b.restarted l := by
  rw [State.binding_mk, State.binding_mk, h.bindings, findBinding_map _ _ _ fun b => b.restarted_name l]

theorem Mirrors.joinBinding (h : Mirrors l u w) (name : BindingName) :
    Mirrors l (joinBinding u name) (joinBinding w name) := by
  unfold Machine.joinBinding
  rw [h.binding]
  cases w.binding name.lane name.flow with
  | none =>
    refine ⟨h.clock, h.lanes, ?_⟩
    simp only [Option.map_none, insertBinding_restarted, Binding.fresh_restarted, h.bindings, h.clock]
  | some b =>
    refine ⟨h.clock, h.lanes, ?_⟩
    simp only [Option.map_some, State.modBinding, h.bindings, List.map_map]
    refine List.map_congr_left fun b _ => ?_
    simp only [Function.comp_apply, Binding.restarted_name]
    by_cases named : b.name = name
    · simp only [named, if_true, Binding.restarted]
      split <;> rfl
    · simp only [named, if_false]

theorem Mirrors.foldl_joinBinding (h : Mirrors l u w) (names : List BindingName) :
    Mirrors l (names.foldl Machine.joinBinding u) (names.foldl Machine.joinBinding w) := by
  induction names generalizing u w with
  | nil => exact h
  | cons m ms ih => exact ih (h.joinBinding m)

theorem Mirrors.canBind (h : Mirrors l u w) (j : Nat) (cs : List Component) : canBind u j cs = canBind w j cs := by
  unfold Machine.canBind
  rw [h.bindings, List.length_map]
  simp only [h.binding, Option.isNone_map]
  refine congrArg (· && _) (congrArg (List.all cs) (funext fun c => ?_))
  cases w.binding j c.flow with
  | none => rfl
  | some b => exact congrArg (fun k => decide (k < Config.maxSharers)) (b.restarted_refCount l)

theorem Mirrors.attempted (h : Mirrors l u w) (j : Nat) (mark : Bool) (x : Carriage) :
    u.attempted j mark x = w.attempted j mark x := by
  simp only [State.attempted, h.canBind, State.boundState, State.laneDownOf, State.markOn, State.lane, h.lanes, h.clock]
  rfl

theorem Mirrors.attemptBind (h : Mirrors l u w) {c : Nat} (same : u.carriage c = w.carriage c) (j : Nat) (mark : Bool) :
    Mirrors l (attemptBind u c j mark) (attemptBind w c j mark) := by
  cases found : w.carriage c with
  | none =>
    rwa [attemptBind_none found, attemptBind_none (same.trans found)]
  | some x =>
    have hw := attemptBind_within w c j mark
    have hu := attemptBind_within u c j mark
    refine ⟨((hu .clock (by decide)).trans h.clock).trans (hw .clock (by decide)).symm,
      ((hu .lanes (by decide)).trans h.lanes).trans (hw .lanes (by decide)).symm, ?_⟩
    rw [attemptBind_bindings found, attemptBind_bindings (same.trans found), h.canBind]
    split
    · exact (h.foldl_joinBinding _).bindings
    · exact h.bindings

/-- A retry of a carriage that stands the same in both. -/
theorem Mirrors.retryBind (h : Mirrors l u w) (hu : u.CatalogueOrdered) (hw : w.CatalogueOrdered) {c : Nat}
    (same : u.carriage c = w.carriage c) (j : Nat) :
    Mirrors l (retryBind u c j) (retryBind w c j) ∧ (retryBind u c j).carriage c = (retryBind w c j).carriage c := by
  unfold Machine.retryBind
  rw [same]
  cases found : w.carriage c with
  | none => exact ⟨h, by rw [same]⟩
  | some x =>
    dsimp only
    rw [h.canBind]
    split
    · refine ⟨h.attemptBind same j true, ?_⟩
      rw [attemptBind_carriage hw found, attemptBind_carriage hu (same.trans found), h.attempted]
    · exact ⟨h, by rw [same]⟩

theorem retryBind_ordered {s : State} (c l : Nat) (ordered : s.CatalogueOrdered) : (retryBind s c l).CatalogueOrdered := by
  unfold Machine.retryBind
  split
  · exact ordered
  · split
    · exact attemptBind_ordered c l true ordered
    · exact ordered

/-- A fold whose rounds change their own carriage alone leaves every other carriage. -/
theorem foldl_own_kept {f : State → Nat → State} (ordered : ∀ u c, u.CatalogueOrdered → (f u c).CatalogueOrdered)
    (own : ∀ u c d, u.CatalogueOrdered → d ≠ c → (f u c).carriage d = u.carriage d) {s : State} (hs : s.CatalogueOrdered)
    {cs : List Nat} {c : Nat} (new : c ∉ cs) : (cs.foldl f s).carriage c = s.carriage c := by
  induction cs generalizing s with
  | nil => rfl
  | cons d cs ih =>
    obtain ⟨ne, rest⟩ := not_or.1 fun hm => new (List.mem_cons.2 hm)
    exact (ih (ordered s d hs) rest).trans (own s d c hs ne)

theorem foldl_retryBind_kept {s : State} (ordered : s.CatalogueOrdered) {cs : List Nat} {c : Nat} (new : c ∉ cs) (l : Nat) :
    (cs.foldl (fun s c => retryBind s c l) s).carriage c = s.carriage c :=
  foldl_own_kept (fun _ c hu => retryBind_ordered c l hu) (fun u c d hu => retryBind_own u c l d hu) ordered new

/-- Retries of carriages that stand the same in both. -/
theorem Mirrors.foldl_retryBind (h : Mirrors l u w) (hu : u.CatalogueOrdered) (hw : w.CatalogueOrdered) {cs : List Nat}
    (nodup : cs.Nodup) (same : ∀ c ∈ cs, u.carriage c = w.carriage c) (j : Nat) :
    Mirrors l (cs.foldl (fun s c => Machine.retryBind s c j) u) (cs.foldl (fun s c => Machine.retryBind s c j) w) ∧
      ∀ c ∈ cs, (cs.foldl (fun s c => Machine.retryBind s c j) u).carriage c =
        (cs.foldl (fun s c => Machine.retryBind s c j) w).carriage c := by
  induction cs generalizing u w with
  | nil => exact ⟨h, by nofun⟩
  | cons c cs ih =>
    obtain ⟨new, nodup'⟩ := List.nodup_cons.1 nodup
    obtain ⟨mirrors, alike⟩ := h.retryBind hu hw (same c (List.mem_cons_self ..)) j
    have orderedU := retryBind_ordered c j hu
    have orderedW := retryBind_ordered c j hw
    obtain ⟨mirrors', changed⟩ := ih mirrors orderedU orderedW nodup' fun d hd => by
      have other : d ≠ c := fun e => new (e ▸ hd)
      rw [retryBind_own u c j d hu other, retryBind_own w c j d hw other]
      exact same d (List.mem_cons_of_mem _ hd)
    refine ⟨mirrors', fun d hd => ?_⟩
    rcases List.mem_cons.1 hd with rfl | hd
    · rw [List.foldl_cons, List.foldl_cons, foldl_retryBind_kept orderedU new, foldl_retryBind_kept orderedW new, alike]
    · exact changed d hd

end

end Sys2Proof.Machine
end

section
namespace Sys2Proof.Machine

open Sys2Proof Host

/-! ## Folds that change each carriage of a list once -/

/-- A fold over distinct carriages whose rounds each put `F` of its own carriage, as a map of the records. -/
theorem foldl_map_own {f : State → Nat → State} {I : State → Prop} {F : Carriage → Carriage}
    (ordered : ∀ u c, u.CatalogueOrdered → (f u c).CatalogueOrdered)
    (step : ∀ u c, u.CatalogueOrdered → I u →
      (f u c).carriages = u.carriages.map fun x => (x.1, if x.1 = c then F x.2 else x.2))
    (keeps : ∀ u c, I u → I (f u c)) {cs : List Nat} (nodup : cs.Nodup) {s : State} (hs : s.CatalogueOrdered) (hI : I s) :
    (cs.foldl f s).carriages = s.carriages.map fun x => (x.1, if x.1 ∈ cs then F x.2 else x.2) := by
  induction cs generalizing s with
  | nil => simp
  | cons c cs ih =>
    obtain ⟨new, nodup'⟩ := List.nodup_cons.1 nodup
    rw [List.foldl_cons, ih nodup' (ordered s c hs) (keeps s c hI), step s c hs hI, List.map_map]
    refine List.map_congr_left fun x _ => ?_
    by_cases hc : x.1 = c
    · subst hc
      simp [new]
    · simp [hc]

theorem mem_carriagesWhere_of_mem {s : State} (ordered : s.CatalogueOrdered) (p : Carriage → Bool) {x : Nat × Carriage}
    (hx : x ∈ s.carriages) : x.1 ∈ s.carriagesWhere p ↔ p x.2 = true := by
  rw [mem_carriagesWhere ordered.carriages_ordered]
  constructor
  · rintro ⟨y, hy, hp⟩
    rw [ordered.carriage_of_mem hx] at hy
    rwa [Option.some.inj hy]
  · exact fun hp => ⟨x.2, ordered.carriage_of_mem hx, hp⟩

/-- The same fold over the carriages that `p` picks. -/
theorem foldlWhere_map_own {f : State → Nat → State} {I : State → Prop} {F : Carriage → Carriage}
    (ordered : ∀ u c, u.CatalogueOrdered → (f u c).CatalogueOrdered)
    (step : ∀ u c, u.CatalogueOrdered → I u →
      (f u c).carriages = u.carriages.map fun x => (x.1, if x.1 = c then F x.2 else x.2))
    (keeps : ∀ u c, I u → I (f u c)) {s : State} (hs : s.CatalogueOrdered) (hI : I s) (p : Carriage → Bool) :
    ((s.carriagesWhere p).foldl f s).carriages = s.carriages.map fun x => (x.1, if p x.2 then F x.2 else x.2) := by
  rw [foldl_map_own ordered step keeps (carriagesWhere_nodup hs.carriages_ordered p) hs hI]
  exact List.map_congr_left fun x hx => by simp only [mem_carriagesWhere_of_mem hs p hx]

/-! ## The scored carriages of a window end (R84 to R86) -/

section

variable {s : State} {l c : Nat}

theorem inputsOf_of_bindings {s t : State} (h : t.bindings = s.bindings) (x : Carriage) (m : Nat) :
    t.inputsOf x m = s.inputsOf x m := by
  have binding : ∀ d : Component, t.bindingOf d = s.bindingOf d := fun d => by
    simp only [State.bindingOf, State.binding, h]
  have timing : t.timingBinding x = s.timingBinding x := by
    simp only [State.timingBinding, funext binding]
  simp only [State.inputsOf, State.counterSum, timing, binding]

/-- What scoring makes of a carriage at a window end of lane `l` of the state. -/
def State.scoring (s : State) (l : Nat) (x : Carriage) : Carriage := x.scored s.policy (s.inputsOf x (s.windowM l))

theorem scoreCarriage_map (s : State) (l c : Nat) : (scoreCarriage s l c).carriages =
    s.carriages.map fun x => (x.1, if x.1 = c then s.scoring l x.2 else x.2) := by
  unfold scoreCarriage
  split
  · rename_i gone
    refine (List.map_congr_left fun x hx => ?_).trans (List.map_id _) |>.symm
    rw [if_neg (tableGet_eq_none.1 gone x hx), id]
  · exact tableModify_eq_map s.carriages c (s.scoring l)

theorem scoreCarriage_ordered (s : State) (l c : Nat) (ordered : s.CatalogueOrdered) :
    (scoreCarriage s l c).CatalogueOrdered :=
  (scoreCarriage_leads (r := false) (B := anyBind) s l c).ordered ordered

/-- The carriages after the scoring of a window end. -/
theorem scoreLane_carriages (ordered : s.CatalogueOrdered) (l : Nat) : (scoreLane s l).carriages =
    s.carriages.map fun x => (x.1, if x.2.scoredOn l && !s.windowVoid l then s.scoring l x.2 else x.2) := by
  unfold scoreLane
  split
  · rename_i void
    simp [void]
  · rename_i full
    rw [foldlWhere_map_own (I := fun u => u.policy = s.policy ∧ u.bindings = s.bindings ∧ u.lanes = s.lanes)
      (F := s.scoring l) (fun u c hu => scoreCarriage_ordered u l c hu) (fun u c _ alike => ?_) (fun u c alike => ?_) ordered
      ⟨rfl, rfl, rfl⟩]
    · simp [full]
    · obtain ⟨policy, bindings, lanes⟩ := alike
      rw [scoreCarriage_map]
      simp only [State.scoring, inputsOf_of_bindings bindings, policy, State.windowM, State.lane, lanes]
    · obtain ⟨policy, bindings, lanes⟩ := alike
      have within := scoreCarriage_within u l c
      exact ⟨(within .settings (by decide)).1.trans policy, (within .bindings (by decide)).trans bindings,
        (within .lanes (by decide)).trans lanes⟩

end

end Sys2Proof.Machine
end

section
namespace Sys2Proof.Machine

open Sys2Proof Host

/-! ## What a window end leaves (R17, R41 to R43, R84 to R86) -/

section

variable {s : State} {l : Nat}

/-- A lane's INCOMPLETE carriages, in index order. -/
def State.retriesOn (s : State) (l : Nat) : List Nat :=
  s.carriagesWhere fun x => x.lane = some l && x.state = .incomplete

theorem scoring_lane (s : State) (l : Nat) (x : Carriage) : (s.scoring l x).lane = x.lane := rfl

theorem scoring_isScored (s : State) (l : Nat) {x : Carriage} (h : x.state.isScored = true) :
    (s.scoring l x).state.isScored = true := by
  rcases nextState_class s.policy x.state (decide (s.policy.failThreshold ≤ windowScore (s.inputsOf x (s.windowM l))))
    (s.scoring l x).probation (s.scoring l x).faultScore with same | ⟨-, scored⟩
  · exact (congrArg CarriageState.isScored same).trans h
  · exact scored

/-- Scoring leaves the carriages that a window end retries. -/
theorem scoreLane_retriesOn (ordered : s.CatalogueOrdered) (l : Nat) : (scoreLane s l).retriesOn l = s.retriesOn l := by
  unfold State.retriesOn State.carriagesWhere
  rw [scoreLane_carriages ordered, List.filter_map, List.map_map]
  refine congrArg (List.map Prod.fst) (List.filter_congr fun x _ => ?_)
  simp only [Function.comp_apply]
  split
  · rename_i scored
    have isScored : x.2.state.isScored = true := by
      simp only [Carriage.scoredOn, Bool.and_eq_true] at scored
      exact scored.1.1.2
    have left := scoring_isScored s l isScored
    rw [scoring_lane]
    cases before : x.2.state <;> cases after : (s.scoring l x.2).state <;> simp_all [CarriageState.isScored]
  · rfl

/-- The state of a window end after its retries. -/
def retriedLane (s : State) (l : Nat) : State := retryAll (resetCounters (scoreLane s l) l) l

/-- The retries of a window end, taken in the state that it began in. -/
def retriesOf (s : State) (l : Nat) : State := (s.retriesOn l).foldl (fun u c => retryBind u c l) s

theorem retriedLane_eq (ordered : s.CatalogueOrdered) (l : Nat) : retriedLane s l =
    (s.retriesOn l).foldl (fun u c => retryBind u c l) (resetCounters (scoreLane s l) l) := by
  rw [← scoreLane_retriesOn ordered]
  rfl

theorem resetCounters_ordered (ordered : s.CatalogueOrdered) (l : Nat) :
    (resetCounters (scoreLane s l) l).CatalogueOrdered :=
  ((scoreLane_leads (r := false) (B := anyBind) s l).trans (resetCounters_leads _ l)).ordered ordered

theorem resetCounters_carriage (ordered : s.CatalogueOrdered) (l : Nat) {x : Nat × Carriage} (hx : x ∈ s.carriages) :
    (resetCounters (scoreLane s l) l).carriage x.1 =
      some (if x.2.scoredOn l && !s.windowVoid l then s.scoring l x.2 else x.2) := by
  refine tableGet_of_mem (resetCounters_ordered ordered l).carriages_ordered ?_
  show _ ∈ (scoreLane s l).carriages
  rw [scoreLane_carriages ordered]
  exact List.mem_map_of_mem hx

theorem mem_retriesOn (ordered : s.CatalogueOrdered) {x : Nat × Carriage} (hx : x ∈ s.carriages) :
    x.1 ∈ s.retriesOn l ↔ x.2.lane = some l ∧ x.2.state = .incomplete := by
  rw [State.retriesOn, mem_carriagesWhere_of_mem ordered _ hx, Bool.and_eq_true, decide_eq_true_eq, decide_eq_true_eq]

theorem not_scoredOn_of_incomplete {x : Carriage} (h : x.state = .incomplete) : x.scoredOn l = false := by
  simp [Carriage.scoredOn, h, CarriageState.isScored]

theorem retriedLane_mirrors (ordered : s.CatalogueOrdered) (l : Nat) :
    Mirrors l (retriedLane s l) (retriesOf s l) ∧
      ∀ c ∈ s.retriesOn l, (retriedLane s l).carriage c = (retriesOf s l).carriage c := by
  have scored := scoreLane_within s l
  have mirrors : Mirrors l (resetCounters (scoreLane s l) l) s := by
    refine ⟨scored .clock (by decide), scored .lanes (by decide), ?_⟩
    rw [resetCounters_bindings, show (scoreLane s l).bindings = s.bindings from scored .bindings (by decide)]
  rw [retriedLane_eq ordered]
  refine mirrors.foldl_retryBind (resetCounters_ordered ordered l) ordered
    (carriagesWhere_nodup ordered.carriages_ordered _) (fun c hc => ?_) l
  obtain ⟨x, found, -⟩ := (mem_carriagesWhere ordered.carriages_ordered _ c).1 hc
  have hx := State.carriage_mem found
  obtain ⟨-, incomplete⟩ := (mem_retriesOn ordered hx).1 hc
  rw [found, resetCounters_carriage ordered l hx, not_scoredOn_of_incomplete incomplete]
  rfl

/-- A retry leaves its carriage INCOMPLETE, or with its mark set. -/
theorem retriesOf_carriage (ordered : s.CatalogueOrdered) (parked : (s.lane l).mode = .parked) :
    ∀ c ∈ s.retriesOn l, ∃ y, (retriesOf s l).carriage c = some y ∧ (y.state = .incomplete ∨ y.wholeWindow = some true) := by
  intro c hc
  have step : ∀ (u : State) (c : Nat) (x : Carriage), u.CatalogueOrdered → u.lanes = s.lanes → u.carriage c = some x →
      ∃ y, (retryBind u c l).carriage c = some y ∧
        (x.state = .incomplete → y.state = .incomplete ∨ y.wholeWindow = some true) := by
    intro u c x hu lanes found
    have mode : (u.lane l).mode = .parked := by rw [State.lane, lanes]; exact parked
    unfold retryBind
    rw [found]
    dsimp only
    split
    · rename_i can
      refine ⟨_, attemptBind_carriage hu found l true, fun _ => .inr ?_⟩
      rw [State.attempted, if_pos can]
      simp [Carriage.bound, State.markOn, mode]
    · exact ⟨x, found, .inl⟩
  obtain ⟨changed, -⟩ := foldl_own_result (f := fun u c => retryBind u c l) (fun u c hu => retryBind_ordered c l hu) step
    (fun u c lanes => (retryBind_within u c l .lanes (by decide)).trans lanes)
    (fun u c d hu => retryBind_own u c l d hu)
    (carriagesWhere_nodup ordered.carriages_ordered fun x => x.lane = some l && x.state = .incomplete) ordered rfl
  obtain ⟨x, found, incomplete⟩ := (mem_carriagesWhere ordered.carriages_ordered _ c).1 hc
  obtain ⟨y, hy, outcome⟩ := changed c hc x found
  simp only [Bool.and_eq_true, decide_eq_true_eq] at incomplete
  exact ⟨y, hy, outcome incomplete.2⟩

/-- The record of a carriage once the marks are set (R84). -/
def Carriage.marked (x : Carriage) (l : Nat) : Carriage :=
  if x.lane = some l && x.state.isScored then { x with wholeWindow := some true } else x

theorem setMarks_carriage (u : State) (l c : Nat) : (setMarks u l).carriage c = (u.carriage c).map fun x => x.marked l := by
  have marks : (setMarks u l).carriages = u.carriages.map fun x => (x.1, x.2.marked l) := by
    refine List.map_congr_left fun x _ => ?_
    unfold Carriage.marked
    split <;> rfl
  rw [State.carriage, marks]
  exact tableGet_map u.carriages (fun x => x.2.marked l) c

theorem windowEnd_carriage (s : State) (l c : Nat) :
    (windowEnd s l).carriage c = ((retriedLane s l).carriage c).map fun x => x.marked l := by
  have before : Within [.lanes] (retriedLane s l) (clearWindow (laneHealth (retriedLane s l) l) l) :=
    (laneHealth_within _ l).trans (modLane_within _ l _)
  refine (setMarks_carriage _ l c).trans ?_
  have table : (clearWindow (laneHealth (retriedLane s l) l) l).carriages = (retriedLane s l).carriages :=
    before .carriages (by decide)
  exact congrArg (fun t => (tableGet t c).map fun x => x.marked l) table

theorem windowEnd_bindings (s : State) (l : Nat) : (windowEnd s l).bindings = (retriedLane s l).bindings := by
  have after : Within [.lanes, .carriages] (retriedLane s l) (windowEnd s l) :=
    (((laneHealth_within (retriedLane s l) l).mono (by decide)).trans ((modLane_within _ l _).mono (by decide))).trans
      ((setMarks_within _ l).mono (by decide)) |>.trans ((modLane_within _ l _).mono (by decide))
  exact after .bindings (by decide)

end

end Sys2Proof.Machine
end

section
namespace Sys2Proof.Machine

open Sys2Proof Host

/-! ## Stage 6 (R96) -/

theorem meritStep_zero (k : Nat) : meritStep 0 k = 0 := by simp [meritStep]

theorem meritStep_rise {d : Nat} (h : 0 < d) (k : Nat) : meritStep (d : Int) k = ((max 1 (d / 2 ^ k) : Nat) : Int) := by
  have step : (d : Int).tdiv (2 ^ k) = ((d / 2 ^ k : Nat) : Int) := by
    rw [Int.tdiv_eq_ediv_of_nonneg (by omega)]
    push_cast
    rfl
  unfold meritStep
  simp only [step]
  generalize d / 2 ^ k = q
  split
  · rw [if_pos (by omega)]
    omega
  · omega

theorem meritStep_fall {d : Nat} (h : 0 < d) (k : Nat) : meritStep (-(d : Int)) k = -((max 1 (d / 2 ^ k) : Nat) : Int) := by
  have step : (-(d : Int)).tdiv (2 ^ k) = -((d / 2 ^ k : Nat) : Int) := by
    rw [Int.neg_tdiv, Int.tdiv_eq_ediv_of_nonneg (by omega)]
    push_cast
    rfl
  unfold meritStep
  simp only [step]
  generalize d / 2 ^ k = q
  split
  · rw [if_neg (by omega)]
    omega
  · omega

theorem nextMerit_same (g k : Nat) : nextMerit (some g) g k = g := by
  simp only [nextMerit, sub_self, meritStep_zero]
  split <;> simp

theorem nextMerit_rise {g w k : Nat} (hk : 0 < k) (h : g < w) :
    nextMerit (some g) w k = g + max 1 ((w - g) / 2 ^ k) := by
  have d : (w : Int) - g = ((w - g : Nat) : Int) := by omega
  simp only [nextMerit, if_neg (Nat.ne_of_gt hk), d, meritStep_rise (Nat.sub_pos_of_lt h)]
  omega

theorem nextMerit_fall {g w k : Nat} (hk : 0 < k) (h : w < g) :
    nextMerit (some g) w k = g - max 1 ((g - w) / 2 ^ k) := by
  have d : (w : Int) - g = -((g - w : Nat) : Int) := by omega
  simp only [nextMerit, if_neg (Nat.ne_of_gt hk), d, meritStep_fall (Nat.sub_pos_of_lt h)]
  omega

/-! ## The lane's record (R41 to R43) -/

/-- A lane's record as a window of it ends: its health, the window figures cleared, and the next window. -/
def Lane.windowed (n : Lane) (feed : Bool) (p : Policy) (now : Clock) : Lane :=
  { (if feed then n.faultScored.degradeTested p else n) with
    windowMargin := none, windowStatusCount := 0, uncorrectedSeen := false, headerErrorSeen := false
    windowTimer := some { start := now, span := micros (250 * p.windowLength) } }

section

variable {s : State} {l : Nat}

theorem retriedLane_within (s : State) (l : Nat) : Within [.carriages, .bindings, .handed] s (retriedLane s l) :=
  (((scoreLane_within s l).mono (by decide)).trans ((resetCounters_within _ l).mono (by decide))).trans
    (retryAll_within _ l)

theorem windowEnd_lane (shaped : s.Shaped) (hl : l < 17) (j : Nat) :
    (windowEnd s l).lane j = if j = l then (s.lane l).windowed (isFeed l) s.policy s.clock else s.lane j := by
  have within := retriedLane_within s l
  obtain ⟨u, hu⟩ : ∃ u, u = retriedLane s l := ⟨_, rfl⟩
  have lanes : u.lanes = s.lanes := hu ▸ within .lanes (by decide)
  have policy : u.policy = s.policy := hu ▸ (within .settings (by decide)).1
  have clock : u.clock = s.clock := hu ▸ within .clock (by decide)
  have record : (windowEnd s l).lanes = u.lanes.modify l fun n => n.windowed (isFeed l) u.policy u.clock := by
    rw [hu]
    show ((laneHealth (retriedLane s l) l).lanes.modify l _).modify l _ = _
    rw [modify_modify_same]
    unfold laneHealth Lane.windowed
    split
    · exact modify_modify_same ..
    · rfl
  rw [State.lane, record, policy, clock, lanes]
  exact shaped.lane_modLane hl _ j

theorem Lane.windowFails_iff {n : Lane} {tm : Timer} (timer : n.windowTimer = some tm) : n.windowFails = true ↔
    n.windowStatusCount < tm.span / 1000 / n.statusInterval ∨ n.uncorrectedSeen = true ∨ n.headerErrorSeen = true ∨
      n.parkedState ≠ some .locked := by
  simp [Lane.windowFails, timer, or_assoc]

/-- The health of a feed lane after a window end (R42, R43). -/
theorem Lane.faultScored_degradeTested (n : Lane) (p : Policy) :
    let m := n.faultScored.degradeTested p
    m.faultScore = (if n.windowFails then min (n.faultScore + 8) 255 else n.faultScore - 1) ∧
      (n.degraded = false → m.degraded = decide (p.faultLimit ≤ m.faultScore)) ∧
      (n.degraded = true → m.degraded = decide (p.faultClear < m.faultScore)) ∧
      m.laneFlag = (n.laneFlag || (m.degraded != n.degraded)) ∧
      m.flagCauses =
        { n.flagCauses with
          degraded := n.flagCauses.degraded || (m.degraded && !n.degraded)
          recovered := n.flagCauses.recovered || (n.degraded && !m.degraded) } := by
  obtain ⟨z, hz⟩ : ∃ z, z = if n.windowFails then min (n.faultScore + 8) 255 else n.faultScore - 1 := ⟨_, rfl⟩
  have degraded : n.faultScored.degraded = n.degraded := rfl
  have score : n.faultScored.faultScore = z := hz ▸ rfl
  have flag : n.faultScored.laneFlag = n.laneFlag := rfl
  have causes : n.faultScored.flagCauses = n.flagCauses := rfl
  rw [← hz]
  cases was : n.degraded <;> simp only [Lane.degradeTested, degraded, was, score]
  · by_cases h : p.faultLimit ≤ z <;> simp [h, Lane.cause, degraded, was, score, flag, causes]
  · have above : p.faultClear < z ↔ ¬ z ≤ p.faultClear := Nat.not_le.symm
    by_cases h : z ≤ p.faultClear <;> simp [above, h, Lane.cause, degraded, was, score, flag, causes]

end

end Sys2Proof.Machine
end

section
namespace Sys2Proof.Machine

open Sys2Proof Host

/-! ## The carriages after a window end (R17, R84 to R86) -/

section

variable {s : State} {l : Nat} {x : Nat × Carriage}

/-- A carriage that held its bindings on lane `l` (R18). -/
def Carriage.heldOn (x : Carriage) (l : Nat) : Prop := x.lane = some l ∧ x.state.isScored = true

theorem Carriage.heldOn_iff (x : Carriage) (l : Nat) : x.heldOn l ↔
    x.lane = some l ∧ (x.state = .probation ∨ x.state = .usable ∨ x.state = .faulted) := by
  unfold Carriage.heldOn
  cases x.state <;> simp [CarriageState.isScored]

theorem Carriage.marked_held {x : Carriage} (h : x.heldOn l) : x.marked l = { x with wholeWindow := some true } :=
  if_pos (by simp [h.1, h.2])

theorem Carriage.marked_other {x : Carriage} (h : ¬ x.heldOn l) : x.marked l = x :=
  if_neg fun held => h (by simpa [Carriage.heldOn] using held)

theorem scoring_heldOn (h : x.2.heldOn l) : (s.scoring l x.2).heldOn l := ⟨h.1, scoring_isScored s l h.2⟩

/-- A carriage that is not retried stands as the scoring and the marks leave it. -/
theorem windowEnd_unretried (ordered : s.CatalogueOrdered) (hx : x ∈ s.carriages) (kept : x.1 ∉ s.retriesOn l) :
    (windowEnd s l).carriage x.1 =
      some ((if x.2.scoredOn l && !s.windowVoid l then s.scoring l x.2 else x.2).marked l) := by
  rw [windowEnd_carriage, retriedLane_eq ordered, foldl_retryBind_kept (resetCounters_ordered ordered l) kept,
    resetCounters_carriage ordered l hx]
  rfl

theorem not_retried_of_heldOn (ordered : s.CatalogueOrdered) (hx : x ∈ s.carriages) (h : x.2.heldOn l) :
    x.1 ∉ s.retriesOn l := fun hm => by
  have held := h.2
  rw [((mem_retriesOn ordered hx).1 hm).2] at held
  cases held

theorem windowEnd_untouched (ordered : s.CatalogueOrdered) (hx : x ∈ s.carriages) (free : ¬ x.2.heldOn l)
    (whole : x.2.state ≠ .incomplete ∨ x.2.lane ≠ some l) : (windowEnd s l).carriage x.1 = some x.2 := by
  have unscored : x.2.scoredOn l = false := by
    refine Bool.eq_false_iff.2 fun scored => free ?_
    simp only [Carriage.scoredOn, Bool.and_eq_true, decide_eq_true_eq] at scored
    exact scored.1
  rw [windowEnd_unretried ordered hx fun hm => ?_, unscored, Bool.false_and, if_neg Bool.false_ne_true,
    Carriage.marked_other free]
  obtain ⟨lane, incomplete⟩ := (mem_retriesOn ordered hx).1 hm
  exact whole.elim (· incomplete) (· lane)

theorem windowEnd_unscored (ordered : s.CatalogueOrdered) (hx : x ∈ s.carriages) (held : x.2.heldOn l)
    (unscored : s.windowVoid l = true ∨ x.2.wholeWindow ≠ some true) :
    (windowEnd s l).carriage x.1 = some { x.2 with wholeWindow := some true } := by
  rw [windowEnd_unretried ordered hx (not_retried_of_heldOn ordered hx held), if_neg, Carriage.marked_held held]
  rcases unscored with void | mark <;> simp [Carriage.scoredOn, *]

theorem windowEnd_scored (ordered : s.CatalogueOrdered) (hx : x ∈ s.carriages) (held : x.2.heldOn l)
    (full : s.windowVoid l = false) (mark : x.2.wholeWindow = some true) :
    (windowEnd s l).carriage x.1 = some { s.scoring l x.2 with wholeWindow := some true } := by
  obtain ⟨lane, isScored⟩ := held
  rw [windowEnd_unretried ordered hx (not_retried_of_heldOn ordered hx ⟨lane, isScored⟩), if_pos,
    Carriage.marked_held (scoring_heldOn ⟨lane, isScored⟩)]
  simp [Carriage.scoredOn, lane, isScored, full, mark]

theorem windowEnd_retried (ordered : s.CatalogueOrdered) (parked : (s.lane l).mode = .parked) (hx : x ∈ s.carriages)
    (incomplete : x.2.state = .incomplete) (lane : x.2.lane = some l) :
    (windowEnd s l).carriage x.1 = (retriesOf s l).carriage x.1 := by
  have hm := (mem_retriesOn (l := l) ordered hx).2 ⟨lane, incomplete⟩
  obtain ⟨y, found, outcome⟩ := retriesOf_carriage ordered parked x.1 hm
  rw [windowEnd_carriage, (retriedLane_mirrors ordered l).2 x.1 hm, found, Option.map_some]
  refine congrArg some ?_
  rcases outcome with still | mark
  · exact Carriage.marked_other fun held => by simp [Carriage.heldOn, still, CarriageState.isScored] at held
  · unfold Carriage.marked
    rw [← mark]
    split <;> rfl

/-- The merit, the counts and the state that a scored window leaves (R96 to R101). -/
theorem scoring_eq (s : State) (l : Nat) {x : Carriage} (isScored : x.state.isScored = true) :
    let p := s.policy
    let inputs := s.inputsOf x (s.windowM l)
    let w := windowScore inputs
    let z := if w < p.failThreshold then min (x.faultScore + 8) 255 else x.faultScore - 1
    let count := if x.state ≠ .probation then x.probation
      else if w < p.failThreshold then 0 else min (x.probation + 1) 15
    { s.scoring l x with wholeWindow := some true } =
      { x with
        merit := some (nextMerit x.merit w p.smoothingShift), faultScore := z, peakFault := max x.peakFault z
        probation := count, lastWindow := some (windowRecord inputs), wholeWindow := some true
        state := match x.state with
          | .probation =>
            if p.failThreshold ≤ w ∧ p.probationWindows ≤ count then
              if z < p.faultLimit then .usable else .faulted
            else .probation
          | .usable => if p.faultLimit ≤ z then .faulted else .usable
          | st => if z ≤ p.faultClear then .usable else st } := by
  intro p inputs w z count
  have fault : nextFault x.faultScore (decide (p.failThreshold ≤ w)) = z := by
    by_cases fails : w < p.failThreshold
    · simp [nextFault, z, fails]
    · simp [nextFault, z, fails, Nat.not_lt.1 fails]
  have counted : (if x.state = .probation then nextProbation x.probation (decide (p.failThreshold ≤ w)) else x.probation) =
      count := by
    by_cases probation : x.state = .probation
    · by_cases fails : w < p.failThreshold
      · simp [nextProbation, count, probation, fails]
      · simp [nextProbation, count, probation, fails, Nat.not_lt.1 fails, saturate]
    · simp [count, probation]
  have state : nextState p x.state (decide (p.failThreshold ≤ w)) count z = match x.state with
      | .probation =>
        if p.failThreshold ≤ w ∧ p.probationWindows ≤ count then
          if z < p.faultLimit then .usable else .faulted
        else .probation
      | .usable => if p.faultLimit ≤ z then .faulted else .usable
      | st => if z ≤ p.faultClear then .usable else st := by
    cases before : x.state <;> simp [before, CarriageState.isScored] at isScored <;> simp [nextState]
  rw [← state, ← counted, ← fault]
  rfl

theorem windowM_eq (s : State) (hl : l < 17) :
    s.windowM l = if l = 16 then 120 else (s.lane l).windowMargin.getD 0 := by
  have house : Config.houseLane = 16 := rfl
  unfold State.windowM isFeed
  rw [house]
  by_cases h : l = 16
  · simp [h]
  · simp [h, show l < 16 by omega]

theorem windowVoid_iff (s : State) (l : Nat) :
    s.windowVoid l = true ↔ l < 16 ∧ (s.lane l).parkedState ≠ some .locked := by
  have house : Config.houseLane = 16 := rfl
  simp [State.windowVoid, isFeed, house]

theorem windowEnd_due {tm : Timer} (awake : s.resetHeld = false) (small : l ≤ 16) (parked : (s.lane l).mode = .parked)
    (timer : (s.lane l).windowTimer = some tm) (due : tm.span ≤ (s.clock - tm.start).toNat) :
    exec (.windowEnd l) s = .next (settleNotice s (closeAct s (windowEnd s l))) := by
  have house : ¬ Config.houseLane < l := by
    have : Config.houseLane = 16 := rfl
    omega
  have enabled : s.windowDue l = true := by
    have elapsedDue : timerDue (s.lane l).windowTimer s.clock = true := by
      rw [timer]
      exact decide_eq_true due
    simp [State.windowDue, parked, elapsedDue]
  show execWindowEnd l s = _
  rw [execWindowEnd, if_neg house, event_on _ enabled awake]
  rfl

theorem windowEnd_early {tm : Timer} (small : l ≤ 16) (timer : (s.lane l).windowTimer = some tm)
    (early : (s.clock - tm.start).toNat < tm.span) : exec (.windowEnd l) s = .next s := by
  have house : ¬ Config.houseLane < l := by
    have : Config.houseLane = 16 := rfl
    omega
  have off : s.windowDue l = false := by
    have running : timerDue (s.lane l).windowTimer s.clock = false := by
      rw [timer]
      exact decide_eq_false (Nat.not_le.2 early)
    simp [State.windowDue, running]
  show execWindowEnd l s = _
  rw [execWindowEnd, if_neg house, event_off _ (.inl off)]

theorem retryBind_cases {i : Nat} {y : Carriage} (found : s.carriage i = some y) :
    (s.Bindable l (y.components.map (·.flow)) → retryBind s i l = attemptBind s i l true) ∧
      (¬ s.Bindable l (y.components.map (·.flow)) → retryBind s i l = s) := by
  unfold retryBind
  rw [found]
  exact ⟨fun bindable => if_pos ((canBind_eq s l _).2 bindable),
    fun unbindable => if_neg fun can => unbindable ((canBind_eq s l _).1 can)⟩

end

end Sys2Proof.Machine

open Sys2Proof Sys2Proof.Machine Host

/-- Settles O58: the scored, marked and retried carriages and the lane's record each by their lemmas; the retries agree
with those of the state before because they read no window counter. -/
theorem windowEndsScoreTheLane : Obligations.WindowEndsScoreTheLane := by
  refine ⟨?_, fun s i l x found => retryBind_cases found⟩
  intro s l tm awake settled shaped ordered small timer parked n p void margin held retried fails
  refine ⟨fun due => ⟨_, windowEnd_due awake small parked timer due, ?_⟩, windowEnd_early small timer⟩
  have within : Within [.services, .slots, .handed, .owed] (windowEnd s l)
      (settleNotice s (closeAct s (windowEnd s l))) :=
    ((closeAct_within s _).mono (by decide)).trans ((settleNotice_within s _).mono (by decide))
  obtain ⟨t, ht⟩ : ∃ t, t = settleNotice s (closeAct s (windowEnd s l)) := ⟨_, rfl⟩
  rw [← ht] at within ⊢
  have laneAt : ∀ j, t.lane j = if j = l then n.windowed (isFeed l) p s.clock else s.lane j := fun j => by
    rw [State.lane, show t.lanes = _ from within .lanes (by decide)]
    exact windowEnd_lane shaped (by omega) j
  have carriage : ∀ c, t.carriage c = (windowEnd s l).carriage c := fun c => by
    rw [State.carriage, show t.carriages = _ from within .carriages (by decide)]
    rfl
  have bindings : t.bindings = (retriesOf s l).bindings.map fun b => b.restarted l := by
    rw [show t.bindings = _ from within .bindings (by decide), windowEnd_bindings]
    exact (retriedLane_mirrors ordered l).1.bindings
  have retries : retried = retriesOf s l := rfl
  have own := laneAt l
  rw [if_pos rfl] at own
  refine ⟨fun j hj => (laneAt j).trans (if_neg hj), fun x hx free whole => ?_, fun x hx on unscored => ?_,
    fun x hx on full mark => ?_, fun x hx incomplete lane => ?_, ?_, fun b hb lane => ?_, ?_, ?_, ?_, ?_, ?_, fun feed => ?_⟩
  · rw [carriage]
    exact windowEnd_untouched ordered hx (fun on => free ((Carriage.heldOn_iff ..).1 on)) whole
  · rw [carriage]
    exact windowEnd_unscored ordered hx ((Carriage.heldOn_iff ..).2 on) (unscored.imp_left (windowVoid_iff s l).2)
  · have heldOn := (Carriage.heldOn_iff ..).2 on
    have full' : s.windowVoid l = false := Bool.eq_false_iff.2 fun h => full ((windowVoid_iff s l).1 h)
    rw [carriage, windowEnd_scored ordered hx heldOn full' mark, scoring_eq s l heldOn.2, windowM_eq s (by omega)]
    refine ⟨_, rfl, fun none => by rw [none]; rfl, fun g merit => ?_⟩
    rw [merit]
    exact ⟨fun same => by rw [← same]; exact nextMerit_same .., fun shift => if_pos shift,
      nextMerit_rise, nextMerit_fall⟩
  · rw [carriage, retries]
    exact windowEnd_retried ordered parked hx incomplete lane
  · rw [bindings, retries, List.map_map]
    exact List.map_congr_left fun b _ => by
      simp only [Function.comp_apply, Binding.restarted_name, Binding.restarted_refCount]
  · rw [bindings] at hb
    obtain ⟨b', -, rfl⟩ := List.mem_map.1 hb
    rw [Binding.restarted_name] at lane
    rw [Binding.restarted, if_pos lane]
    exact ⟨rfl, rfl, rfl, rfl, rfl⟩
  · rw [own]; rfl
  · rw [own]; rfl
  · rw [own]; rfl
  · rw [own]; rfl
  · have span : micros (250 * p.windowLength) = 250000 * p.windowLength := by unfold micros; omega
    rw [own, ← span]
    rfl
  · have health := n.faultScored_degradeTested p
    have isFeed : isFeed l = true := decide_eq_true feed
    have follows : ∀ a b : Nat, (if n.windowFails then a else b) = if fails then a else b := fun a b =>
      if_congr (Lane.windowFails_iff timer) rfl rfl
    rw [own, isFeed]
    rw [follows] at health
    exact health

end

section
namespace Sys2Proof.Machine

open Sys2Proof Host

/-! ## The carriage of an entry and a key (R11) -/

/-- The carriage of an entry for a key, with its index. -/
def State.carriageAt (s : State) (e : Nat) (key : Key) : Option (Nat × Carriage) :=
  s.carriages.find? fun y => decide (y.2.entry = e) && decide (y.2.service = key)

theorem carriageFor_eq (s : State) (e : Nat) (key : Key) : s.carriageFor e key = (s.carriageAt e key).map Prod.fst := by
  rw [State.carriageFor, State.carriagesWhere, List.head?_map, List.head?_filter]
  rfl

section

variable {s t u : State} {e d c : Nat} {key : Key} {x y : Carriage}

theorem carriageAt_of_carriages (h : t.carriages = s.carriages) (e : Nat) (key : Key) :
    t.carriageAt e key = s.carriageAt e key := by
  rw [State.carriageAt, h]
  rfl

/-- No two carriages hold one pair of entry and service. -/
theorem carriageAt_eq_some (ordered : s.CatalogueOrdered) (e : Nat) (key : Key) (y : Nat × Carriage) :
    s.carriageAt e key = some y ↔ y ∈ s.carriages ∧ y.2.entry = e ∧ y.2.service = key := by
  constructor
  · intro found
    have hp := List.find?_some found
    simp only [Bool.and_eq_true, decide_eq_true_eq] at hp
    exact ⟨List.mem_of_find?_eq_some found, hp⟩
  · rintro ⟨hy, entry, service⟩
    obtain ⟨z, hz⟩ := Option.isSome_iff_exists.1 (List.find?_isSome.2 ⟨y, hy, by simp [entry, service]⟩ :
      (s.carriages.find? fun y => decide (y.2.entry = e) && decide (y.2.service = key)).isSome)
    have hp := List.find?_some hz
    simp only [Bool.and_eq_true, decide_eq_true_eq] at hp
    have same : z = y := eq_of_nodup_map ordered.pairs_nodup (List.mem_of_find?_eq_some hz) hy
      (by rw [hp.1, hp.2, entry, service])
    exact hz.trans (congrArg some same)

theorem carriageAt_of_mem (ordered : s.CatalogueOrdered) {z : Nat × Carriage} (hz : z ∈ s.carriages) :
    s.carriageAt z.2.entry z.2.service = some z := (carriageAt_eq_some ordered _ _ z).2 ⟨hz, rfl, rfl⟩

theorem carriage_of_carriageAt (ordered : s.CatalogueOrdered) {z : Nat × Carriage} (h : s.carriageAt e key = some z) :
    s.carriage z.1 = some z.2 := ordered.carriage_of_mem ((carriageAt_eq_some ordered e key z).1 h).1

theorem carriageAt_eq_none : s.carriageAt e key = none ↔ ∀ z ∈ s.carriages, z.2.entry = e → z.2.service ≠ key := by
  unfold State.carriageAt
  rw [List.find?_eq_none]
  simp

/-- A record put in place of another of the same pair. -/
theorem carriageAt_replaceAt (sOrdered : s.CatalogueOrdered) (tOrdered : t.CatalogueOrdered) (found : s.carriage c = some x)
    (entry : y.entry = x.entry) (service : y.service = x.service) (h : t.carriages = replaceAt s.carriages c y)
    (d : Nat) (key : Key) : t.carriageAt d key =
      if d = x.entry ∧ key = x.service then some (c, y) else s.carriageAt d key := by
  have hx := State.carriage_mem found
  split
  · rename_i own
    refine (carriageAt_eq_some tOrdered d key (c, y)).2 ⟨?_, entry.trans own.1.symm, service.trans own.2.symm⟩
    rw [h]
    exact List.mem_map.2 ⟨(c, x), hx, by simp⟩
  · rename_i other
    apply Option.ext
    intro z
    rw [carriageAt_eq_some tOrdered, carriageAt_eq_some sOrdered, h]
    have same : z.2.entry = d ∧ z.2.service = key → (z ∈ replaceAt s.carriages c y ↔ z ∈ s.carriages) := by
      rintro ⟨zd, zk⟩
      have ne : z.1 ≠ c ∨ z ∉ s.carriages := by
        by_contra both
        obtain ⟨hc, hz⟩ := not_or.1 both
        have found' := sOrdered.carriage_of_mem (not_not.1 hz)
        rw [not_not.1 hc, found] at found'
        obtain rfl := Option.some.inj found'
        exact other ⟨zd.symm, zk.symm⟩
      constructor
      · intro hz
        rcases mem_replaceAt hz with rfl | ⟨hz, -⟩
        · exact absurd ⟨zd.symm.trans entry, zk.symm.trans service⟩ other
        · exact hz
      · intro hz
        refine List.mem_map.2 ⟨z, hz, ?_⟩
        rw [if_neg (ne.resolve_right (not_not.2 hz))]
    constructor
    · exact fun ⟨hz, pair⟩ => ⟨(same pair).1 hz, pair⟩
    · exact fun ⟨hz, pair⟩ => ⟨(same pair).2 hz, pair⟩

/-- A record at a free index joins the table under its pair. -/
theorem carriageAt_create (sOrdered : s.CatalogueOrdered) (tOrdered : t.CatalogueOrdered)
    (h : ∀ z, z ∈ t.carriages ↔ z = (c, y) ∨ z ∈ s.carriages) (d : Nat) (key : Key) : t.carriageAt d key =
      if d = y.entry ∧ key = y.service then some (c, y) else s.carriageAt d key := by
  split
  · rename_i own
    exact (carriageAt_eq_some tOrdered d key (c, y)).2 ⟨(h _).2 (.inl rfl), own.1.symm, own.2.symm⟩
  · rename_i other
    apply Option.ext
    intro z
    rw [carriageAt_eq_some tOrdered, carriageAt_eq_some sOrdered, h]
    constructor
    · rintro ⟨rfl | hz, pair⟩
      · exact absurd ⟨pair.1.symm, pair.2.symm⟩ other
      · exact ⟨hz, pair⟩
    · exact fun ⟨hz, pair⟩ => ⟨.inr hz, pair⟩

end

/-! ## Service records that come and go (R8 to R10) -/

section

variable {s t : State} {key : Key}

theorem service_of_services (h : t.services = s.services) (key : Key) : t.service key = s.service key := by
  rw [State.service, h]
  rfl

theorem service_eq_some (ordered : s.CatalogueOrdered) (key : Key) (v : Service) :
    s.service key = some v ↔ (∃ i, (i, v) ∈ s.services) ∧ v.key = key := by
  constructor
  · exact State.service_mem
  · rintro ⟨⟨i, hv⟩, rfl⟩
    exact ordered.service_of_mem hv

theorem createService_service {name : List Byte} (ordered : s.CatalogueOrdered) (new : s.service key = none)
    (h : createService s key name = some t) (k : Key) :
    t.service k = if k = key then some (Service.fresh key name) else s.service k := by
  have tOrdered := createService_ordered new h ordered
  obtain ⟨i, free, rfl⟩ := createService_some h
  have members := mem_tableSet (a := Service.fresh key name) (lowestFree_some free).2
  split
  · rename_i same
    rw [same]
    exact (service_eq_some tOrdered key _).2 ⟨⟨i, (members _).2 (.inl rfl)⟩, rfl⟩
  · rename_i other
    apply Option.ext
    intro v
    rw [service_eq_some tOrdered, service_eq_some ordered]
    constructor
    · rintro ⟨⟨j, hv⟩, key'⟩
      rcases (members _).1 hv with same | hv
      · obtain ⟨-, rfl⟩ := Prod.mk.inj same
        exact absurd key'.symm other
      · exact ⟨⟨j, hv⟩, key'⟩
    · rintro ⟨⟨j, hv⟩, key'⟩
      exact ⟨⟨j, (members _).2 (.inr hv)⟩, key'⟩

theorem createService_slotRefsOf {name : List Byte} (ordered : s.CatalogueOrdered) (new : s.service key = none)
    (h : createService s key name = some t) (k : Key) : t.slotRefsOf k = s.slotRefsOf k := by
  rw [State.slotRefsOf, createService_service ordered new h]
  split
  · rename_i same
    rw [State.slotRefsOf, same, new]
    rfl
  · rfl

theorem freeIfUnheld_service_other (s : State) {key k : Key} (h : k ≠ key) :
    (freeIfUnheld s key).service k = s.service k := by
  rcases freeIfUnheld_cases s key with same | ⟨-, same⟩ <;> rw [same]
  simp only [State.service, List.find?_filter]
  refine congrArg (Option.map Prod.snd) (congrArg (fun p => s.services.find? p) (funext fun x => ?_))
  by_cases hx : x.2.key = k
  · simp [hx, h]
  · simp [hx]

theorem freeIfUnheld_services_length (s : State) (key : Key) :
    (freeIfUnheld s key).services.length ≤ s.services.length := by
  rcases freeIfUnheld_cases s key with same | ⟨-, same⟩ <;> rw [same]
  exact List.length_filter_le ..

theorem createService_none {name : List Byte} (h : createService s key name = none) : 512 ≤ s.services.length := by
  have places : Config.maxServices = 512 := rfl
  by_contra room
  have free := lowestFree_isSome (t := s.services) (size := Config.maxServices) (by omega)
  rw [createService, Option.map_eq_none_iff] at h
  simp [h] at free

theorem removeCarriage_service_other {s : State} {c : Nat} {x : Carriage} (found : s.carriage c = some x) {k : Key}
    (h : k ≠ x.service) : (removeCarriage s c).service k = s.service k := by
  rw [removeCarriage_some found, service_of_services (State.hand_services ..), freeIfUnheld_service_other _ h,
    service_of_services (removed_services s c x)]
  exact State.service_modService_other s _ k _ (fun _ => rfl) (Ne.symm h)

theorem removeCarriage_services_length (s : State) (c : Nat) :
    (removeCarriage s c).services.length ≤ s.services.length := by
  cases found : s.carriage c with
  | none => rw [removeCarriage_none found]
  | some x =>
    rw [removeCarriage_some found, State.hand_services]
    refine (freeIfUnheld_services_length _ _).trans ?_
    rw [removed_services]
    simp [State.modService]

end

end Sys2Proof.Machine
end

section
namespace Sys2Proof.Machine

open Sys2Proof Host

/-! ## One listed key (R58, R59) -/

/-- What the service record of a listed key undergoes: it is found or created, and takes the listed name. -/
structure ServiceReady (s t : State) (v : Listed) : Prop where
  ordered : t.CatalogueOrdered
  others : ∀ k, k ≠ v.key → t.service k = s.service k
  named : ∃ w, t.service v.key = some w ∧ w.name = v.name
  refs : ∀ k, t.slotRefsOf k = s.slotRefsOf k
  length : t.services.length ≤ s.services.length + 1

section

variable {s t u : State} {l e c : Nat} {v : Listed}

theorem rename_service_other (s : State) (v : Listed) {k : Key} (h : k ≠ v.key) : (rename s v).service k = s.service k :=
  State.service_modService_other s v.key k _ (fun _ => rfl) (Ne.symm h)

theorem rename_slotRefsOf (s : State) (v : Listed) (k : Key) : (rename s v).slotRefsOf k = s.slotRefsOf k :=
  modService_slotRefsOf s v.key k _ (fun _ => rfl) fun _ => rfl

theorem rename_ready (ordered : s.CatalogueOrdered) {w : Service} (found : s.service v.key = some w) :
    ServiceReady s (rename s v) v where
  ordered := (rename_leads (r := false) (B := anyBind) s v).ordered ordered
  others := fun _ h => rename_service_other s v h
  named := by
    refine ⟨{ w with name := v.name }, ?_, rfl⟩
    rw [rename, State.service_modService (f := fun x => { x with name := v.name }) _ _ fun _ => rfl, found]
    rfl
  refs := rename_slotRefsOf s v
  length := by simp [rename, State.modService]

theorem serviceFor_ready (ordered : s.CatalogueOrdered) (h : serviceFor s v = some t) : ServiceReady s t v := by
  unfold serviceFor at h
  cases found : s.service v.key with
  | some w =>
    simp only [found, Option.some.injEq] at h
    subst h
    exact rename_ready ordered found
  | none =>
    simp only [found] at h
    have service := createService_service ordered found h
    refine ⟨createService_ordered found h ordered, fun k hk => (service k).trans (if_neg hk),
      ⟨_, (service v.key).trans (if_pos rfl), rfl⟩, createService_slotRefsOf ordered found h, ?_⟩
    obtain ⟨i, free, rfl⟩ := createService_some h
    exact (tableSet_perm (Service.fresh v.key v.name) (lowestFree_some free).2).length_eq.le

theorem serviceFor_full (h : serviceFor s v = none) : 512 ≤ s.services.length := by
  unfold serviceFor at h
  split at h
  · cases h
  · exact createService_none h

/-! ### What a bind attempt depends on -/

theorem attempted_of_eq (bindings : t.bindings = s.bindings) (lanes : t.lanes = s.lanes) (clock : t.clock = s.clock)
    (l : Nat) (mark : Bool) (x : Carriage) : t.attempted l mark x = s.attempted l mark x := by
  have can : canBind t l x.components = canBind s l x.components := by
    simp only [canBind, State.binding, bindings]
    rfl
  simp only [State.attempted, can, State.boundState, State.laneDownOf, State.markOn, State.lane, lanes, clock]
  rfl

theorem foldl_leave_of_bindings (h : t.bindings = s.bindings) (names : List BindingName) :
    (names.foldl leaveBinding t).bindings = (names.foldl leaveBinding s).bindings := by
  induction names generalizing s t with
  | nil => exact h
  | cons m ms ih =>
    refine ih ?_
    unfold leaveBinding
    rw [show t.binding m.lane m.flow = s.binding m.lane m.flow by simp only [State.binding, h]]
    split
    · exact h
    · split
      · simp only [h]
      · simp only [State.modBinding, h]

/-- A carriage with its missing count cleared. -/
def Carriage.present (x : Carriage) : Carriage := { x with missing := 0 }

/-- A carriage that a directory lists with another list. -/
def Carriage.listedAs (x : Carriage) (v : Listed) : Carriage :=
  { x with
    missing := 0, components := v.components.map fun d => { kind := d.1, flow := d.2, binding := none }
    timing := v.timing }

/-- What a reconciliation's step in state `u` makes of the carriage of a listed key. -/
def State.KeyOutcome (u : State) (l e : Nat) (v : Listed) (before after : Option (Nat × Carriage)) : Prop :=
  match before with
  | none => ∀ y, after = some y → y.2 = u.attempted l false (Carriage.created e v u.clock)
  | some x => after = some (x.1,
      if x.2.sameList v then if x.2.state = .shelved then u.attempted l false x.2.present else x.2.present
      else (releaseBindings u x.1).attempted l false (x.2.listedAs v))

/-- The record that a listed key gives (R63). -/
def State.keyRecord (s : State) (e : Nat) (v : Listed) (before after : Option (Nat × Carriage)) :
    Option DiscoveryRecord :=
  match after with
  | none => some { kind := .tableFull, entry := e, key := v.key, carriage := none, time := s.clock }
  | some y =>
    match before with
    | none =>
      if s.keyRecorded v.key then
        some { kind := .newService, entry := e, key := v.key, carriage := some y.1, time := s.clock }
      else none
    | some x =>
      if s.keyRecorded v.key && !x.2.sameList v then
        some { kind := .recomposed, entry := e, key := v.key, carriage := some x.1, time := s.clock }
      else none

/-- A step from `u` to `t` reconciles one listed key. -/
structure KeyReconciled (u t : State) (l e : Nat) (v : Listed) : Prop where
  ordered : t.CatalogueOrdered
  others : ∀ d key, ¬ (d = e ∧ key = v.key) → t.carriageAt d key = u.carriageAt d key
  outcome : u.KeyOutcome l e v (u.carriageAt e v.key) (t.carriageAt e v.key)
  logs : Logs u t (u.keyRecord e v (u.carriageAt e v.key) (t.carriageAt e v.key)).toList
  services : ∀ k, k ≠ v.key → t.service k = u.service k
  refs : ∀ k, t.slotRefsOf k = u.slotRefsOf k
  named : (t.carriageAt e v.key).isSome → ∃ w, t.service v.key = some w ∧ w.name = v.name
  servicesLength : t.services.length ≤ u.services.length + 1
  carriagesLength : t.carriages.length ≤ u.carriages.length + 1
  full : t.carriageAt e v.key = none → 512 ≤ u.services.length ∨ 1024 ≤ u.carriages.length

/-- A listed key for which no carriage can be created (R58). -/
theorem KeyReconciled.of_full (ordered : t.CatalogueOrdered) (carriages : t.carriages = u.carriages)
    (absent : u.carriageAt e v.key = none)
    (logs : Logs u t [{ kind := .tableFull, entry := e, key := v.key, carriage := none, time := u.clock }])
    (services : ∀ k, k ≠ v.key → t.service k = u.service k) (refs : ∀ k, t.slotRefsOf k = u.slotRefsOf k)
    (servicesLength : t.services.length ≤ u.services.length + 1)
    (full : 512 ≤ u.services.length ∨ 1024 ≤ u.carriages.length) : KeyReconciled u t l e v := by
  have after : t.carriageAt e v.key = none := (carriageAt_of_carriages carriages ..).trans absent
  refine ⟨ordered, fun d key _ => carriageAt_of_carriages carriages d key, ?_, ?_, services, refs, fun present => ?_,
    servicesLength, by rw [carriages]; omega, fun _ => full⟩
  · rw [absent, after]
    intro y h
    cases h
  · rw [absent, after]
    exact logs
  · rw [after] at present
    exact absurd present Bool.false_ne_true

theorem offerTableFull_within (s : State) (e : Nat) (key : Key) : Within [.log] s (offerTableFull s e key) :=
  writeRecord_within s _ _ _ _

theorem keyRecorded_of_within {ps : List Part} (within : Within ps s t) (output : Part.output ∉ ps) (watch : Part.watch ∉ ps)
    (refs : ∀ k, t.slotRefsOf k = s.slotRefsOf k) (key : Key) : t.keyRecorded key = s.keyRecorded key :=
  keyRecorded_of_eq (within .output output) (within .watch watch) refs key

/-! ### The creation of a carriage (R12) -/

/-- A carriage created for a listed key, after its bind attempt. -/
def creating (s : State) (l e c : Nat) (v : Listed) : State :=
  (attemptBind (withCarriage s c (Carriage.created e v s.clock)) c l false).hand v.key

theorem creating_within (s : State) (l e c : Nat) (v : Listed) :
    Within [.carriages, .bindings, .handed] s (creating s l e c v) :=
  (((carriages_within s _).mono (by decide)).trans (attemptBind_within _ c l false)).trans
    ((hand_within _ _).mono (by decide))

/-- A carriage created at a free index joins the table under its pair, as its attempt leaves it. -/
theorem creating_leaves (l : Nat) (ordered : s.CatalogueOrdered) (absent : s.carriageAt e v.key = none)
    (recorded : (s.service v.key).isSome) (free : lowestFree s.carriages Config.maxCarriages = some c) :
    (creating s l e c v).CatalogueOrdered ∧
      (∀ d key, (creating s l e c v).carriageAt d key =
        if d = e ∧ key = v.key then some (c, s.attempted l false (Carriage.created e v s.clock))
        else s.carriageAt d key) ∧
      (creating s l e c v).carriages.length = s.carriages.length + 1 := by
  obtain ⟨w, hw⟩ : ∃ w, w = withCarriage s c (Carriage.created e v s.clock) := ⟨_, rfl⟩
  have vacant := (lowestFree_some free).2
  have table : w.carriages = tableSet s.carriages c (Carriage.created e v s.clock) := hw ▸ rfl
  have created : w.CatalogueOrdered :=
    create_ordered free recorded (carriageAt_eq_none.1 absent) (hw ▸ rfl) table ordered
  have record : w.carriage c = some (Carriage.created e v s.clock) := by
    rw [State.carriage, table]
    exact tableGet_set_same _ ordered.carriages_ordered vacant
  have result : (creating s l e c v).carriages =
      replaceAt w.carriages c (s.attempted l false (Carriage.created e v s.clock)) := by
    rw [← attempted_of_eq (t := w) (s := s) (hw ▸ rfl) (hw ▸ rfl) (hw ▸ rfl),
      ← attemptBind_carriages created.carriages_ordered record, hw]
    rfl
  have ordered' : (creating s l e c v).CatalogueOrdered :=
    catalogueOrdered_of_eq (s := attemptBind w c l false) (hw ▸ rfl) (hw ▸ rfl) (attemptBind_ordered c l false created)
  refine ⟨ordered', fun d key => ?_, ?_⟩
  · rw [carriageAt_replaceAt created ordered' record (attempted_entry ..) (attempted_service ..) result]
    refine ite_congr rfl (fun _ => rfl) fun other => ?_
    rw [carriageAt_create ordered created fun z => by rw [table]; exact mem_tableSet vacant z]
    exact if_neg other
  · rw [result, replaceAt, List.length_map, table, (tableSet_perm _ vacant).length_eq]
    rfl

/-- A listed key whose carriage is created (R12, R58). -/
theorem KeyReconciled.of_created (l : Nat) {s1 : State} (ordered : u.CatalogueOrdered) (absent : u.carriageAt e v.key = none)
    (service : serviceFor u v = some s1) (free : lowestFree s1.carriages Config.maxCarriages = some c) :
    KeyReconciled u (offerRecord (creating s1 l e c v) .newService e v.key c) l e v := by
  have ready := serviceFor_ready ordered service
  have found := serviceFor_within service
  have bound := creating_within s1 l e c v
  have offered := offerRecord_within (creating s1 l e c v) .newService e v.key c
  have logged := offerRecord_logs (creating s1 l e c v) .newService e v.key c
  have carriages : s1.carriages = u.carriages := found .carriages (by decide)
  have recorded : (s1.service v.key).isSome := by
    obtain ⟨w, named, -⟩ := ready.named
    rw [named]
    rfl
  obtain ⟨orderedB, pairs, length⟩ := creating_leaves (e := e) l ready.ordered
    ((carriageAt_of_carriages carriages ..).trans absent) recorded free
  obtain ⟨b, hb⟩ : ∃ b, b = creating s1 l e c v := ⟨_, rfl⟩
  rw [← hb] at bound offered logged orderedB pairs length ⊢
  have within : Within [.services, .carriages, .bindings, .handed] u b :=
    (found.mono (by decide)).trans (bound.mono (by decide))
  obtain ⟨t, ht⟩ : ∃ t, t = offerRecord b .newService e v.key c := ⟨_, rfl⟩
  rw [← ht] at offered logged ⊢
  have table : t.carriages = b.carriages := offered .carriages (by decide)
  have services : t.services = s1.services := (offered .services (by decide)).trans (bound .services (by decide))
  have attempt : s1.attempted l false (Carriage.created e v s1.clock) = u.attempted l false (Carriage.created e v u.clock) := by
    rw [show s1.clock = u.clock from found .clock (by decide)]
    exact attempted_of_eq (found .bindings (by decide)) (found .lanes (by decide)) (found .clock (by decide)) ..
  have own : t.carriageAt e v.key = some (c, u.attempted l false (Carriage.created e v u.clock)) := by
    rw [carriageAt_of_carriages table, pairs, if_pos ⟨rfl, rfl⟩, attempt]
  refine ⟨catalogueOrdered_of_eq (offered .services (by decide)) table orderedB, fun d key other => ?_, ?_, ?_,
    fun k hk => ?_, fun k => ?_, fun _ => ?_, ?_, ?_, fun none => ?_⟩
  · rw [carriageAt_of_carriages table, pairs, if_neg other, carriageAt_of_carriages carriages]
  · rw [absent, own]
    intro y h
    exact (congrArg Prod.snd (Option.some.inj h)).symm
  · have refs : ∀ k, b.slotRefsOf k = u.slotRefsOf k := fun k =>
      (slotRefsOf_of_services (bound .services (by decide)) k).trans (ready.refs k)
    refine ((Logs.of_within within (by decide)).nil_trans logged).congr ?_
    rw [absent, own, keyRecorded_of_within within (by decide) (by decide) refs,
      show b.clock = u.clock from within .clock (by decide)]
    simp only [State.keyRecord]
    split <;> rfl
  · exact (service_of_services services k).trans (ready.others k hk)
  · exact (slotRefsOf_of_services services k).trans (ready.refs k)
  · rw [service_of_services services]
    exact ready.named
  · rw [services]
    exact ready.length
  · rw [table, length, carriages]
  · rw [own] at none
    cases none

end

end Sys2Proof.Machine
end

section
namespace Sys2Proof.Machine

open Sys2Proof Host

section

variable {u t : State} {l e : Nat} {v : Listed} {x : Nat × Carriage}

/-! ### A key without a carriage (R58) -/

theorem newKey_reconciled (l : Nat) (ordered : u.CatalogueOrdered) (absent : u.carriageAt e v.key = none) :
    KeyReconciled u (newKey u l e v) l e v := by
  unfold newKey
  split
  · rename_i full
    have logged := offerTableFull_within u e v.key
    have services : (offerTableFull u e v.key).services = u.services := logged .services (by decide)
    have carriages : (offerTableFull u e v.key).carriages = u.carriages := logged .carriages (by decide)
    exact .of_full (catalogueOrdered_of_eq services carriages ordered) carriages absent (writeRecord_logs u _ _ _ _)
      (fun k _ => service_of_services services k) (slotRefsOf_of_services services) (by rw [services]; omega)
      (.inl (serviceFor_full full))
  · rename_i s1 service
    have ready := serviceFor_ready ordered service
    have found := serviceFor_within service
    have table : s1.carriages = u.carriages := found .carriages (by decide)
    dsimp only
    split
    · rename_i full
      have logged := offerTableFull_within s1 e v.key
      have services : (offerTableFull s1 e v.key).services = s1.services := logged .services (by decide)
      have same : (offerTableFull s1 e v.key).carriages = s1.carriages := logged .carriages (by decide)
      have freed := freeIfUnheld_within (offerTableFull s1 e v.key) v.key
      have places : Config.maxCarriages = 1024 := rfl
      refine .of_full (freeIfUnheld_ordered v.key (catalogueOrdered_of_eq services same ready.ordered))
        ((freed .carriages (by decide)).trans (same.trans table)) absent ?_ (fun k hk => ?_) (fun k => ?_) ?_ (.inr ?_)
      · have record := writeRecord_logs s1 .tableFull e v.key none
        rw [show s1.clock = u.clock from found .clock (by decide)] at record
        exact ((Logs.of_within found (by decide)).nil_trans record).trans_nil (Logs.of_within freed (by decide))
      · exact (freeIfUnheld_service_other _ hk).trans ((service_of_services services k).trans (ready.others k hk))
      · exact (freeIfUnheld_slotRefsOf _ _ k).trans ((slotRefsOf_of_services services k).trans (ready.refs k))
      · exact (freeIfUnheld_services_length _ _).trans (services ▸ ready.length)
      · by_contra room
        have free := lowestFree_isSome (t := s1.carriages) (size := Config.maxCarriages) (by rw [table]; omega)
        rw [full] at free
        exact absurd free Bool.false_ne_true
    · exact .of_created l ordered absent service ‹_›

/-! ### A key with a carriage (R59, R77) -/

/-- A listed carriage that takes another record of its pair. -/
theorem KeyReconciled.of_replaced {y : Carriage} (ordered : u.CatalogueOrdered) (before : u.carriageAt e v.key = some x)
    (ordered' : t.CatalogueOrdered) (entry : y.entry = x.2.entry) (service : y.service = x.2.service)
    (carriages : t.carriages = replaceAt u.carriages x.1 y) (services : t.services = (rename u v).services)
    (outcome : y = if x.2.sameList v then
        if x.2.state = .shelved then u.attempted l false x.2.present else x.2.present
      else (releaseBindings u x.1).attempted l false (x.2.listedAs v))
    (logs : Logs u t (if u.keyRecorded v.key && !x.2.sameList v then
      [{ kind := .recomposed, entry := e, key := v.key, carriage := some x.1, time := u.clock }] else [])) :
    KeyReconciled u t l e v := by
  obtain ⟨hx, own, key⟩ := (carriageAt_eq_some ordered e v.key x).1 before
  have pairs := carriageAt_replaceAt ordered ordered' (ordered.carriage_of_mem hx) entry service carriages
  rw [own, key] at pairs
  have after := (pairs e v.key).trans (if_pos ⟨rfl, rfl⟩)
  obtain ⟨w, recorded⟩ : ∃ w, u.service v.key = some w := by
    obtain ⟨-, -, -, -, -, -, known⟩ := ordered
    exact Option.isSome_iff_exists.1 (key ▸ known x hx)
  have ready := rename_ready ordered recorded
  refine ⟨ordered', fun d key' other => (pairs d key').trans (if_neg other), ?_, ?_, fun k hk => ?_, fun k => ?_, fun _ => ?_,
    by rw [services]; exact ready.length, ?_, fun none => ?_⟩
  · rw [before, after, outcome]
    rfl
  · rw [before, after]
    refine logs.congr ?_
    simp only [State.keyRecord]
    split <;> rfl
  · exact (service_of_services services k).trans (ready.others k hk)
  · exact (slotRefsOf_of_services services k).trans (ready.refs k)
  · rw [service_of_services services]
    exact ready.named
  · rw [carriages, replaceAt, List.length_map]
    omega
  · rw [after] at none
    cases none

/-- Rebinding makes the attempt that the new list makes once the bindings are released (R21). -/
theorem relist_attempted {s1 : State} {c : Nat} {y : Carriage} (found : u.carriage c = some x.2) (found1 : s1.carriage c = some y)
    (names : y.names = x.2.names) (bindings : s1.bindings = u.bindings) (lanes : s1.lanes = u.lanes)
    (clock : s1.clock = u.clock) (comps : List (Kind × Nat)) (timing : Option Nat) (l : Nat) (mark : Bool) (z : Carriage) :
    (relist s1 c comps timing).attempted l mark z = (releaseBindings u c).attempted l mark z := by
  have released := releaseBindings_within s1 c
  have released' := releaseBindings_within u c
  refine attempted_of_eq ?_ ?_ ?_ l mark z
  · rw [relist_bindings, releaseBindings_bindings found1, releaseBindings_bindings found, names]
    exact foldl_leave_of_bindings bindings _
  · exact ((released .lanes (by decide)).trans lanes).trans (released' .lanes (by decide)).symm
  · exact ((released .clock (by decide)).trans clock).trans (released' .clock (by decide)).symm

theorem attempted_relisted (s : State) (l : Nat) (mark : Bool) (x : Carriage) (v : Listed) :
    s.attempted l mark (x.present.relisted v.components v.timing) = s.attempted l mark (x.listedAs v) := rfl

/-- A listed carriage present again, and its service renamed (R10, R59). -/
def listing (u : State) (c : Nat) (v : Listed) : State := rename (resetMissing u c) v

theorem listing_within (u : State) (c : Nat) (v : Listed) : Within [.carriages, .services] u (listing u c v) :=
  ((resetMissing_within u c).mono (by decide)).trans ((services_within _ _).mono (by decide))

theorem listing_carriages (ordered : u.CatalogueOrdered) (found : u.carriage x.1 = some x.2) (v : Listed) :
    (listing u x.1 v).carriages = replaceAt u.carriages x.1 x.2.present :=
  modCarriage_replaces (fun y => { y with missing := 0 }) ordered.carriages_ordered found

theorem listing_carriage (found : u.carriage x.1 = some x.2) (v : Listed) :
    (listing u x.1 v).carriage x.1 = some x.2.present := resetMissing_carriage found

theorem listing_ordered (ordered : u.CatalogueOrdered) (c : Nat) (v : Listed) : (listing u c v).CatalogueOrdered :=
  ((resetMissing_leads (r := false) (B := anyBind) u c).trans (rename_leads _ v)).ordered ordered

/-- A carriage that is listed as it was (R59, R77). -/
theorem sameList_reconciled (l : Nat) (ordered : u.CatalogueOrdered) (before : u.carriageAt e v.key = some x)
    (same : x.2.sameList v = true) : KeyReconciled u
      (if x.2.state = .shelved then attemptBind (listing u x.1 v) x.1 l false else listing u x.1 v) l e v := by
  have found := carriage_of_carriageAt ordered before
  have table := listing_carriages ordered found v
  have ordered1 := listing_ordered ordered x.1 v
  have within := listing_within u x.1 v
  have quiet : Logs u (listing u x.1 v) [] := Logs.of_within within (by decide)
  have noRecord : ∀ rs : List DiscoveryRecord, (if u.keyRecorded v.key && !x.2.sameList v then rs else []) = [] := fun rs => by
    rw [same, Bool.not_true, Bool.and_false, if_neg Bool.false_ne_true]
  by_cases shelved : x.2.state = .shelved
  · rw [if_pos shelved]
    have bound := attemptBind_within (listing u x.1 v) x.1 l false
    refine .of_replaced ordered before (attemptBind_ordered x.1 l false ordered1)
      (attempted_entry (listing u x.1 v) l false x.2.present) (attempted_service (listing u x.1 v) l false x.2.present) ?_
      (bound .services (by decide)) ?_ ?_
    · rw [attemptBind_carriages ordered1.carriages_ordered (listing_carriage found v), table, replaceAt_replaceAt]
    · rw [if_pos same, if_pos shelved]
      exact attempted_of_eq (within .bindings (by decide)) (within .lanes (by decide)) (within .clock (by decide)) ..
    · rw [noRecord]
      exact quiet.trans_nil (Logs.of_within bound (by decide))
  · rw [if_neg shelved]
    refine .of_replaced (y := x.2.present) ordered before ordered1 rfl rfl table rfl ?_ ?_
    · rw [if_pos same, if_neg shelved]
    · rw [noRecord]
      exact quiet

/-- A carriage that is listed with another list (R21, R59). -/
theorem newList_reconciled (l : Nat) (ordered : u.CatalogueOrdered) (before : u.carriageAt e v.key = some x)
    (other : ¬ x.2.sameList v = true) : KeyReconciled u
      (offerRecord (rebind (listing u x.1 v) x.1 l v.components v.timing) .recomposed e v.key x.1) l e v := by
  have found := carriage_of_carriageAt ordered before
  have found1 := listing_carriage found v
  have ordered1 := listing_ordered ordered x.1 v
  have within := listing_within u x.1 v
  have entry := attempted_entry (relist (listing u x.1 v) x.1 v.components v.timing) l false
    (x.2.present.relisted v.components v.timing)
  have service := attempted_service (relist (listing u x.1 v) x.1 v.components v.timing) l false
    (x.2.present.relisted v.components v.timing)
  have result := rebind_carriages ordered1.carriages_ordered found1 l v.components v.timing
  have bound : Within [.carriages, .bindings, .handed, .slots] (listing u x.1 v)
      (rebind (listing u x.1 v) x.1 l v.components v.timing) := (rebind_within (listing u x.1 v) x.1 l v.components v.timing).mono (by decide)
  obtain ⟨b, hb⟩ : ∃ b, b = rebind (listing u x.1 v) x.1 l v.components v.timing := ⟨_, rfl⟩
  rw [← hb] at result bound ⊢
  rw [listing_carriages ordered found, replaceAt_replaceAt] at result
  have offered := offerRecord_within b .recomposed e v.key x.1
  have carriages := (offered .carriages (by decide) : _ = b.carriages).trans result
  have services : (offerRecord b .recomposed e v.key x.1).services = (rename u v).services :=
    (offered .services (by decide)).trans (bound .services (by decide))
  refine .of_replaced ordered before ?_ entry service carriages services ?_ ?_
  · refine catalogueOrdered_of_keys (s := u) ?_
      (carriageKeys_replaceAt ordered.carriages_ordered found entry service carriages) ordered
    rw [State.serviceKeys, services]
    exact modService_keys u v.key _ fun _ => rfl
  · rw [if_neg other, attempted_relisted]
    exact relist_attempted found found1 rfl (within .bindings (by decide)) (within .lanes (by decide))
      (within .clock (by decide)) _ _ l false _
  · have refs : ∀ k, b.slotRefsOf k = u.slotRefsOf k := fun k =>
      (slotRefsOf_of_services (bound .services (by decide)) k).trans (rename_slotRefsOf u v k)
    have reached : Within [.carriages, .services, .bindings, .handed, .slots] u b :=
      (within.mono (by decide)).trans (bound.mono (by decide))
    have logged := (Logs.of_within reached (by decide)).nil_trans (offerRecord_logs b .recomposed e v.key x.1)
    rw [keyRecorded_of_within reached (by decide) (by decide) refs, show b.clock = u.clock from reached .clock (by decide)] at logged
    rw [Bool.not_eq_true] at other
    rw [other, Bool.not_false, Bool.and_true]
    exact logged

theorem listedKey_reconciled (l : Nat) (ordered : u.CatalogueOrdered) (before : u.carriageAt e v.key = some x) :
    KeyReconciled u (listedKey u l e x.1 v) l e v := by
  unfold listedKey
  rw [carriage_of_carriageAt ordered before]
  dsimp only
  by_cases same : x.2.sameList v = true
  · rw [if_pos same]
    exact sameList_reconciled l ordered before same
  · rw [if_neg same]
    exact newList_reconciled l ordered before same

/-- One listed key of a full reconciliation. -/
theorem reconcileKey_reconciled (l e : Nat) (v : Listed) (ordered : u.CatalogueOrdered) :
    KeyReconciled u (reconcileKey u l e v) l e v := by
  unfold reconcileKey
  rw [carriageFor_eq]
  cases before : u.carriageAt e v.key with
  | none => exact newKey_reconciled l ordered before
  | some x => exact listedKey_reconciled l ordered before

end

end Sys2Proof.Machine
end

section
namespace Sys2Proof.Machine

open Sys2Proof Host

/-! ## The listed keys in order (R58, R59) -/

/-- The list and the timing component that a carriage holds are those that a directory gives, and it is not missing. -/
structure Carriage.ListedAs (x : Carriage) (v : Listed) : Prop where
  missing : x.missing = 0
  components : (x.components.map fun d => (d.kind, d.flow)) = v.components
  timing : x.timing = v.timing

theorem attempted_listedAs {s : State} {l : Nat} {mark : Bool} {x : Carriage} {v : Listed} (h : x.ListedAs v) :
    (s.attempted l mark x).ListedAs v := by
  obtain ⟨missing, components, timing⟩ := h
  unfold State.attempted
  split
  · exact ⟨missing, by rw [← components]; simp [Carriage.bound], timing⟩
  · exact ⟨missing, by rw [← components]; simp [Carriage.unbound], timing⟩

theorem attempted_figures (s : State) (l : Nat) (mark : Bool) (x : Carriage) :
    (s.attempted l mark x).merit = x.merit ∧ (s.attempted l mark x).faultScore = x.faultScore := by
  unfold State.attempted
  split <;> exact ⟨rfl, rfl⟩

theorem listedAs_listedAs (x : Carriage) (v : Listed) : (x.listedAs v).ListedAs v := by
  refine ⟨rfl, ?_, rfl⟩
  simp [Carriage.listedAs, Function.comp_def]

theorem sameList_iff (x : Carriage) (v : Listed) : x.sameList v = true ↔
    (x.components.map fun d => (d.kind, d.flow)) = v.components ∧ x.timing = v.timing := by
  simp [Carriage.sameList]

section

variable {s t u : State} {l e : Nat} {v : Listed}

/-- What a step leaves of a listed key's carriage that was there (R59). -/
theorem State.KeyOutcome.listed {x : Nat × Carriage} {after : Option (Nat × Carriage)}
    (h : u.KeyOutcome l e v (some x) after) : ∃ y, after = some (x.1, y) ∧ y.ListedAs v ∧ y.merit = x.2.merit ∧
      y.faultScore = x.2.faultScore := by
  refine ⟨_, h, ?_⟩
  split
  · rename_i same
    obtain ⟨components, timing⟩ := (sameList_iff x.2 v).1 same
    have present : x.2.present.ListedAs v := ⟨rfl, components, timing⟩
    split
    · exact ⟨attempted_listedAs present, attempted_figures u l false x.2.present⟩
    · exact ⟨present, rfl, rfl⟩
  · exact ⟨attempted_listedAs (listedAs_listedAs x.2 v), attempted_figures (releaseBindings u x.1) l false (x.2.listedAs v)⟩

/-- What a step leaves of a listed key's carriage that is new (R58). -/
theorem State.KeyOutcome.created {y : Nat × Carriage} (h : u.KeyOutcome l e v none (some y)) :
    y.2.ListedAs v ∧ y.2.merit = none := by
  rw [h y rfl]
  refine ⟨attempted_listedAs ⟨rfl, ?_, rfl⟩, (attempted_figures ..).1⟩
  simp [Carriage.created, Function.comp_def]

/-- The steps of the listed keys from `s` to `t`. -/
structure KeysReconciled (s t : State) (l e : Nat) (vs : List Listed) : Prop where
  ordered : t.CatalogueOrdered
  others : ∀ d key, ¬ (d = e ∧ ∃ v ∈ vs, v.key = key) → t.carriageAt d key = s.carriageAt d key
  outcomes : ∀ i v, vs[i]? = some v →
    ((vs.take i).foldl (fun u v => reconcileKey u l e v) s).carriageAt e v.key = s.carriageAt e v.key ∧
    ((vs.take i).foldl (fun u v => reconcileKey u l e v) s).KeyOutcome l e v (s.carriageAt e v.key) (t.carriageAt e v.key)
  logs : Logs s t (vs.filterMap fun v => s.keyRecord e v (s.carriageAt e v.key) (t.carriageAt e v.key))
  refs : ∀ k, t.slotRefsOf k = s.slotRefsOf k
  services : ∀ k, (∀ v ∈ vs, v.key ≠ k) → t.service k = s.service k
  named : ∀ v ∈ vs, (t.carriageAt e v.key).isSome → ∃ w, t.service v.key = some w ∧ w.name = v.name
  room : s.services.length + vs.length ≤ 512 → s.carriages.length + vs.length ≤ 1024 →
    ∀ v ∈ vs, (t.carriageAt e v.key).isSome

theorem keyRecord_of_eq (recorded : t.keyRecorded v.key = s.keyRecorded v.key) (clock : t.clock = s.clock)
    (before after : Option (Nat × Carriage)) : t.keyRecord e v before after = s.keyRecord e v before after := by
  simp only [State.keyRecord, recorded, clock]

/-- A step, and then the steps of the keys that follow it. -/
theorem KeysReconciled.cons {vs : List Listed} (first : KeyReconciled s u l e v) (rest : KeysReconciled u t l e vs)
    (hu : u = reconcileKey s l e v) (new : ∀ w ∈ vs, w.key ≠ v.key) : KeysReconciled s t l e (v :: vs) := by
  have kept : t.carriageAt e v.key = u.carriageAt e v.key :=
    rest.others e v.key fun ⟨_, w, hw, same⟩ => new w hw same
  have before : ∀ w ∈ vs, u.carriageAt e w.key = s.carriageAt e w.key := fun w hw =>
    first.others e w.key fun h => new w hw h.2
  have within : Within catalogueParts s u := hu ▸ reconcileKey_within s l e v
  refine ⟨rest.ordered, fun d key other => ?_, fun i w hw => ?_, ?_, fun k => (rest.refs k).trans (first.refs k),
    fun k hk => ?_, fun w hw present => ?_, fun services carriages w hw => ?_⟩
  · refine (rest.others d key fun ⟨hd, w, hw, same⟩ => other ⟨hd, w, List.mem_cons_of_mem _ hw, same⟩).trans
      (first.others d key fun ⟨hd, same⟩ => other ⟨hd, v, List.mem_cons_self .., same.symm⟩)
  · cases i with
    | zero =>
      obtain rfl : v = w := Option.some.inj hw
      exact ⟨rfl, kept ▸ first.outcome⟩
    | succ i =>
      have hw' : vs[i]? = some w := hw
      obtain ⟨same, outcome⟩ := rest.outcomes i w hw'
      have mem := List.mem_of_getElem? hw'
      rw [before w mem] at same outcome
      rw [List.take_succ_cons, List.foldl_cons, ← hu]
      exact ⟨same, outcome⟩
  · refine (first.logs.trans rest.logs).congr ?_
    have recorded : ∀ key, u.keyRecorded key = s.keyRecorded key :=
      keyRecorded_of_within within (by decide) (by decide) first.refs
    have later : ∀ w ∈ vs, u.keyRecord e w (u.carriageAt e w.key) (t.carriageAt e w.key) =
        s.keyRecord e w (s.carriageAt e w.key) (t.carriageAt e w.key) := fun w hw => by
      rw [before w hw]
      exact keyRecord_of_eq (recorded w.key) (within .clock (by decide)) _ _
    rw [List.filterMap_congr later, ← kept]
    cases h : s.keyRecord e v (s.carriageAt e v.key) (t.carriageAt e v.key) <;> simp [h]
  · exact (rest.services k fun w hw => hk w (List.mem_cons_of_mem _ hw)).trans
      (first.services k (Ne.symm (hk v (List.mem_cons_self ..))))
  · rcases List.mem_cons.1 hw with rfl | hw
    · rw [kept] at present
      rw [rest.services _ new]
      exact first.named present
    · exact rest.named w hw present
  · rw [List.length_cons] at services carriages
    have servicesLength := first.servicesLength
    have carriagesLength := first.carriagesLength
    rcases List.mem_cons.1 hw with rfl | hw
    · rw [kept]
      by_contra absent
      have := first.full (Option.not_isSome_iff_eq_none.1 absent)
      omega
    · exact rest.room (by omega) (by omega) w hw

theorem foldl_reconcileKey_reconciled (l e : Nat) {vs : List Listed} (nodup : (vs.map (·.key)).Nodup)
    (ordered : s.CatalogueOrdered) : KeysReconciled s (vs.foldl (fun u v => reconcileKey u l e v) s) l e vs := by
  induction vs generalizing s with
  | nil =>
    exact ⟨ordered, fun _ _ _ => rfl, by simp, Logs.refl s, fun _ => rfl, fun _ _ => rfl, by simp, by simp⟩
  | cons v vs ih =>
    obtain ⟨new, nodup'⟩ := List.nodup_cons.1 nodup
    have first := reconcileKey_reconciled l e v ordered
    exact KeysReconciled.cons first (ih nodup' first.ordered) rfl fun w hw same => new (List.mem_map.2 ⟨w, hw, same⟩)

end

end Sys2Proof.Machine
end

section
namespace Sys2Proof.Machine

open Sys2Proof Host

/-! ## The listed keys read no plan entry (R58, R59) -/

/-- The state with another plan. -/
def State.withEntries (s : State) (es : List PlanEntry) : State := { s with entries := es }

section

variable {s : State} {es : List PlanEntry}

theorem foldl_withEntries {α : Type} {f : State → α → State}
    (h : ∀ s a, f (s.withEntries es) a = (f s a).withEntries es) (as : List α) (s : State) :
    as.foldl f (s.withEntries es) = (as.foldl f s).withEntries es := by
  induction as generalizing s with
  | nil => rfl
  | cons a as ih => rw [List.foldl_cons, h, ih, List.foldl_cons]

theorem joinBinding_withEntries (s : State) (name : BindingName) :
    joinBinding (s.withEntries es) name = (joinBinding s name).withEntries es := by
  unfold joinBinding
  rw [show (s.withEntries es).binding name.lane name.flow = s.binding name.lane name.flow from rfl]
  split <;> rfl

theorem leaveBinding_withEntries (s : State) (name : BindingName) :
    leaveBinding (s.withEntries es) name = (leaveBinding s name).withEntries es := by
  unfold leaveBinding
  rw [show (s.withEntries es).binding name.lane name.flow = s.binding name.lane name.flow from rfl]
  split
  · rfl
  · split <;> rfl

theorem attemptBind_withEntries (s : State) (c l : Nat) (mark : Bool) :
    attemptBind (s.withEntries es) c l mark = (attemptBind s c l mark).withEntries es := by
  cases found : s.carriage c with
  | none =>
    rw [attemptBind_none found]
    exact attemptBind_none (s := s.withEntries es) found l mark
  | some x =>
    have found' : (s.withEntries es).carriage c = some x := found
    rw [attemptBind_some found, attemptBind_some found']
    rw [show canBind (s.withEntries es) l x.components = canBind s l x.components from rfl,
      show (s.withEntries es).attempted l mark x = s.attempted l mark x from rfl,
      foldl_withEntries joinBinding_withEntries]
    split <;> rfl

theorem releaseBindings_withEntries (s : State) (c : Nat) :
    releaseBindings (s.withEntries es) c = (releaseBindings s c).withEntries es := by
  cases found : s.carriage c with
  | none =>
    rw [releaseBindings_none found]
    exact releaseBindings_none (s := s.withEntries es) found
  | some x =>
    have found' : (s.withEntries es).carriage c = some x := found
    rw [releaseBindings_some found, releaseBindings_some found', foldl_withEntries leaveBinding_withEntries]
    rfl

theorem refeedAll_withEntries (s : State) (c had : Nat) :
    refeedAll (s.withEntries es) c had = (refeedAll s c had).withEntries es :=
  foldl_withEntries (fun _ _ => rfl) _ s

theorem rebind_withEntries (s : State) (c l : Nat) (comps : List (Kind × Nat)) (timing : Option Nat) :
    rebind (s.withEntries es) c l comps timing = (rebind s c l comps timing).withEntries es := by
  have relisted : relist (s.withEntries es) c comps timing = (relist s c comps timing).withEntries es := by
    unfold relist
    rw [releaseBindings_withEntries]
    rfl
  rw [rebind_eq, rebind_eq, relisted, attemptBind_withEntries, refeedAll_withEntries]
  rfl

theorem writeRecord_withEntries (s : State) (kind : RecordKind) (e : Nat) (key : Key) (c : Option Nat) :
    writeRecord (s.withEntries es) kind e key c = (writeRecord s kind e key c).withEntries es := by
  unfold writeRecord
  rw [show (s.withEntries es).mgmt = s.mgmt from rfl]
  split <;> rfl

theorem offerRecord_withEntries (s : State) (kind : RecordKind) (e : Nat) (key : Key) (c : Nat) :
    offerRecord (s.withEntries es) kind e key c = (offerRecord s kind e key c).withEntries es := by
  unfold offerRecord
  rw [show (s.withEntries es).keyRecorded key = s.keyRecorded key from rfl, writeRecord_withEntries]
  split <;> rfl

theorem freeIfUnheld_withEntries (s : State) (key : Key) :
    freeIfUnheld (s.withEntries es) key = (freeIfUnheld s key).withEntries es := by
  unfold freeIfUnheld
  rw [show (s.withEntries es).held key = s.held key from rfl]
  split <;> rfl

theorem serviceFor_withEntries (s : State) (v : Listed) :
    serviceFor (s.withEntries es) v = (serviceFor s v).map fun t => t.withEntries es := by
  unfold serviceFor createService
  rw [show (s.withEntries es).service v.key = s.service v.key from rfl,
    show (s.withEntries es).services = s.services from rfl]
  split
  · rfl
  · rw [Option.map_map]
    rfl

theorem newKey_withEntries (s : State) (l e : Nat) (v : Listed) :
    newKey (s.withEntries es) l e v = (newKey s l e v).withEntries es := by
  unfold newKey
  rw [serviceFor_withEntries]
  cases serviceFor s v with
  | none => exact writeRecord_withEntries ..
  | some t =>
    simp only [Option.map_some]
    rw [show (t.withEntries es).carriages = t.carriages from rfl]
    split
    · unfold offerTableFull
      rw [writeRecord_withEntries, freeIfUnheld_withEntries]
    · rename_i c _
      have bound := attemptBind_withEntries (es := es)
        { t with carriages := tableSet t.carriages c (Carriage.created e v t.clock) } c l false
      exact (congrArg (fun b => offerRecord (State.hand b v.key) .newService e v.key c) bound).trans
        (offerRecord_withEntries (State.hand _ v.key) .newService e v.key c)

theorem listedKey_withEntries (s : State) (l e c : Nat) (v : Listed) :
    listedKey (s.withEntries es) l e c v = (listedKey s l e c v).withEntries es := by
  unfold listedKey
  rw [show (s.withEntries es).carriage c = s.carriage c from rfl]
  split
  · rfl
  · rw [show rename (resetMissing (s.withEntries es) c) v = (rename (resetMissing s c) v).withEntries es from rfl]
    dsimp only
    rw [attemptBind_withEntries, rebind_withEntries, offerRecord_withEntries]
    split
    · split <;> rfl
    · rfl

theorem reconcileKey_withEntries (s : State) (l e : Nat) (v : Listed) :
    reconcileKey (s.withEntries es) l e v = (reconcileKey s l e v).withEntries es := by
  unfold reconcileKey
  rw [show (s.withEntries es).carriageFor e v.key = s.carriageFor e v.key from rfl]
  split
  · exact newKey_withEntries s l e v
  · exact listedKey_withEntries s l e _ v

end

end Sys2Proof.Machine
end

section
namespace Sys2Proof.Machine

open Sys2Proof Host

/-! ## Carriages that are not listed (R57, R60) -/

/-- A carriage that a directory does not list: its missing count rises, and at the absence limit it goes. -/
def Carriage.countedAway (x : Carriage) (limit : Nat) : Option Carriage :=
  if limit ≤ min (x.missing + 1) 15 then none else some { x with missing := min (x.missing + 1) 15 }

section

variable {s t u : State} {c : Nat}

/-- A fold over distinct carriages whose rounds each put or take away their own, as a map of the records. -/
theorem foldl_filterMap_own {f : State → Nat → State} {I : State → Prop} {F : Carriage → Option Carriage}
    (ordered : ∀ u c, u.CatalogueOrdered → (f u c).CatalogueOrdered)
    (step : ∀ u c, u.CatalogueOrdered → I u → (f u c).carriages =
      u.carriages.filterMap fun x => if x.1 = c then (F x.2).map fun y => (x.1, y) else some x)
    (keeps : ∀ u c, I u → I (f u c)) {cs : List Nat} (nodup : cs.Nodup) (hs : s.CatalogueOrdered) (hI : I s) :
    (cs.foldl f s).carriages =
      s.carriages.filterMap fun x => if x.1 ∈ cs then (F x.2).map fun y => (x.1, y) else some x := by
  induction cs generalizing s with
  | nil => simp
  | cons c cs ih =>
    obtain ⟨new, nodup'⟩ := List.nodup_cons.1 nodup
    rw [List.foldl_cons, ih nodup' (ordered s c hs) (keeps s c hI), step s c hs hI, List.filterMap_filterMap]
    refine List.filterMap_congr fun x _ => ?_
    by_cases hc : x.1 = c
    · subst hc
      cases kept : F x.2 <;> simp [new]
    · simp [hc]

/-- The state with another missing count for a carriage. -/
def setMissing (s : State) (c k : Nat) : State := s.modCarriage c fun y => { y with missing := k }

theorem setMissing_carriage {x : Carriage} (found : s.carriage c = some x) (k : Nat) :
    (setMissing s c k).carriage c = some { x with missing := k } := by
  rw [setMissing, State.carriage_modCarriage, found]
  rfl

theorem setMissing_ordered (c k : Nat) (ordered : s.CatalogueOrdered) : (setMissing s c k).CatalogueOrdered := by
  refine catalogueOrdered_of_keys (s := s) rfl ?_ ordered
  rw [setMissing, State.modCarriage_eq_map]
  exact carriageKeys_eq_of_map (fun x => if x.1 = c then { x.2 with missing := k } else x.2)
    (fun x _ => by split <;> exact ⟨rfl, rfl⟩) (List.map_congr_left fun x _ => by split <;> rfl)

theorem countMissing_some {x : Carriage} (found : s.carriage c = some x) : countMissing s c =
    if s.policy.absenceLimit ≤ min (x.missing + 1) 15 then
      vanish (setMissing s c (min (x.missing + 1) 15)) c
    else setMissing s c (min (x.missing + 1) 15) := by
  rw [countMissing, found]
  rfl

theorem countMissing_none (gone : s.carriage c = none) : countMissing s c = s := by
  rw [countMissing, gone]

theorem countMissing_ordered (c : Nat) (ordered : s.CatalogueOrdered) : (countMissing s c).CatalogueOrdered :=
  (countMissing_leads (r := false) (B := anyBind) s c).ordered ordered

theorem countMissing_carriages (ordered : s.CatalogueOrdered) (c : Nat) : (countMissing s c).carriages =
    s.carriages.filterMap fun x =>
      if x.1 = c then (x.2.countedAway s.policy.absenceLimit).map fun y => (x.1, y) else some x := by
  cases found : s.carriage c with
  | none =>
    rw [countMissing_none found]
    refine (List.filterMap_some.symm).trans (List.filterMap_congr fun x hx => ?_)
    rw [if_neg (tableGet_eq_none.1 found x hx)]
  | some x =>
    have own : ∀ z ∈ s.carriages, z.1 = c → z.2 = x := fun z hz hc => by
      have found' := ordered.carriage_of_mem hz
      rw [hc, found] at found'
      exact (Option.some.inj found').symm
    have table : (setMissing s c (min (x.missing + 1) 15)).carriages =
        replaceAt s.carriages c { x with missing := min (x.missing + 1) 15 } :=
      modCarriage_replaces (fun y => { y with missing := min (x.missing + 1) 15 }) ordered.carriages_ordered found
    rw [countMissing_some found]
    split
    · rename_i limit
      rw [vanish_carriages (setMissing_ordered c _ ordered), table, erase_replaceAt, tableErase,
        ← List.filterMap_eq_filter]
      refine List.filterMap_congr fun z hz => ?_
      by_cases hc : z.1 = c
      · simp [hc, own z hz hc, Carriage.countedAway, limit]
      · simp [hc]
    · rename_i below
      rw [table, replaceAt, ← List.filterMap_eq_map]
      refine List.filterMap_congr fun z hz => ?_
      by_cases hc : z.1 = c
      · simp [hc, own z hz hc, Carriage.countedAway, below]
      · simp [hc]

/-- The carriages once those that `p` picks are counted as missing. -/
theorem countMissingWhere_carriages (ordered : s.CatalogueOrdered) (p : Carriage → Bool) :
    ((s.carriagesWhere p).foldl countMissing s).carriages = s.carriages.filterMap fun x =>
      if p x.2 then (x.2.countedAway s.policy.absenceLimit).map fun y => (x.1, y) else some x := by
  rw [foldl_filterMap_own (I := fun u => u.policy = s.policy) (F := fun x => x.countedAway s.policy.absenceLimit)
    (fun u c hu => countMissing_ordered c hu) (fun u c hu policy => ?_)
    (fun u c policy => (countMissing_within u c .settings (by decide)).1.trans policy)
    (carriagesWhere_nodup ordered.carriages_ordered p) ordered rfl]
  · exact List.filterMap_congr fun x hx => by simp only [mem_carriagesWhere_of_mem ordered p hx]
  · rw [countMissing_carriages hu, policy]

/-! ### The records and the service records -/

/-- The record of a carriage counted as missing, if it goes. -/
def State.missingRecord (s : State) (c : Nat) : Option DiscoveryRecord :=
  (s.carriage c).bind fun x =>
    if decide (s.policy.absenceLimit ≤ min (x.missing + 1) 15) && s.keyRecorded x.service then
      some { kind := .vanished, entry := x.entry, key := x.service, carriage := some c, time := s.clock }
    else none

theorem countMissing_logs (s : State) (c : Nat) : Logs s (countMissing s c) (s.missingRecord c).toList := by
  cases found : s.carriage c with
  | none =>
    rw [countMissing_none found, State.missingRecord, found]
    exact Logs.refl s
  | some x =>
    have marked := setMissing_carriage found (min (x.missing + 1) 15)
    rw [countMissing_some found]
    split
    · rename_i limit
      have quiet : Logs s (setMissing s c (min (x.missing + 1) 15)) [] := Logs.of_eq rfl rfl
      refine (quiet.nil_trans (vanish_logs _ c)).congr (congrArg Option.toList ?_)
      simp only [State.vanishRecord, State.missingRecord, marked, found, Option.bind_some, limit, decide_true,
        Bool.true_and]
      rfl
    · rename_i below
      have quiet : Logs s (setMissing s c (min (x.missing + 1) 15)) [] := Logs.of_eq rfl rfl
      refine quiet.congr ?_
      simp only [State.missingRecord, found, Option.bind_some, decide_eq_false below, Bool.false_and]
      rfl

theorem countMissing_slotRefsOf (s : State) (c : Nat) (k : Key) : (countMissing s c).slotRefsOf k = s.slotRefsOf k := by
  cases found : s.carriage c with
  | none => rw [countMissing_none found]
  | some x =>
    rw [countMissing_some found]
    split
    · exact vanish_slotRefsOf _ c k
    · rfl

theorem countMissing_own (s : State) (c d : Nat) (ordered : s.CatalogueOrdered) (h : d ≠ c) :
    (countMissing s c).carriage d = s.carriage d := by
  cases found : s.carriage c with
  | none => rw [countMissing_none found]
  | some x =>
    have other : (setMissing s c (min (x.missing + 1) 15)).carriage d = s.carriage d := by
      rw [setMissing, State.carriage_modCarriage_other]
      exact Ne.symm h
    rw [countMissing_some found]
    split
    · rw [vanish_own _ c d (setMissing_ordered c _ ordered) h, other]
    · exact other

theorem countMissing_service_other {x : Carriage} (found : s.carriage c = some x) {k : Key} (h : k ≠ x.service) :
    (countMissing s c).service k = s.service k := by
  rw [countMissing_some found]
  split
  · have marked := setMissing_carriage found (min (x.missing + 1) 15)
    rw [vanish_some marked, removeCarriage_service_other ((offerRecord_carriage ..).trans marked) h]
    exact service_of_services (offerRecord_within _ _ _ _ _ .services (by decide)) k
  · rfl

/-- Counting distinct carriages as missing: the records, and the service records of other keys. -/
theorem foldl_countMissing_logs (ordered : s.CatalogueOrdered) {cs : List Nat} (nodup : cs.Nodup) :
    Logs s (cs.foldl countMissing s) (cs.filterMap s.missingRecord) ∧
      ∀ k, (∀ c ∈ cs, ∀ x, s.carriage c = some x → k ≠ x.service) → (cs.foldl countMissing s).service k = s.service k := by
  induction cs generalizing s with
  | nil => exact ⟨Logs.refl s, fun _ _ => rfl⟩
  | cons c cs ih =>
    obtain ⟨new, nodup'⟩ := List.nodup_cons.1 nodup
    obtain ⟨logs, services⟩ := ih (countMissing_ordered c ordered) nodup'
    have within := countMissing_within s c
    have kept : ∀ d ∈ cs, (countMissing s c).carriage d = s.carriage d := fun d hd =>
      countMissing_own s c d ordered fun e => new (e ▸ hd)
    have recorded : ∀ key, (countMissing s c).keyRecorded key = s.keyRecorded key :=
      keyRecorded_of_within within (by decide) (by decide) (countMissing_slotRefsOf s c)
    have same : ∀ d ∈ cs, (countMissing s c).missingRecord d = s.missingRecord d := fun d hd => by
      simp only [State.missingRecord, kept d hd, recorded, (within .settings (by decide)).1,
        show (countMissing s c).clock = s.clock from within .clock (by decide)]
    rw [List.filterMap_congr same] at logs
    refine ⟨((countMissing_logs s c).trans logs).congr ?_, fun k hk => ?_⟩
    · cases h : s.missingRecord c <;> simp [h]
    · refine (services k fun d hd x hx => ?_).trans ?_
      · rw [kept d hd] at hx
        exact hk d (List.mem_cons_of_mem _ hd) x hx
      · cases found : s.carriage c with
        | none => rw [countMissing_none found]
        | some x => exact countMissing_service_other found (hk c (List.mem_cons_self ..) x found)

/-- The records of the removals among the carriages that `p` picks. -/
theorem filterMap_missingRecord (ordered : s.CatalogueOrdered) (p : Carriage → Bool) :
    (s.carriagesWhere p).filterMap s.missingRecord =
      (s.carriages.filter fun x =>
        p x.2 && decide (s.policy.absenceLimit ≤ min (x.2.missing + 1) 15) && s.keyRecorded x.2.service).map fun x =>
        { kind := .vanished, entry := x.2.entry, key := x.2.service, carriage := some x.1, time := s.clock } := by
  rw [State.carriagesWhere, List.filterMap_map, ← List.filterMap_eq_map, List.filterMap_filter, List.filterMap_filter]
  refine List.filterMap_congr fun x hx => ?_
  simp only [Function.comp_apply, State.missingRecord, ordered.carriage_of_mem hx, Option.bind_some]
  by_cases hp : p x.2 = true <;>
    by_cases hr : (decide (s.policy.absenceLimit ≤ min (x.2.missing + 1) 15) && s.keyRecorded x.2.service) = true <;>
    simp [hp, Bool.and_assoc]

end

end Sys2Proof.Machine
end

section
namespace Sys2Proof.Machine

open Sys2Proof Host

/-! ## Tables as they are read -/

/-- Two tables that hold the same records are one. -/
theorem table_ext {α : Type} {t u : List (Nat × α)} (ht : TableOrdered t) (hu : TableOrdered u)
    (same : ∀ x, x ∈ t ↔ x ∈ u) : t = u := by
  have nodup : ∀ {w : List (Nat × α)}, TableOrdered w → w.Nodup := fun hw => hw.imp fun lt e => by
    rw [e] at lt
    exact Nat.lt_irrefl _ lt
  refine List.Perm.eq_of_pairwise (le := fun a b : Nat × α => a.1 < b.1)
    (fun a b _ _ (ab : a.1 < b.1) (ba : b.1 < a.1) => absurd ab (Nat.lt_asymm ba)) ht hu ?_
  exact (List.perm_ext_iff_of_nodup (nodup ht) (nodup hu)).2 same

/-- A table whose records each go or take another value at their index. -/
theorem tableGet_filterMap {α : Type} {t : List (Nat × α)} (ho : TableOrdered t) (F : α → Option α) (i : Nat) :
    tableGet (t.filterMap fun x => (F x.2).map fun y => (x.1, y)) i = (tableGet t i).bind F := by
  have ordered : TableOrdered (t.filterMap fun x => (F x.2).map fun y => (x.1, y)) := by
    refine List.Pairwise.filterMap _ (fun a b lt c hc d hd => ?_) ho
    obtain ⟨_, -, rfl⟩ := Option.map_eq_some_iff.1 hc
    obtain ⟨_, -, rfl⟩ := Option.map_eq_some_iff.1 hd
    exact lt
  apply Option.ext
  intro a
  rw [tableGet_eq_some ordered, List.mem_filterMap, Option.bind_eq_some_iff]
  constructor
  · rintro ⟨x, hx, taken⟩
    obtain ⟨y, hy, same⟩ := Option.map_eq_some_iff.1 taken
    obtain ⟨rfl, rfl⟩ := Prod.mk.inj same
    exact ⟨x.2, tableGet_of_mem ho hx, hy⟩
  · rintro ⟨x, hx, taken⟩
    exact ⟨(i, x), tableGet_mem hx, by simp [taken]⟩

/-! ## A full reconciliation (R58 to R60) -/

/-- A carriage of the entry that the message does not list. -/
def Carriage.leftOut (x : Carriage) (e : Nat) (m : DirectoryMessage) : Bool := x.entry = e && m.lists x.service == false

/-- A carriage once the unlisted ones of the entry are counted as missing. -/
def Carriage.afterListing (x : Carriage) (e : Nat) (m : DirectoryMessage) (limit : Nat) : Option Carriage :=
  if x.leftOut e m then x.countedAway limit else some x

theorem Carriage.leftOut_iff (x : Carriage) (e : Nat) (m : DirectoryMessage) :
    x.leftOut e m = true ↔ x.entry = e ∧ m.lists x.service = false := by
  simp [Carriage.leftOut]

theorem Carriage.afterListing_pair {x y : Carriage} {e limit : Nat} {m : DirectoryMessage}
    (h : x.afterListing e m limit = some y) : y.entry = x.entry ∧ y.service = x.service := by
  unfold Carriage.afterListing Carriage.countedAway at h
  split at h
  · split at h
    · cases h
    · obtain rfl := Option.some.inj h
      exact ⟨rfl, rfl⟩
  · obtain rfl := Option.some.inj h
    exact ⟨rfl, rfl⟩

theorem lists_iff (m : DirectoryMessage) (key : Key) : m.lists key = true ↔ ∃ v ∈ m.services, v.key = key := by
  simp [DirectoryMessage.lists]

section

variable {b : State} {l e : Nat} {m : DirectoryMessage}

/-- The listed keys of a message, in order. -/
def keyed (b : State) (l e : Nat) (vs : List Listed) : State := vs.foldl (fun u v => reconcileKey u l e v) b

/-- The carriages of a table that a message does not list, with their records (R60, R63). -/
def State.leavers (s : State) (e : Nat) (m : DirectoryMessage) : List DiscoveryRecord :=
  (s.carriages.filter fun x =>
    x.2.leftOut e m && decide (s.policy.absenceLimit ≤ min (x.2.missing + 1) 15) && s.keyRecorded x.2.service).map fun x =>
    { kind := .vanished, entry := x.2.entry, key := x.2.service, carriage := some x.1, time := s.clock }

/-- Counting the unlisted carriages of an entry as missing, in any state. -/
structure UnlistedCounted (u t : State) (e : Nat) (m : DirectoryMessage) : Prop where
  carriages : t.carriages = u.carriages.filterMap fun x =>
    (x.2.afterListing e m u.policy.absenceLimit).map fun y => (x.1, y)
  logs : Logs u t (u.leavers e m)
  services : ∀ k, m.lists k = true → t.service k = u.service k
  ordered : t.CatalogueOrdered

theorem countUnlisted (u : State) (ordered : u.CatalogueOrdered) (e : Nat) (m : DirectoryMessage) :
    UnlistedCounted u ((u.carriagesListed e m false).foldl countMissing u) e m := by
  have nodup := carriagesWhere_nodup ordered.carriages_ordered fun x => x.leftOut e m
  obtain ⟨logs, services⟩ := foldl_countMissing_logs ordered nodup
  refine ⟨?_, ?_, fun k listed => services k fun c hc x found => ?_, ?_⟩
  · refine (countMissingWhere_carriages ordered fun x => x.leftOut e m).trans (List.filterMap_congr fun x _ => ?_)
    unfold Carriage.afterListing
    split <;> simp
  · exact logs.congr (filterMap_missingRecord ordered fun x => x.leftOut e m)
  · obtain ⟨y, found', out⟩ := (mem_carriagesWhere ordered.carriages_ordered _ c).1 hc
    obtain rfl := Option.some.inj (found.symm.trans found')
    rintro rfl
    rw [((x.leftOut_iff e m).1 out).2] at listed
    cases listed
  · exact (Leads.foldl (r := false) (B := anyBind) (fun s c => countMissing_leads s c) _ u).ordered ordered

/-- The carriage at an index once the unlisted ones are counted. -/
theorem UnlistedCounted.carriage {u t : State} (h : UnlistedCounted u t e m) (ordered : u.CatalogueOrdered) (i : Nat) :
    t.carriage i = (u.carriage i).bind fun x => x.afterListing e m u.policy.absenceLimit := by
  rw [State.carriage, h.carriages]
  exact tableGet_filterMap ordered.carriages_ordered (fun x => x.afterListing e m u.policy.absenceLimit) i

theorem Carriage.afterListing_listed {x : Carriage} (lists : m.lists x.service = true) (limit : Nat) :
    x.afterListing e m limit = some x := by
  rw [Carriage.afterListing, if_neg]
  intro out
  rw [((x.leftOut_iff e m).1 out).2] at lists
  cases lists

/-- Counting the unlisted carriages leaves the listed ones. -/
theorem UnlistedCounted.carriageAt {u t : State} (h : UnlistedCounted u t e m) (ordered : u.CatalogueOrdered) {key : Key}
    (lists : m.lists key = true) (d : Nat) : t.carriageAt d key = u.carriageAt d key := by
  apply Option.ext
  intro y
  rw [carriageAt_eq_some h.ordered, carriageAt_eq_some ordered, ← h.ordered.carriage_eq_some y.1 y.2,
    ← ordered.carriage_eq_some y.1 y.2, h.carriage ordered, Option.bind_eq_some_iff]
  constructor
  · rintro ⟨⟨x, hx, taken⟩, entry, service⟩
    obtain ⟨-, same⟩ := Carriage.afterListing_pair taken
    rw [Carriage.afterListing_listed (by rw [← same, service]; exact lists)] at taken
    exact ⟨Option.some.inj taken ▸ hx, entry, service⟩
  · rintro ⟨hx, entry, service⟩
    exact ⟨⟨y.2, hx, Carriage.afterListing_listed (by rw [service]; exact lists) _⟩, entry, service⟩

/-- A carriage of a pair that the steps of the listed keys do not touch. -/
theorem KeysReconciled.mem_iff {s t : State} {vs : List Listed} (h : KeysReconciled s t l e vs) (ordered : s.CatalogueOrdered)
    {x : Nat × Carriage} (other : ¬ (x.2.entry = e ∧ ∃ v ∈ vs, v.key = x.2.service)) : x ∈ t.carriages ↔ x ∈ s.carriages := by
  have pair := h.others x.2.entry x.2.service other
  constructor
  · intro hx
    exact ((carriageAt_eq_some ordered _ _ x).1 (pair ▸ carriageAt_of_mem h.ordered hx)).1
  · intro hx
    exact ((carriageAt_eq_some h.ordered _ _ x).1 (pair.trans (carriageAt_of_mem ordered hx))).1

/-- A full reconciliation from `b` to `t`. -/
structure FullyReconciled (b t : State) (l e : Nat) (m : DirectoryMessage) : Prop where
  ordered : t.CatalogueOrdered
  others : ∀ x ∈ b.carriages, x.2.entry ≠ e → t.carriage x.1 = some x.2
  outcomes : ∀ i v, m.services[i]? = some v →
    (keyed b l e (m.services.take i)).carriageAt e v.key = b.carriageAt e v.key ∧
    (keyed b l e (m.services.take i)).KeyOutcome l e v (b.carriageAt e v.key) (t.carriageAt e v.key)
  unlisted : ∀ x ∈ b.carriages, x.2.entry = e → m.lists x.2.service = false →
    t.carriage x.1 = x.2.countedAway b.policy.absenceLimit
  listed : ∀ y ∈ t.carriages, y.2.entry = e → m.lists y.2.service = true ∨ ∃ x ∈ b.carriages, x.2.entry = e
  logs : Logs b t (m.services.filterMap (fun v => b.keyRecord e v (b.carriageAt e v.key) (t.carriageAt e v.key)) ++
    b.leavers e m)
  named : ∀ v ∈ m.services, (t.carriageAt e v.key).isSome → ∃ w, t.service v.key = some w ∧ w.name = v.name
  room : b.services.length + m.services.length ≤ 512 → b.carriages.length + m.services.length ≤ 1024 →
    ∀ v ∈ m.services, (t.carriageAt e v.key).isSome

theorem leavers_of_keys {k : State} (h : KeysReconciled b k l e m.services) (ordered : b.CatalogueOrdered)
    (within : Within catalogueParts b k) : k.leavers e m = b.leavers e m := by
  have recorded : ∀ key, k.keyRecorded key = b.keyRecorded key :=
    keyRecorded_of_within within (by decide) (by decide) h.refs
  have policy : k.policy = b.policy := (within .settings (by decide)).1
  have clock : k.clock = b.clock := within .clock (by decide)
  unfold State.leavers
  simp only [recorded, policy, clock]
  refine congrArg (List.map _) (table_ext (h.ordered.carriages_ordered.filter _) (ordered.carriages_ordered.filter _) ?_)
  intro x
  rw [List.mem_filter, List.mem_filter]
  refine and_congr_left fun picked => h.mem_iff ordered ?_
  simp only [Bool.and_eq_true] at picked
  rintro ⟨-, listed⟩
  have out := ((x.2.leftOut_iff e m).1 picked.1.1).2
  rw [(lists_iff m x.2.service).2 listed] at out
  cases out

theorem fullReconciliation_reconciled (ordered : b.CatalogueOrdered) (nodup : (m.services.map (·.key)).Nodup)
    (l e : Nat) : FullyReconciled b (fullReconciliation b l e m) l e m := by
  obtain ⟨k, hk⟩ : ∃ k, k = keyed b l e m.services := ⟨_, rfl⟩
  have keys : KeysReconciled b k l e m.services := hk ▸ foldl_reconcileKey_reconciled l e nodup ordered
  have within : Within catalogueParts b k :=
    hk ▸ Within.foldl _ (fun u v => reconcileKey_within u l e v) m.services b
  obtain ⟨c, hc⟩ : ∃ c, c = (k.carriagesListed e m false).foldl countMissing k := ⟨_, rfl⟩
  have counted : UnlistedCounted k c e m := hc ▸ countUnlisted k keys.ordered e m
  obtain ⟨t, ht⟩ : ∃ t, t = fullReconciliation b l e m := ⟨_, rfl⟩
  have written : t = c.modEntry e fun p => { p with directoryVersion := some m.version } := by rw [ht, hc, hk]; rfl
  have table : t.carriages = c.carriages := written ▸ rfl
  have policy : k.policy = b.policy := (within .settings (by decide)).1
  have carriage : ∀ i, t.carriage i = (k.carriage i).bind fun x => x.afterListing e m b.policy.absenceLimit := fun i => by
    rw [← policy, ← counted.carriage keys.ordered, State.carriage, table]
    rfl
  have ordered' : t.CatalogueOrdered := catalogueOrdered_of_eq (s := c) (written ▸ rfl) table counted.ordered
  have lists : ∀ v ∈ m.services, m.lists v.key = true := fun v hv => (lists_iff m v.key).2 ⟨v, hv, rfl⟩
  have present : ∀ v ∈ m.services, t.carriageAt e v.key = k.carriageAt e v.key := fun v hv =>
    (carriageAt_of_carriages table e v.key).trans (counted.carriageAt keys.ordered (lists v hv) e)
  have kept : ∀ x ∈ b.carriages, (x.2.entry = e → m.lists x.2.service = false) →
      t.carriage x.1 = x.2.afterListing e m b.policy.absenceLimit := fun x hx out => by
    have there : x ∈ k.carriages := (keys.mem_iff ordered fun h => by
      have listed := (lists_iff m x.2.service).2 h.2
      rw [out h.1] at listed
      cases listed).2 hx
    rw [carriage, keys.ordered.carriage_of_mem there, Option.bind_some]
  rw [← ht]
  refine ⟨ordered', fun x hx other => ?_, fun i v hv => ?_, fun x hx entry out => ?_, fun y hy entry => ?_, ?_,
    fun v hv some => ?_, fun services carriages v hv => ?_⟩
  · rw [kept x hx fun entry => absurd entry other, Carriage.afterListing, if_neg]
    exact fun out => other ((x.2.leftOut_iff e m).1 out).1
  · rw [present v (List.mem_of_getElem? hv)]
    exact keys.outcomes i v hv
  · rw [kept x hx fun _ => out, Carriage.afterListing, if_pos ((x.2.leftOut_iff e m).2 ⟨entry, out⟩)]
  · refine or_iff_not_imp_left.2 fun unlisted => ?_
    have found := ordered'.carriage_of_mem hy
    rw [carriage, Option.bind_eq_some_iff] at found
    obtain ⟨x, hx, taken⟩ := found
    obtain ⟨sameEntry, sameService⟩ := Carriage.afterListing_pair taken
    refine ⟨_, (keys.mem_iff ordered fun h => unlisted ?_).1 (State.carriage_mem hx), sameEntry.symm.trans entry⟩
    rw [sameService]
    exact (lists_iff m x.service).2 h.2
  · have named : Logs c t [] := written ▸ Logs.of_eq rfl rfl
    refine ((keys.logs.trans counted.logs).trans_nil named).congr ?_
    rw [leavers_of_keys keys ordered within]
    refine congrArg (· ++ _) (List.filterMap_congr fun v hv => ?_)
    rw [present v hv]
  · rw [present v hv] at some
    obtain ⟨w, found, name⟩ := keys.named v hv some
    exact ⟨w, (service_of_services (written ▸ rfl) v.key).trans ((counted.services v.key (lists v hv)).trans found), name⟩
  · rw [present v hv]
    exact keys.room services carriages v hv

end

end Sys2Proof.Machine
end

section
namespace Sys2Proof.Machine

open Sys2Proof Host

/-! ## A repeat (R57) -/

section

variable {s t : State} {l e : Nat} {m : DirectoryMessage}

theorem resetMissing_map (s : State) (c : Nat) : (resetMissing s c).carriages =
    s.carriages.map fun x => (x.1, if x.1 = c then x.2.present else x.2) :=
  tableModify_eq_map s.carriages c Carriage.present

/-- A carriage once the listed ones of the entry are present. -/
def Carriage.repeated (x : Carriage) (e : Nat) (m : DirectoryMessage) : Carriage :=
  if x.entry = e && m.lists x.service == true then x.present else x

theorem Carriage.repeated_leftOut (x : Carriage) (e : Nat) (m : DirectoryMessage) :
    (x.repeated e m).leftOut e m = x.leftOut e m := by
  unfold Carriage.repeated
  split <;> rfl

theorem Carriage.repeated_of_leftOut {x : Carriage} (out : x.leftOut e m = true) : x.repeated e m = x := by
  have unlisted := ((x.leftOut_iff e m).1 out).2
  simp [Carriage.repeated, unlisted]

/-- The state of a repeat once the listed carriages are present. -/
def presented (s : State) (e : Nat) (m : DirectoryMessage) : State := (s.carriagesListed e m true).foldl resetMissing s

theorem presented_within (s : State) (e : Nat) (m : DirectoryMessage) : Within [.carriages] s (presented s e m) :=
  Within.foldl _ (fun s c => resetMissing_within s c) _ s

theorem presented_ordered (ordered : s.CatalogueOrdered) (e : Nat) (m : DirectoryMessage) :
    (presented s e m).CatalogueOrdered :=
  (Leads.foldl (r := false) (B := anyBind) (fun s c => resetMissing_leads s c) _ s).ordered ordered

theorem presented_carriages (ordered : s.CatalogueOrdered) (e : Nat) (m : DirectoryMessage) :
    (presented s e m).carriages = s.carriages.map fun x => (x.1, x.2.repeated e m) :=
  foldlWhere_map_own (I := fun _ => True) (F := Carriage.present)
    (fun u c hu => (resetMissing_leads (r := false) (B := anyBind) u c).ordered hu)
    (fun u c _ _ => resetMissing_map u c) (fun _ _ _ => trivial) ordered trivial _

theorem presented_leavers (ordered : s.CatalogueOrdered) : (presented s e m).leavers e m = s.leavers e m := by
  have within := presented_within s e m
  have recorded : ∀ key, (presented s e m).keyRecorded key = s.keyRecorded key :=
    keyRecorded_of_within within (by decide) (by decide) (slotRefsOf_of_services (within .services (by decide)))
  have policy : (presented s e m).policy = s.policy := (within .settings (by decide)).1
  have clock : (presented s e m).clock = s.clock := within .clock (by decide)
  unfold State.leavers
  simp only [presented_carriages ordered, recorded, policy, clock, List.filter_map, List.map_map]
  have picked : (s.carriages.filter ((fun x : Nat × Carriage => x.2.leftOut e m &&
        decide (s.policy.absenceLimit ≤ min (x.2.missing + 1) 15) && s.keyRecorded x.2.service) ∘ fun x =>
          (x.1, x.2.repeated e m))) =
      s.carriages.filter fun x => x.2.leftOut e m &&
        decide (s.policy.absenceLimit ≤ min (x.2.missing + 1) 15) && s.keyRecorded x.2.service := by
    refine List.filter_congr fun x _ => ?_
    simp only [Function.comp_apply, Carriage.repeated_leftOut]
    cases out : x.2.leftOut e m with
    | true => rw [Carriage.repeated_of_leftOut out]
    | false => rfl
  rw [picked]
  refine List.map_congr_left fun x hx => ?_
  simp only [List.mem_filter, Bool.and_eq_true] at hx
  simp only [Function.comp_apply, Carriage.repeated_of_leftOut hx.2.1.1]

/-- The carriages, the log and the frame of a repeat. -/
theorem repeatDirectory_leaves (ordered : s.CatalogueOrdered) (shaped : s.Shaped) (hl : l < 17) :
    ((repeatDirectory s l e m).carriages = s.carriages.filterMap fun x =>
      if x.2.entry ≠ e then some x
      else if m.lists x.2.service then some (x.1, { x.2 with missing := 0 })
      else if s.policy.absenceLimit ≤ min (x.2.missing + 1) 15 then none
      else some (x.1, { x.2 with missing := min (x.2.missing + 1) 15 })) ∧
    (repeatDirectory s l e m).entries = s.entries ∧
    ((repeatDirectory s l e m).lane l).asm.repeats = min ((s.lane l).asm.repeats + 1) 4294967295 ∧
    Logs s (repeatDirectory s l e m) (s.leavers e m) := by
  have within := presented_within s e m
  obtain ⟨c, hc⟩ : ∃ c, c = ((presented s e m).carriagesListed e m false).foldl countMissing (presented s e m) := ⟨_, rfl⟩
  have counted : UnlistedCounted (presented s e m) c e m := hc ▸ countUnlisted _ (presented_ordered ordered e m) e m
  have counting : Within catalogueParts (presented s e m) c := hc ▸ Within.foldl _ (fun s c => countMissing_within s c) _ _
  have result : repeatDirectory s l e m = c.modLane l fun n =>
      { n with asm := { n.asm with repeats := saturate Config.counter32 (n.asm.repeats + 1) } } := by
    rw [hc]
    rfl
  have lanes : c.lanes = s.lanes := (counting .lanes (by decide)).trans (within .lanes (by decide))
  rw [result]
  refine ⟨?_, (counting .entries (by decide)).trans (within .entries (by decide)), ?_, ?_⟩
  · rw [State.modLane_carriages, counted.carriages, presented_carriages ordered, List.filterMap_map,
      (within .settings (by decide)).1]
    refine List.filterMap_congr fun x _ => ?_
    simp only [Function.comp_apply, Carriage.afterListing, Carriage.repeated_leftOut]
    by_cases entry : x.2.entry = e
    · cases lists : m.lists x.2.service with
      | true => simp [entry, lists, Carriage.leftOut, Carriage.repeated, Carriage.present]
      | false =>
        have out := (x.2.leftOut_iff e m).2 ⟨entry, lists⟩
        rw [if_pos out, Carriage.repeated_of_leftOut out, if_neg (not_not.2 entry), if_neg Bool.false_ne_true,
          Carriage.countedAway]
        split <;> rfl
    · have stays : x.2.leftOut e m = false := by simp [Carriage.leftOut, entry]
      have same : x.2.repeated e m = x.2 := by simp [Carriage.repeated, entry]
      rw [if_pos entry, stays, same]
      rfl
  · have lane : (c.modLane l fun n => { n with asm := { n.asm with repeats := saturate Config.counter32 (n.asm.repeats + 1) } }).lane l = _ :=
      c.lane_modLane l _ (by rw [lanes, shaped.2.1]; omega)
    rw [lane, show c.lane l = s.lane l by simp only [State.lane, lanes]]
    rfl
  · have counter : Logs c (c.modLane l fun n =>
        { n with asm := { n.asm with repeats := saturate Config.counter32 (n.asm.repeats + 1) } }) [] := Logs.of_eq rfl rfl
    refine (((Logs.of_within within (by decide)).nil_trans counted.logs).trans_nil counter).congr ?_
    exact presented_leavers ordered

end

end Sys2Proof.Machine
end

section
namespace Sys2Proof.Machine

open Sys2Proof Host

/-! ## A multiplex change (R56) -/

section

variable {s b : State} {l e : Nat} {m : DirectoryMessage}

/-- What a full reconciliation of entry `e` of state `s` begins from: state `b` holds the carriages of other entries
and no key's record of the log's condition has changed. -/
structure Begins (s b : State) (e : Nat) (m : DirectoryMessage) : Prop where
  ordered : b.CatalogueOrdered
  others : ∀ x ∈ s.carriages, x.2.entry ≠ e → x ∈ b.carriages
  recorded : ∀ key, b.keyRecorded key = s.keyRecorded key
  clock : b.clock = s.clock
  policy : b.policy = s.policy
  lanes : b.lanes = s.lanes
  entries : b.entries.length = s.entries.length
  multiplexId : (b.entry e).multiplexId = some m.multiplexId
  servicesLength : b.services.length ≤ s.services.length
  carriagesLength : b.carriages.length ≤ s.carriages.length

theorem foldl_vanish_slotRefsOf (cs : List Nat) (s : State) (k : Key) :
    (cs.foldl vanish s).slotRefsOf k = s.slotRefsOf k := by
  induction cs generalizing s with
  | nil => rfl
  | cons c cs ih => rw [List.foldl_cons, ih, vanish_slotRefsOf]

theorem vanish_services_length (s : State) (c : Nat) : (vanish s c).services.length ≤ s.services.length := by
  cases found : s.carriage c with
  | none => rw [vanish_none found]
  | some x =>
    rw [vanish_some found]
    refine (removeCarriage_services_length _ c).trans (le_of_eq ?_)
    rw [show (offerRecord s .vanished x.entry x.service c).services = s.services from
      offerRecord_within s _ _ _ _ .services (by decide)]

theorem foldl_vanish_services_length (cs : List Nat) (s : State) :
    (cs.foldl vanish s).services.length ≤ s.services.length := by
  induction cs generalizing s with
  | nil => exact le_refl _
  | cons c cs ih => exact (ih (vanish s c)).trans (vanish_services_length s c)

/-- The condition of ENTRY-CHANGED is that a carriage to be removed has a recorded key. -/
theorem changeRecorded_eq (s : State) (e : Nat) : s.changeRecorded e =
    (s.output.logAll || s.carriages.any fun x => decide (x.2.entry = e) && s.keyRecorded x.2.service) := by
  unfold State.changeRecorded State.keyRecorded
  cases s.output.logAll <;> simp

/-- The state of a multiplex change once its own record is written. -/
def changeNoted (s : State) (e : Nat) (old new : BitVec 16) : State :=
  if s.changeRecorded e then writeRecord s .entryChanged e (old ++ new) none else s

theorem changeNoted_within (s : State) (e : Nat) (old new : BitVec 16) : Within [.log] s (changeNoted s e old new) :=
  Within.ite (writeRecord_within s _ _ _ _) (Within.refl _ s)

theorem changeNoted_logs (s : State) (e : Nat) (old new : BitVec 16) : Logs s (changeNoted s e old new)
    (if s.changeRecorded e then
      [{ kind := .entryChanged, entry := e, key := old ++ new, carriage := none, time := s.clock }] else []) := by
  unfold changeNoted
  split
  · exact writeRecord_logs s _ _ _ _
  · exact Logs.refl s

/-- What a multiplex change leaves: no carriage of the entry, with the records of their removal. -/
theorem multiplexChange_leaves (ordered : s.CatalogueOrdered) (shaped : s.Shaped) (he : e < 64) (old : BitVec 16) :
    Begins s (multiplexChange s e old m.multiplexId) e m ∧
      ((multiplexChange s e old m.multiplexId).carriages = s.carriages.filter fun x => !decide (x.2.entry = e)) ∧
      Logs s (multiplexChange s e old m.multiplexId)
        ((if s.changeRecorded e then
          [{ kind := .entryChanged, entry := e, key := old ++ m.multiplexId, carriage := none, time := s.clock }] else []) ++
        (s.carriages.filter fun x => decide (x.2.entry = e) && s.keyRecorded x.2.service).map fun x =>
          { kind := .vanished, entry := x.2.entry, key := x.2.service, carriage := some x.1, time := s.clock }) := by
  have noted := changeNoted_within s e old m.multiplexId
  have logged := changeNoted_logs s e old m.multiplexId
  have orderedN : (changeNoted s e old m.multiplexId).CatalogueOrdered :=
    catalogueOrdered_of_eq (noted .services (by decide)) (noted .carriages (by decide)) ordered
  obtain ⟨n, hn⟩ : ∃ n, n = changeNoted s e old m.multiplexId := ⟨_, rfl⟩
  rw [← hn] at noted logged orderedN
  obtain ⟨c, hc⟩ : ∃ c, c = (n.entryCarriages e).foldl vanish n := ⟨_, rfl⟩
  have emptied : Within catalogueParts n c := hc ▸ Within.foldl _ (fun s c => vanish_within s c) _ n
  have within : Within catalogueParts s c := (noted.mono (by decide)).trans emptied
  have result : multiplexChange s e old m.multiplexId =
      c.modEntry e fun p => { p with multiplexId := some m.multiplexId, directoryVersion := none } := by
    rw [hc, hn]
    rfl
  have refs : ∀ k, n.slotRefsOf k = s.slotRefsOf k := slotRefsOf_of_services (noted .services (by decide))
  have recordedN : ∀ key, n.keyRecorded key = s.keyRecorded key :=
    keyRecorded_of_within noted (by decide) (by decide) refs
  have tableN : n.carriages = s.carriages := noted .carriages (by decide)
  have table : c.carriages = s.carriages.filter fun x => !decide (x.2.entry = e) := by
    rw [hc]
    exact (vanishWhere_carriages orderedN fun x => decide (x.entry = e)).trans (by rw [tableN])
  have records : Logs n c ((s.carriages.filter fun x => decide (x.2.entry = e) && s.keyRecorded x.2.service).map fun x =>
      { kind := .vanished, entry := x.2.entry, key := x.2.service, carriage := some x.1, time := s.clock }) := by
    have removals := foldl_vanish_logs orderedN (carriagesWhere_nodup orderedN.carriages_ordered fun x => decide (x.entry = e))
    rw [filterMap_vanishRecord orderedN, tableN, show n.clock = s.clock from noted .clock (by decide)] at removals
    simp only [recordedN] at removals
    exact hc ▸ removals
  have orderedC : c.CatalogueOrdered :=
    hc ▸ (Leads.foldl (r := false) (B := anyBind) (fun s c => vanish_leads s c) _ n).ordered orderedN
  have entries : c.entries = s.entries := within .entries (by decide)
  rw [result]
  refine ⟨⟨orderedC, fun x hx other => ?_, fun key => ?_, within .clock (by decide), (within .settings (by decide)).1,
    within .lanes (by decide), ?_, ?_, ?_, ?_⟩, table, (logged.trans records).trans_nil (Logs.of_eq rfl rfl)⟩
  · show x ∈ c.carriages
    rw [table]
    exact List.mem_filter.2 ⟨hx, by simpa using other⟩
  · exact keyRecorded_of_within within (by decide) (by decide)
      (fun k => by rw [hc, foldl_vanish_slotRefsOf, refs]) key
  · rw [State.modEntry_entries, List.length_modify, entries]
  · rw [c.entry_modEntry e _ (by rw [entries, shaped.1]; omega)]
  · show c.services.length ≤ _
    rw [hc]
    exact (foldl_vanish_services_length _ n).trans
      (le_of_eq (congrArg List.length (noted .services (by decide))))
  · show c.carriages.length ≤ _
    rw [table]
    exact List.length_filter_le ..

/-! ## The frame of a full reconciliation -/

theorem fullReconciliation_frame (shaped : b.entries.length = 64) (he : e < 64) (l : Nat) (m : DirectoryMessage) :
    (fullReconciliation b l e m).lanes = b.lanes ∧
      (fullReconciliation b l e m).entry e = { b.entry e with directoryVersion := some m.version } := by
  obtain ⟨k, hk⟩ : ∃ k, k = keyed b l e m.services := ⟨_, rfl⟩
  obtain ⟨c, hc⟩ : ∃ c, c = (k.carriagesListed e m false).foldl countMissing k := ⟨_, rfl⟩
  have within : Within catalogueParts b c :=
    (hk ▸ Within.foldl _ (fun u v => reconcileKey_within u l e v) m.services b : Within catalogueParts b k).trans
      (hc ▸ Within.foldl _ (fun s c => countMissing_within s c) _ k)
  have written : fullReconciliation b l e m = c.modEntry e fun p => { p with directoryVersion := some m.version } := by
    rw [hc, hk]
    rfl
  have entries : c.entries = b.entries := within .entries (by decide)
  rw [written]
  refine ⟨within .lanes (by decide), ?_⟩
  rw [c.entry_modEntry e _ (by rw [entries, shaped]; omega)]
  simp only [State.entry, entries]

/-! ## The bases of a reconciliation (R55) -/

theorem begins_withEntries {es : List PlanEntry} (ordered : s.CatalogueOrdered) (length : es.length = s.entries.length)
    (id : (es.getD e PlanEntry.fresh).multiplexId = some m.multiplexId) : Begins s (s.withEntries es) e m :=
  ⟨ordered, fun _ hx _ => hx, fun _ => rfl, rfl, rfl, rfl, length, id, le_refl _, le_refl _⟩

/-- A message that is no repeat and no multiplex change is reconciled in full, from the same state but for the plan. -/
theorem reconcile_first (shaped : s.Shaped) (he : e < 64) (first : Bool)
    (new : ¬ ((s.entry e).multiplexId = some m.multiplexId ∧ first = false ∧
      (s.entry e).directoryVersion = some m.version))
    (keeps : ¬ ((s.entry e).multiplexId ≠ none ∧ (s.entry e).multiplexId ≠ some m.multiplexId)) :
    ∃ es : List PlanEntry, es.length = s.entries.length ∧
      (es.getD e PlanEntry.fresh).multiplexId = some m.multiplexId ∧
      reconcile s l e m first = fullReconciliation (s.withEntries es) l e m := by
  unfold reconcile
  cases id : (s.entry e).multiplexId with
  | none =>
    refine ⟨s.entries.modify e fun p => { p with multiplexId := some m.multiplexId }, List.length_modify .., ?_, rfl⟩
    have written := s.entry_modEntry e (fun p => { p with multiplexId := some m.multiplexId }) (by rw [shaped.1]; omega)
    exact (congrArg PlanEntry.multiplexId written)
  | some i =>
    have same : i = m.multiplexId := by
      by_contra other
      exact keeps (by simp [id, other])
    subst same
    refine ⟨s.entries, rfl, id, ?_⟩
    dsimp only
    rw [if_neg (not_not.2 rfl), if_neg]
    · rfl
    · intro again
      simp only [Bool.and_eq_true, Bool.not_eq_true', decide_eq_true_eq] at again
      exact new ⟨id, again⟩

theorem reconcile_changed {i : BitVec 16} (first : Bool) (id : (s.entry e).multiplexId = some i) (other : i ≠ m.multiplexId) :
    reconcile s l e m first = fullReconciliation (multiplexChange s e i m.multiplexId) l e m := by
  unfold reconcile
  rw [id]
  exact if_pos other

theorem reconcile_again (id : (s.entry e).multiplexId = some m.multiplexId)
    (version : (s.entry e).directoryVersion = some m.version) :
    reconcile s l e m false = repeatDirectory s l e m := by
  unfold reconcile
  rw [id]
  dsimp only
  rw [if_neg (not_not.2 rfl), if_pos (by simp [version])]

end

end Sys2Proof.Machine
end

section
namespace Sys2Proof.Machine

open Sys2Proof Host

/-! ## Reconciliations as the statement reads them (R55 to R60, R63) -/

section

variable {s b t u w : State} {es : List PlanEntry} {l e : Nat} {m : DirectoryMessage} {v : Listed}

theorem keyRecorded_eq (s : State) (key : Key) : s.keyRecorded key =
    (s.output.logAll || s.watch.contains (some key) || (s.service key).any fun v => decide (0 < v.slotRefs)) := by
  unfold State.keyRecorded State.slotRefsOf State.watched
  cases s.service key <;> simp

theorem sameList_eq_false (x : Carriage) (v : Listed) : (!x.sameList v) =
    decide ((x.components.map fun d => (d.kind, d.flow)) ≠ v.components ∨ x.timing ≠ v.timing) := by
  unfold Carriage.sameList
  rw [Bool.not_and, Bool.decide_or, decide_not, decide_not]

theorem keyed_withEntries (w : State) (es : List PlanEntry) (l e : Nat) (vs : List Listed) :
    keyed (w.withEntries es) l e vs = (keyed w l e vs).withEntries es :=
  foldl_withEntries (fun s v => reconcileKey_withEntries s l e v) vs w

theorem keyed_clock (w : State) (l e : Nat) (vs : List Listed) : (keyed w l e vs).clock = w.clock :=
  Within.foldl (ps := catalogueParts) _ (fun u v => reconcileKey_within u l e v) vs w .clock (by decide)

theorem keyOutcome_withEntries (u : State) (before after : Option (Nat × Carriage)) :
    (u.withEntries es).KeyOutcome l e v before after ↔ u.KeyOutcome l e v before after := by
  cases before with
  | none => exact Iff.rfl
  | some x =>
    unfold State.KeyOutcome
    dsimp only
    rw [releaseBindings_withEntries]
    exact Iff.rfl

/-- What a key's step makes of its carriage, in the state that the keys before it left. -/
theorem FullyReconciled.outcome (h : FullyReconciled (w.withEntries es) t l e m) {i : Nat} {y : Nat × Carriage}
    (listed : m.services[i]? = some v) (found : t.carriageAt e v.key = some y) :
    (keyed w l e (m.services.take i)).KeyOutcome l e v ((keyed w l e (m.services.take i)).carriageAt e v.key) (some y) := by
  obtain ⟨same, outcome⟩ := h.outcomes i v listed
  rw [← same, keyed_withEntries, keyOutcome_withEntries, found] at outcome
  exact outcome

theorem FullyReconciled.stands (h : FullyReconciled b t l e m) (listed : v ∈ m.services) {y : Nat × Carriage}
    (found : t.carriageAt e v.key = some y) : y.2.ListedAs v ∧ (b.carriageAt e v.key = none → y.2.merit = none) := by
  obtain ⟨i, hi⟩ := List.mem_iff_getElem?.1 listed
  obtain ⟨-, outcome⟩ := h.outcomes i v hi
  rw [found] at outcome
  cases before : b.carriageAt e v.key with
  | none =>
    rw [before] at outcome
    exact ⟨outcome.created.1, fun _ => outcome.created.2⟩
  | some x =>
    rw [before] at outcome
    obtain ⟨y', same, listed', -⟩ := outcome.listed
    obtain rfl := Option.some.inj same
    exact ⟨listed', nofun⟩

/-- Where the tables have room every listed key gets a carriage with the listed components, and its name (R58, R59). -/
theorem FullyReconciled.fits (h : FullyReconciled b t l e m)
    (services : b.services.length + m.services.length ≤ 512) (carriages : b.carriages.length + m.services.length ≤ 1024)
    (listed : v ∈ m.services) :
    (∃ y ∈ t.carriages, y.2.entry = e ∧ y.2.service = v.key ∧ y.2.missing = 0 ∧
      (y.2.components.map fun d => (d.kind, d.flow)) = v.components ∧ y.2.timing = v.timing) ∧
    ∃ w, t.service v.key = some w ∧ w.name = v.name := by
  have present := h.room services carriages v listed
  refine ⟨?_, h.named v listed present⟩
  obtain ⟨y, found⟩ := Option.isSome_iff_exists.1 present
  obtain ⟨hy, entry, service⟩ := (carriageAt_eq_some h.ordered e v.key y).1 found
  obtain ⟨missing, components, timing⟩ := (h.stands listed found).1
  exact ⟨y, hy, entry, service, missing, components, timing⟩

/-- A listed carriage of the entry keeps its place and its figures (R59). -/
theorem FullyReconciled.kept (h : FullyReconciled b t l e m) (ordered : b.CatalogueOrdered) {x : Nat × Carriage}
    (hx : x ∈ b.carriages) (entry : x.2.entry = e) (listed : v ∈ m.services) (key : v.key = x.2.service) :
    ∃ y, t.carriage x.1 = some y ∧ y.entry = e ∧ y.service = v.key ∧ y.missing = 0 ∧ y.merit = x.2.merit ∧
      y.faultScore = x.2.faultScore ∧ (y.components.map fun d => (d.kind, d.flow)) = v.components ∧
      y.timing = v.timing := by
  obtain ⟨i, hi⟩ := List.mem_iff_getElem?.1 listed
  obtain ⟨-, outcome⟩ := h.outcomes i v hi
  have before : b.carriageAt e v.key = some x := by
    rw [key, ← entry]
    exact carriageAt_of_mem ordered hx
  rw [before] at outcome
  obtain ⟨y, after, ⟨missing, components, timing⟩, merit, fault⟩ := outcome.listed
  obtain ⟨hy, entry', service'⟩ := (carriageAt_eq_some h.ordered e v.key _).1 after
  exact ⟨y, h.ordered.carriage_of_mem hy, entry', service', missing, merit, fault, components, timing⟩

/-- Once no carriage of the entry is left every one of its carriages is new (R56, R58). -/
theorem FullyReconciled.allNew (h : FullyReconciled b t l e m) (emptied : ∀ x ∈ b.carriages, x.2.entry ≠ e)
    {y : Nat × Carriage} (hy : y ∈ t.carriages) (entry : y.2.entry = e) :
    m.lists y.2.service = true ∧ y.2.merit = none ∧ y.2.missing = 0 := by
  have lists : m.lists y.2.service = true := (h.listed y hy entry).resolve_right fun ⟨x, hx, there⟩ => emptied x hx there
  obtain ⟨v, hv, key⟩ := (lists_iff m y.2.service).1 lists
  have found : t.carriageAt e v.key = some y := by
    rw [key, ← entry]
    exact carriageAt_of_mem h.ordered hy
  obtain ⟨⟨missing, -, -⟩, merit⟩ := h.stands hv found
  exact ⟨lists, merit (carriageAt_eq_none.2 fun x hx there => absurd there (emptied x hx)), missing⟩

/-! ### The attempts of the listed keys -/

theorem State.KeyOutcome.attempts_new {now : Clock} {y : Nat × Carriage} (h : u.KeyOutcome l e v none (some y))
    (clock : u.clock = now) : u.AttemptLeaves l false (Carriage.created e v now) y.2 := by
  rw [h y rfl, clock]
  exact attempted_leaves ..

theorem State.KeyOutcome.attempts_listed {x y : Nat × Carriage} (h : u.KeyOutcome l e v (some x) (some y)) :
    (x.2.sameList v = true → x.2.state ≠ .shelved → y = (x.1, x.2.present)) ∧
      (x.2.sameList v = true → x.2.state = .shelved → u.AttemptLeaves l false x.2.present y.2) ∧
      (¬ x.2.sameList v = true → (releaseBindings u x.1).AttemptLeaves l false (x.2.listedAs v) y.2) := by
  obtain rfl := Option.some.inj h
  refine ⟨fun same held => ?_, fun same shelved => ?_, fun other => ?_⟩
  · rw [if_pos same, if_neg held]
  · rw [if_pos same, if_pos shelved]
    exact attempted_leaves ..
  · rw [if_neg other]
    exact attempted_leaves ..

/-! ### The records and the bases -/

/-- Records of removals of an entry's carriages name the entry. -/
theorem vanishedRecords_eq {p q : Nat × Carriage → Bool} (s : State)
    (same : ∀ x ∈ s.carriages, p x = q x) (own : ∀ x, q x = true → x.2.entry = e) (now : Clock) :
    ((s.carriages.filter p).map fun x =>
        ({ kind := .vanished, entry := e, key := x.2.service, carriage := some x.1, time := now } : DiscoveryRecord)) =
      (s.carriages.filter q).map fun x =>
        { kind := .vanished, entry := x.2.entry, key := x.2.service, carriage := some x.1, time := now } := by
  rw [List.filter_congr same]
  refine List.map_congr_left fun x hx => ?_
  rw [own x (List.mem_filter.1 hx).2]

theorem leavers_nil (emptied : ∀ x ∈ b.carriages, x.2.entry ≠ e) : b.leavers e m = [] := by
  have none : b.carriages.filter (fun x => x.2.leftOut e m &&
      decide (b.policy.absenceLimit ≤ min (x.2.missing + 1) 15) && b.keyRecorded x.2.service) = [] := by
    rw [List.filter_eq_nil_iff]
    intro x hx
    have stays : x.2.leftOut e m = false := by simp [Carriage.leftOut, emptied x hx]
    rw [stays]
    exact Bool.false_ne_true
  rw [State.leavers, none]
  rfl

/-- The base of a reconciliation that is no repeat: the state without the entry's carriages where the multiplex has
changed, and otherwise the state itself, with another plan. -/
theorem reconcile_base (ordered : s.CatalogueOrdered) (shaped : s.Shaped) (he : e < 64) (l : Nat) (first : Bool)
    (new : ¬ ((s.entry e).multiplexId = some m.multiplexId ∧ first = false ∧
      (s.entry e).directoryVersion = some m.version)) :
    ∃ w es, Begins s (w.withEntries es) e m ∧ reconcile s l e m first = fullReconciliation (w.withEntries es) l e m ∧
      w = if (s.entry e).multiplexId ≠ none ∧ (s.entry e).multiplexId ≠ some m.multiplexId then
        multiplexChange s e ((s.entry e).multiplexId.getD 0) m.multiplexId else s := by
  by_cases change : (s.entry e).multiplexId ≠ none ∧ (s.entry e).multiplexId ≠ some m.multiplexId
  · obtain ⟨i, id⟩ := Option.ne_none_iff_exists'.1 change.1
    have other : i ≠ m.multiplexId := fun same => change.2 (by rw [id, same])
    refine ⟨multiplexChange s e i m.multiplexId, (multiplexChange s e i m.multiplexId).entries,
      (multiplexChange_leaves ordered shaped he i).1, reconcile_changed first id other, ?_⟩
    rw [if_pos change, id]
    rfl
  · obtain ⟨es, length, id, result⟩ := reconcile_first (l := l) shaped he first new change
    exact ⟨s, es, begins_withEntries ordered length id, result, (if_neg change).symm⟩

end

end Sys2Proof.Machine
end

section

open Sys2Proof Sys2Proof.Machine Host

/-- Settles O53: a repeat by its folds, and any other message by the full reconciliation from its base, each listed key
by its own step. -/
theorem directoriesAreReconciled : Obligations.DirectoriesAreReconciled := by
  intro s l e m first ordered shaped hl he nodup t id listed counted change recorded record carriageOf vanished unlisted
    offered changed again
  have recordedEq : ∀ key, recorded key = s.keyRecorded key := fun key => (keyRecorded_eq s key).symm
  have unlistedEq : unlisted = s.leavers e m := by
    refine vanishedRecords_eq s (fun x _ => ?_) (fun x out => ?_) s.clock
    · have lists : listed x.2 = m.lists x.2.service := rfl
      simp only [recordedEq, lists, Carriage.leftOut, counted]
      cases m.lists x.2.service <;> simp
    · simp only [Bool.and_eq_true] at out
      exact ((x.2.leftOut_iff e m).1 out.1.1).1
  have removalsEq : vanished (fun _ => true) =
      (s.carriages.filter fun x => decide (x.2.entry = e) && s.keyRecorded x.2.service).map fun x =>
        { kind := .vanished, entry := x.2.entry, key := x.2.service, carriage := some x.1, time := s.clock } := by
    refine vanishedRecords_eq s (fun x _ => ?_) (fun x out => ?_) s.clock
    · simp only [recordedEq, Bool.and_true]
    · simp only [Bool.and_eq_true, decide_eq_true_eq] at out
      exact out.1
  by_cases hagain : again
  · obtain ⟨known, notFirst, version⟩ := hagain
    have result : t = repeatDirectory s l e m := by
      show reconcile s l e m first = _
      rw [notFirst]
      exact reconcile_again known version
    obtain ⟨carriages, entries, repeats, logs⟩ := repeatDirectory_leaves (e := e) (m := m) ordered shaped hl
    rw [← result] at carriages entries repeats logs
    refine ⟨fun _ => ⟨carriages, entries, repeats⟩, fun h => absurd ⟨known, notFirst, version⟩ h, ?_⟩
    rw [if_pos ⟨known, notFirst, version⟩, unlistedEq]
    exact ⟨logs.log, logs.overflow⟩
  · obtain ⟨w, es, begins, result, base⟩ := reconcile_base ordered shaped he l first hagain
    have full : FullyReconciled (w.withEntries es) t l e m :=
      (show t = _ from result) ▸ fullReconciliation_reconciled begins.ordered nodup l e
    have frame := fullReconciliation_frame (begins.entries.trans shaped.1) he l m
    rw [← result] at frame
    obtain ⟨lanes, entry⟩ := frame
    have emptied : change → ∀ x ∈ (w.withEntries es).carriages, x.2.entry ≠ e := fun changed x hx => by
      have hx' : x ∈ w.carriages := hx
      rw [base.trans (if_pos changed), (multiplexChange_leaves ordered shaped he _).2.1] at hx'
      simpa using (List.mem_filter.1 hx').2
    refine ⟨fun h => absurd h hagain, fun _ => ⟨?_, ?_, ?_, fun x hx other => ?_, fun keeps => ?_, fun known other => ?_,
      fun services carriages v hv => ?_, fun i v y hv found => ?_⟩, ?_⟩
    · exact (congrArg PlanEntry.multiplexId entry).trans begins.multiplexId
    · exact congrArg PlanEntry.directoryVersion entry
    · rw [State.lane, lanes, begins.lanes]
      rfl
    · exact full.others x (begins.others x hx other) other
    · have same : w = s := base.trans (if_neg fun h => keeps.elim h.1 h.2)
      rw [same] at full begins
      exact ⟨fun x hx entry out => full.unlisted x hx entry out,
        fun x hx entry v hv key => full.kept begins.ordered hx entry hv key⟩
    · intro y hy there
      exact full.allNew (emptied ⟨known, other⟩) hy there
    · exact full.fits (le_trans (Nat.add_le_add_right begins.servicesLength _) services)
        (le_trans (Nat.add_le_add_right begins.carriagesLength _) carriages) hv
    · have outcome := full.outcome hv found
      have clock : (keyed w l e (m.services.take i)).clock = s.clock := (keyed_clock w l e _).trans begins.clock
      rw [base] at outcome clock
      intro u unbound
      split
      · rename_i absent
        rw [show (keyed _ l e (m.services.take i)).carriageAt e v.key = none from absent] at outcome
        exact outcome.attempts_new clock
      · rename_i x before
        rw [show (keyed _ l e (m.services.take i)).carriageAt e v.key = some x from before] at outcome
        obtain ⟨held, shelved, relisted⟩ := outcome.attempts_listed
        have sameIff := sameList_iff x.2 v
        exact ⟨fun same => held (sameIff.2 same), fun same => shelved (sameIff.2 same),
          fun other => relisted fun same => other (sameIff.1 same)⟩
    · rw [if_neg hagain]
      have before : ∀ key, (w.withEntries es).carriageAt e key = if change then none else carriageOf s key := fun key => by
        split
        · exact carriageAt_eq_none.2 fun x hx there => absurd there (emptied ‹_› x hx)
        · exact carriageAt_of_carriages (congrArg State.carriages (base.trans (if_neg ‹_›))) e key
      have offeredEq : m.services.filterMap (fun v => (w.withEntries es).keyRecord e v
          ((w.withEntries es).carriageAt e v.key) (t.carriageAt e v.key)) = m.services.filterMap offered := by
        refine List.filterMap_congr fun v _ => ?_
        have after : carriageOf t v.key = t.carriageAt e v.key := rfl
        simp only [offered, after, before, State.keyRecord, begins.recorded, begins.clock, recordedEq, record,
          sameList_eq_false] <;> rfl
      have logs := full.logs
      rw [offeredEq] at logs
      by_cases hchange : change
      · rw [if_pos hchange]
        rw [leavers_nil (emptied hchange), List.append_nil] at logs
        have noted := (multiplexChange_leaves (m := m) ordered shaped he (id.getD 0)).2.2
        have reached : w = multiplexChange s e (id.getD 0) m.multiplexId := base.trans (if_pos hchange)
        rw [← reached] at noted
        have noted' : Logs s (w.withEntries es) _ := ⟨noted.log, noted.overflow⟩
        have changedEq : changed = if s.changeRecorded e then [record .entryChanged (id.getD 0 ++ m.multiplexId) none] else [] := by
          rw [changeRecorded_eq]
          simp only [changed, recordedEq]
        have all := noted'.trans logs
        rw [changedEq, removalsEq]
        exact ⟨all.log, all.overflow⟩
      · rw [if_neg hchange, unlistedEq]
        have same : w = s := base.trans (if_neg hchange)
        rw [same] at logs
        exact ⟨logs.log, logs.overflow⟩

end

section
namespace Sys2Proof.Machine

open Sys2Proof Host

/-! ## The part's own time (R47, R181, R182) -/

theorem insertDue_perm (key : Nat → Nat) (a : Instr × Nat) (due : List (Instr × Nat)) :
    (insertDue key a due).Perm (a :: due) := by
  induction due with
  | nil => exact List.Perm.refl _
  | cons b due ih =>
    unfold insertDue
    split
    · exact List.Perm.refl _
    · exact (ih.cons b).trans (List.Perm.swap a b due)

/-- Whatever its keys, the free order keeps each due step once. -/
theorem orderDue_perm (n : Nat) (steps : List Instr) : (orderDue n steps).Perm steps := by
  have sorted : ∀ due : List (Instr × Nat), (due.foldr (insertDue (Config.coincidenceKey n)) []).Perm due := by
    intro due
    induction due with
    | nil => exact List.Perm.refl _
    | cons a due ih => exact (insertDue_perm _ a _).trans (ih.cons a)
  simpa [orderDue] using (sorted steps.zipIdx).map Prod.fst

theorem idle_held {s : State} (held : s.resetHeld = true) : idle s = s := by simp [idle, held]

theorem idle_ticks {s : State} (awake : s.resetHeld = false) (nothing : s.dueSteps = []) :
    idle s = { s with clock := s.clock + 1 } := by simp [idle, awake, nothing]

theorem idle_queues {s : State} (awake : s.resetHeld = false) (due : s.dueSteps ≠ []) :
    idle s = { s with pending := s.pending ++ orderDue s.freeCount s.dueSteps, freeCount := s.freeCount + 1 } := by
  unfold idle
  rw [if_neg (by simp [awake])]
  split
  · contradiction
  · rfl

theorem step_idle {s : State} (empty : s.pending = []) : step s = .next (idle s) := by simp [step, empty]

end Sys2Proof.Machine

open Sys2Proof Sys2Proof.Machine Host

/-- Settles O2: the three cases of an idle part, the queued steps being a permutation of the due ones. -/
theorem idlePartTicksOrQueuesItsDueSteps : Obligations.IdlePartTicksOrQueuesItsDueSteps := by
  intro s empty
  rw [step_idle empty]
  refine ⟨fun held => by rw [idle_held held], fun awake nothing => by rw [idle_ticks awake nothing],
    fun awake due => ⟨orderDue s.freeCount s.dueSteps, orderDue_perm .., ?_⟩⟩
  rw [idle_queues awake due, empty, List.nil_append]

end

section
namespace Sys2Proof.Machine

open Sys2Proof Host

/-! ## Events that end no visit (R111, R123, R185) -/

section

variable {s t : State}

theorem settleNotice_eq (s t : State) : settleNotice s t = settledEvent s t := rfl

/-- The end of an act that ends no visit, as the statements write it. -/
theorem closeEvent_quiet (s t : State) : closeEvent s (t, []) = settledEvent s (closeAct s t) := by
  rw [closeEvent, if_pos rfl, settleNotice_eq]

/-- What the end of such an act may touch. -/
theorem closeEvent_within (s t : State) : Within [.services, .slots, .handed, .owed] t (closeEvent s (t, [])) := by
  rw [closeEvent_quiet, ← settleNotice_eq]
  exact ((closeAct_within s t).mono (by decide)).trans ((settleNotice_within s (closeAct s t)).mono (by decide))

theorem timerDue_iff (tm : Option Timer) (now : Clock) :
    timerDue tm now = true ↔ ∃ r, tm = some r ∧ r.span ≤ (now - r.start).toNat := by
  cases tm with
  | none => simp [timerDue]
  | some r =>
    rw [timerDue, Timer.due, decide_eq_true_iff]
    exact ⟨fun due => ⟨r, rfl, due⟩, fun ⟨_, same, due⟩ => Option.some.inj same ▸ due⟩

/-! ## Stalls (R40) -/

theorem exec_stallExpiry {i : Nat} (hi : i < 1024) (s : State) : exec (.stallExpiry i) s =
    .next (event s (s.stallDueAt i) fun s => (stallCarriage s i, [])) := by
  have small : ¬ Config.maxCarriages ≤ i := by simpa [Config.maxCarriages] using hi
  exact if_neg small

theorem isScored_iff (st : CarriageState) :
    st.isScored = true ↔ st = .probation ∨ st = .usable ∨ st = .faulted := by cases st <;> decide

/-- The silence of a carriage whose primary component has a binding runs from the later of R40's two times, which the
carriage's mark tells. -/
theorem silenceOf_bound {x : Carriage} {d : Component} {b : Binding} (primary : x.components.head? = some d)
    (bound : s.bindingOf d = some b) :
    s.silenceOf x = (s.clock - if x.heard = true then b.lastCellTime else x.boundTime).toNat := by
  simp [State.silenceOf, primary, bound, elapsed]

theorem stallDue_iff (s : State) (x : Carriage) : s.stallDue x = true ↔
    (x.state = .probation ∨ x.state = .usable ∨ x.state = .faulted) ∧ x.stalled = false ∧
      1000 * s.policy.stallTime ≤ s.silenceOf x := by
  simp only [State.stallDue, Bool.and_eq_true, isScored_iff, Bool.not_eq_true', decide_eq_true_eq, and_assoc]
  rw [micros, Nat.mul_comm]

theorem stallCarriage_carriages {i : Nat} {x : Carriage} (ordered : s.CatalogueOrdered)
    (found : s.carriage i = some x) : (stallCarriage s i).carriages =
      s.carriages.map fun y => if y.1 = i then (i, { x with stalled := true }) else y := by
  simp only [stallCarriage, found]
  refine List.map_congr_left fun y hy => ?_
  split
  · subst_vars
    rw [Option.some.inj ((ordered.carriage_of_mem hy).symm.trans found)]
  · rfl

end

end Sys2Proof.Machine

open Sys2Proof Sys2Proof.Machine Host

/-- Settles O55: an expiry acts exactly when R40's three conditions hold, and then marks the one carriage. -/
theorem silentCarriagesStall : Obligations.SilentCarriagesStall := by
  intro s i x d b awake settled ordered found primary bound later passed placed
  obtain ⟨nm, names, held⟩ := bound
  have bindingOf : s.bindingOf d = some b := by rw [State.bindingOf, names]; exact held
  have small : i < 1024 := ordered.2.2.2.2.2.1 (i, x) (State.carriage_mem found)
  have due : s.stallDueAt i = true ↔ placed ∧ x.stalled = false ∧ passed := by
    simp only [State.stallDueAt, found, stallDue_iff, silenceOf_bound primary bindingOf]
    rfl
  rw [exec_stallExpiry small]
  refine ⟨fun scored running silent => ⟨_, rfl, ?_⟩, fun early => ?_⟩
  · rw [event_on _ (due.2 ⟨scored, running, silent⟩) awake, closeEvent_within s _ .carriages (by decide)]
    exact stallCarriage_carriages ordered found
  · rw [event_off _ (.inl (Bool.eq_false_iff.2 fun h => early (due.1 h)))]

end

section
namespace Sys2Proof.Machine

open Sys2Proof Host

/-! ## Cells as they arrive and are sorted (R27 to R29, R44) -/

section

variable {s : State} {l : Nat} {bs : List Byte} {c : Cell}

theorem exec_cellArrival (hl : l ≤ 16) (size : bs.length = 160) (awake : s.resetHeld = false) :
    exec (.cellArrival l bs) s = .next (closeEvent s (arriveCell s l bs)) := by
  have exists_ : ¬ Config.houseLane < l := by simpa [Config.houseLane] using hl
  have whole : ¬ bs.length ≠ Config.cellBytes := by simpa [Config.cellBytes] using size
  show execCellArrival l bs s = _
  rw [execCellArrival, if_neg exists_, if_neg whole, event_on _ rfl awake]

/-- A lane's record as a cell arrives on it (R44). -/
def Lane.receiving (n : Lane) : Lane :=
  { n with counters := { n.counters with received := saturate Config.counter32 (n.counters.received + 1) } }

/-- The state in which an arrived cell is checked (R27, R44). -/
def received (s : State) (l : Nat) : State := s.modLane l Lane.receiving

theorem arriveCell_damaged (damaged : headerPasses bs = false) :
    arriveCell s l bs = (failedCell (received s l) l, []) := if_neg (by simp [damaged])

theorem arriveCell_sound (sound : headerPasses bs = true) :
    arriveCell s l bs = checkedCell (received s l) l (readCell bs) := if_pos sound

/-- What the count of an arrived cell leaves of a lane's record. -/
theorem received_lane {α : Type} (get : Lane → α) (h : ∀ n : Lane, get n.receiving = get n) :
    get ((received s l).lane l) = get (s.lane l) := lane_modLane_keeps get h l

/-- A cell that changes one lane's record alone and hands nothing on. -/
theorem cellArrival_modLane {f : Lane → Lane} (hl : l ≤ 16) (size : bs.length = 160) (awake : s.resetHeld = false)
    (settled : s.Settled) (h : arriveCell s l bs = ((received s l).modLane l f, [])) :
    exec (.cellArrival l bs) s =
      .next (settledEvent s { s with lanes := s.lanes.modify l fun n => f n.receiving }) := by
  have one : (received s l).modLane l f = { s with lanes := s.lanes.modify l fun n => f n.receiving } :=
    s.modLane_modLane l _ _
  rw [exec_cellArrival hl size awake, h, one, closeEvent_settled]
  · exact settled
  · rfl

/-- A lane dispatches by flow when it is parked, or roving in its dwell (R28, R29). -/
def Lane.Dispatches (n : Lane) : Prop := n.mode = .parked ∨ n.mode = .roving ∧ n.visitState = some .dwelling

theorem checkedCell_dispatches (h : (s.lane l).Dispatches) : checkedCell s l c = dispatchCell s l c := by
  unfold checkedCell
  rcases h with parked | ⟨roving, dwelling⟩
  · rw [parked]
  · rw [roving, if_pos dwelling]

/-- An idle lane takes a status cell for its report. -/
theorem checkedCell_idle_status (idle : (s.lane l).mode = .idle) (flow : c.flow = 4094) :
    checkedCell s l c = (idleStatus s l c.e (readStatus c.payload), []) := by
  rw [checkedCell, idle]
  exact congrArg (·, []) (if_pos flow)

/-- An idle lane discards every other cell, a void cell too (log 40). -/
theorem checkedCell_idle_other (idle : (s.lane l).mode = .idle) (flow : c.flow ≠ 4094) : checkedCell s l c =
    (s.modCounters l fun n => { n with idle := saturate Config.counter32 (n.idle + 1) }, []) := by
  rw [checkedCell, idle]
  exact congrArg (·, []) (if_neg flow)

/-- A roving lane outside its dwell discards every cell but a status cell (R29). -/
theorem checkedCell_discards (roving : (s.lane l).mode = .roving) (outside : (s.lane l).visitState ≠ some .dwelling)
    (flow : c.flow ≠ 4094) : checkedCell s l c = (s, []) := by
  rw [checkedCell, roving]
  exact (if_neg outside).trans (if_neg flow)

theorem received_dispatches : ((received s l).lane l).Dispatches ↔ (s.lane l).Dispatches := by
  rw [received_lane Lane.Dispatches fun _ => rfl]

theorem dispatchCell_programme (flow : c.flow < 4032) : dispatchCell s l c = (programmeCell s l c, []) := if_pos flow

theorem dispatchCell_void (flow : c.flow = 4095) : dispatchCell s l c = (voidArrived s l, []) := by
  simp [dispatchCell, Config.firstReservedFlow, Config.voidFlow, flow]

theorem dispatchCell_status (flow : c.flow = 4094) (feed : l < 16) : dispatchCell s l c = statusCell s l c := by
  simp [dispatchCell, Config.firstReservedFlow, Config.voidFlow, Config.directoryFlow, Config.statusFlow, isFeed,
    Config.houseLane, flow, feed]

/-- The reserved flows that name nothing the lane takes (R28). -/
theorem dispatchCell_unexpected (reserved : 4032 ≤ c.flow) (void : c.flow ≠ 4095) (directory : c.flow ≠ 4064)
    (status : c.flow = 4094 → l = 16) (management : c.flow = 4080 → l < 16) :
    dispatchCell s l c = (unexpectedCell s l, []) := by
  have programme : ¬ c.flow < Config.firstReservedFlow := by simpa [Config.firstReservedFlow] using reserved
  have house : ¬ (c.flow = Config.statusFlow ∧ isFeed l = true) := fun ⟨flow, feed⟩ => by
    rw [status flow] at feed
    cases feed
  have feeds : ¬ (c.flow = Config.managementFlow ∧ isFeed l = false) := fun ⟨flow, feed⟩ => by
    simp [isFeed, Config.houseLane, management flow] at feed
  have void' : ¬ c.flow = Config.voidFlow := void
  have directory' : ¬ c.flow = Config.directoryFlow := directory
  rw [dispatchCell, if_neg programme, if_neg void', if_neg directory', if_neg house, if_neg feeds]

theorem programmeCell_unbound (free : s.binding l c.flow = none) : programmeCell s l c =
    s.modCounters l fun n => { n with unbound := saturate Config.counter32 (n.unbound + 1) } := by
  simp [programmeCell, free]

/-! ### Fields of a cell's payload -/

theorem getD_slice {k n i : Nat} (h : i < n) (d : Byte) : (slice bs k n).getD i d = bs.getD (k + i) d := by
  simp [slice, List.getD, h]

theorem numberAt_slice {k n i w : Nat} (h : i + w ≤ n) : numberAt (slice bs k n) i w = numberAt bs (k + i) w := by
  have short : w ≤ n - i := by omega
  simp [numberAt, slice, List.drop_take, List.take_take, Nat.min_eq_left short]

end

end Sys2Proof.Machine

open Sys2Proof Sys2Proof.Machine Host

/-- Settles O45: in each case the arrival changes one lane's record alone. -/
theorem arrivingCellsAreSortedAndCounted : Obligations.ArrivingCellsAreSortedAndCounted := by
  intro s l bs awake settled hl size flow n dispatching arrived counted
  have check : headerPasses bs = decide (headerCheck (bs.take 7) = bs.getD 7 0) := rfl
  have mode : ((received s l).lane l).mode = n.mode := received_lane (fun n => n.mode) fun _ => rfl
  have state : ((received s l).lane l).visitState = n.visitState := received_lane (fun n => n.visitState) fun _ => rfl
  have arrives : ∀ f : Lane → Lane, arriveCell s l bs = ((received s l).modLane l f, []) →
      exec (.cellArrival l bs) s = .next (arrived f) := fun f => cellArrival_modLane hl size awake settled
  refine ⟨fun damaged => arrives _ (arriveCell_damaged (check.trans (decide_eq_false damaged))), fun passes => ?_⟩
  have sound := arriveCell_sound (s := s) (l := l) (check.trans (decide_eq_true passes))
  have dispatched : dispatching → arriveCell s l bs = dispatchCell (received s l) l (readCell bs) := fun takes =>
    sound.trans (checkedCell_dispatches (received_dispatches.2 takes))
  refine ⟨fun idle other => ?_, fun idle status => ?_, fun takes void => ?_,
    fun takes reserved void directory status management => ?_, fun takes programme free => ?_,
    fun roving outside other => ?_⟩
  · exact arrives _ (sound.trans (checkedCell_idle_other (mode.trans idle) other))
  · have uncorrected := numberAt_slice (bs := bs) (k := 8) (n := 152) (i := 4) (w := 2) (by decide)
    have level := getD_slice (bs := bs) (k := 8) (n := 152) (i := 3) (by decide) 0
    rw [← uncorrected, ← level]
    exact arrives _ (sound.trans (checkedCell_idle_status (mode.trans idle) status))
  · exact arrives _ ((dispatched takes).trans (dispatchCell_void void))
  · exact arrives _ ((dispatched takes).trans (dispatchCell_unexpected reserved void directory status management))
  · exact arrives _ ((dispatched takes).trans
      ((dispatchCell_programme programme).trans (congrArg (·, []) (programmeCell_unbound free))))
  · refine arrives id ((sound.trans (checkedCell_discards (mode.trans roving) (by rwa [state]) other)).trans ?_)
    exact congrArg (·, []) (by simp [State.modLane])

end

section
namespace Sys2Proof.Machine

open Sys2Proof Host

/-! ## The record of a lane as status cells and timers leave it (R33 to R38) -/

theorem nextTag_eq (tag : Nat) : nextTag tag = tagAfter tag := by
  unfold nextTag tagAfter
  split <;> split <;> omega

theorem startTimer_eq (s : State) (ms : Nat) : s.startTimer ms = some { start := s.clock, span := 1000 * ms } := by
  rw [State.startTimer, micros, Nat.mul_comm]

theorem Lane.tuned_eq (n : Lane) (word : BitVec 64) : n.tuned word =
    { n with
      pendingOrder := some { kind := .tune, tag := n.tagCounter, word := word }
      tagCounter := tagAfter n.tagCounter, currentTag := some n.tagCounter, acknowledged := false } := by
  rw [Lane.tuned, nextTag_eq]

theorem Lane.entering_same {n : Lane} {new : ParkedState} (h : n.parkedState = some new) : n.entering new = n :=
  if_pos h

@[simp] theorem Lane.entering_parkedState (n : Lane) (new : ParkedState) : (n.entering new).parkedState = some new := by
  by_cases h : n.parkedState = some new
  · rw [Lane.entering_same h, h]
  · simp only [Lane.entering, if_neg h]
    cases new <;> rfl

/-- AWAIT and LOCKED are entered without a cause (R36). -/
theorem Lane.entering_plain (n : Lane) {new : ParkedState} (plain : new = .await ∨ new = .locked) :
    n.entering new = { n with parkedState := some new } := by
  by_cases h : n.parkedState = some new
  · rw [Lane.entering_same h, ← h]
  · simp only [Lane.entering, if_neg h]
    rcases plain with rfl | rfl <;> rfl

theorem Lane.entering_unlocked (n : Lane) : n.entering .unlocked =
    { n with
      parkedState := some .unlocked
      laneFlag := n.laneFlag || decide (n.parkedState ≠ some .unlocked)
      flagCauses := { n.flagCauses with
        unlocked := n.flagCauses.unlocked || decide (n.parkedState ≠ some .unlocked) } } := by
  by_cases h : n.parkedState = some .unlocked
  · simp only [Lane.entering_same h, h, ne_eq, not_true_eq_false, decide_false, Bool.or_false]
    rw [← h]
  · simp [Lane.entering, Lane.cause, h]

theorem Lane.entering_silent (n : Lane) : n.entering .silent =
    { n with
      parkedState := some .silent
      laneFlag := n.laneFlag || decide (n.parkedState ≠ some .silent)
      flagCauses := { n.flagCauses with
        silent := n.flagCauses.silent || decide (n.parkedState ≠ some .silent) } } := by
  by_cases h : n.parkedState = some .silent
  · simp only [Lane.entering_same h, h, ne_eq, not_true_eq_false, decide_false, Bool.or_false]
    rw [← h]
  · simp [Lane.entering, Lane.cause, h]

/-! ## Lane-down flags (R39) -/

section

variable {s t : State} {l : Nat} {m : Lane}

theorem keepsLaneDown_iff (st : CarriageState) : st.keepsLaneDown = true ↔ st ≠ .shelved ∧ st ≠ .survey := by
  cases st <;> decide

theorem setLaneDown_map (s : State) (c : Nat) (down : Bool) : (setLaneDown s c down).carriages =
    s.carriages.map fun x => (x.1, if x.1 = c then { x.2 with laneDown := down } else x.2) := by
  have changed := tableModify_eq_map s.carriages c fun y => { y with laneDown := down }
  unfold setLaneDown
  split
  · rename_i gone
    refine (List.map_congr_left fun x hx => ?_).trans (List.map_id _) |>.symm
    rw [if_neg (tableGet_eq_none.1 gone x hx), id]
  · dsimp only
    split <;> exact changed

theorem setLaneDown_ordered (s : State) (c : Nat) (down : Bool) (ordered : s.CatalogueOrdered) :
    (setLaneDown s c down).CatalogueOrdered :=
  (setLaneDown_leads (r := false) (B := anyBind) s c down).ordered ordered

/-- Every carriage of the lane that keeps a lane-down flag takes it, also one that has it already. -/
theorem laneDownAll_carriages (ordered : s.CatalogueOrdered) (l : Nat) (down : Bool) :
    (laneDownAll s l down).carriages = s.carriages.map fun x =>
      (x.1, if x.2.lane = some l ∧ x.2.state.keepsLaneDown = true then { x.2 with laneDown := down } else x.2) := by
  unfold laneDownAll
  rw [foldlWhere_map_own (I := fun _ => True) (F := fun x => { x with laneDown := down }) (fun u c => setLaneDown_ordered u c down)
    (fun u c _ _ => setLaneDown_map u c down) (fun _ _ _ => trivial) ordered trivial]
  refine List.map_congr_left fun x _ => ?_
  by_cases same : x.2.laneDown = down
  · have fixed : ({ x.2 with laneDown := down } : Carriage) = x.2 := by rw [← same]
    simp only [fixed, ite_self]
  · simp [same, and_comm]

/-- A carriage as its lane moves from one parked state to another (R39). -/
def Carriage.followsLane (x : Carriage) (l : Nat) (old new : Option ParkedState) : Carriage :=
  if x.lane = some l ∧ x.state ≠ .shelved ∧ x.state ≠ .survey ∧ ¬ (old = some .locked ↔ new = some .locked) then
    { x with laneDown := decide (new ≠ some .locked) }
  else x

theorem Carriage.followsLane_still (x : Carriage) (l : Nat) {old new : Option ParkedState}
    (h : old = some .locked ↔ new = some .locked) : x.followsLane l old new = x :=
  if_neg fun ⟨_, _, _, moved⟩ => moved h

theorem followsLane_still (xs : List (Nat × Carriage)) (l : Nat) {old new : Option ParkedState}
    (h : old = some .locked ↔ new = some .locked) : (xs.map fun x => (x.1, x.2.followsLane l old new)) = xs := by
  simp only [Carriage.followsLane_still _ l h, Prod.mk.eta, List.map_id']

/-- The statements' form of the flag that a carriage takes. -/
theorem followsLane_eq (x : Nat × Carriage) (l : Nat) (old new : Option ParkedState) :
    (x.1, x.2.followsLane l old new) =
      if x.2.lane = some l ∧ x.2.state ≠ .shelved ∧ x.2.state ≠ .survey ∧
          ¬ (old = some .locked ↔ new = some .locked) then
        (x.1, { x.2 with laneDown := decide (new ≠ some .locked) })
      else x := by
  unfold Carriage.followsLane
  split <;> rfl

/-- A lane that falls silent takes its carriages down when it was LOCKED. -/
theorem followsLane_silent (x : Nat × Carriage) (l : Nat) (old : Option ParkedState) :
    (x.1, x.2.followsLane l old (some .silent)) =
      if x.2.lane = some l ∧ x.2.state ≠ .shelved ∧ x.2.state ≠ .survey ∧ old = some .locked then
        (x.1, { x.2 with laneDown := true })
      else x := by
  have left : ¬ (old = some .locked ↔ some ParkedState.silent = some .locked) ↔ old = some .locked := by simp
  simp only [followsLane_eq, left]
  rfl

theorem moveParked_lanes (s : State) (l : Nat) (new : ParkedState) :
    (moveParked s l new).lanes = s.lanes.modify l fun n => n.entering new := by
  unfold moveParked
  dsimp only
  split
  · rfl
  · exact laneDownAll_within _ l _ .lanes (by decide)

/-- A move that neither enters nor leaves LOCKED changes no lane-down flag. -/
theorem moveParked_still {new : ParkedState} (old : (s.lane l).parkedState ≠ some .locked) (other : new ≠ .locked) :
    moveParked s l new = s.modLane l fun n => n.entering new := by
  simp [moveParked, old, other]

theorem moveParked_carriages (ordered : s.CatalogueOrdered) (l : Nat) (new : ParkedState) :
    (moveParked s l new).carriages =
      s.carriages.map fun x => (x.1, x.2.followsLane l (s.lane l).parkedState (some new)) := by
  unfold moveParked
  dsimp only
  split
  · rename_i still
    have still : (s.lane l).parkedState = some .locked ↔ some new = some .locked := by simpa using still
    exact (followsLane_still _ l still).symm
  · rename_i moved
    have moved : ¬ ((s.lane l).parkedState = some .locked ↔ some new = some .locked) := by simpa using moved
    rw [laneDownAll_carriages ((Calm.modLane s l _).leads (r := false) (B := anyBind) |>.ordered ordered)]
    have flag : decide (new ≠ .locked) = decide (some new ≠ some .locked) := by simp
    refine List.map_congr_left fun x _ => ?_
    have keeps := keepsLaneDown_iff x.2.state
    rw [Carriage.followsLane, flag]
    exact congrArg (Prod.mk x.1) (if_congr (by tauto) rfl rfl)

/-! ## What the conversation with the front end leaves (R34 to R39) -/

/-- `t` is `s` with record `m` of lane `l`, the lane's carriages following its parked state. -/
structure State.LaneBecomes (s t : State) (l : Nat) (m : Lane) : Prop where
  within : Within laneParts s t
  lanes : t.lanes = s.lanes.set l m
  ordered : s.CatalogueOrdered → t.CatalogueOrdered
  carriages : s.CatalogueOrdered →
    t.carriages = s.carriages.map fun x => (x.1, x.2.followsLane l (s.lane l).parkedState m.parkedState)

theorem modify_eq_set {α : Type} (xs : List α) (i : Nat) (f : α → α) (d : α) :
    xs.modify i f = xs.set i (f (xs.getD i d)) := by
  apply List.ext_getElem?
  intro j
  by_cases h : i = j
  · subst h
    by_cases hi : i < xs.length <;> simp [hi, List.getD]
  · simp [h]

/-- An update of one lane's record, as the statements write it. -/
theorem modLane_eq_set (s : State) (l : Nat) (f : Lane → Lane) :
    s.modLane l f = { s with lanes := s.lanes.set l (f (s.lane l)) } := by
  rw [State.modLane, modify_eq_set s.lanes l f Lane.fresh]
  rfl

namespace State.LaneBecomes

theorem refl (s : State) (l : Nat) : s.LaneBecomes s l (s.lane l) := by
  refine ⟨Within.refl _ s, ?_, id, fun _ => (followsLane_still _ l Iff.rfl).symm⟩
  simpa [State.lane] using (modify_eq_set s.lanes l id Lane.fresh)

/-- The lane's record reads back. -/
theorem lane (h : s.LaneBecomes t l m) (shaped : s.Shaped) (hl : l < 17) : t.lane l = m := by
  have : l < s.lanes.length := shaped.2.1 ▸ hl
  simp [State.lane, h.lanes, List.getD, this]

/-- A change of the record that leaves its parked state. -/
theorem modLane (h : s.LaneBecomes t l m) {f : Lane → Lane} (still : (f m).parkedState = m.parkedState) :
    s.LaneBecomes (t.modLane l f) l (f m) := by
  refine ⟨h.within.trans ((modLane_within t l f).mono (by decide)), ?_,
    fun ordered => (Calm.modLane t l f).leads (r := false) (B := anyBind) |>.ordered (h.ordered ordered),
    fun ordered => by rw [still]; exact h.carriages ordered⟩
  rw [State.modLane_lanes, h.lanes]
  apply List.ext_getElem?
  intro j
  by_cases hj : l = j
  · subst hj
    by_cases hi : l < s.lanes.length <;> simp [hi]
  · simp [hj]

theorem startTimer (h : s.LaneBecomes t l m) (ms : Nat) :
    t.startTimer ms = some { start := s.clock, span := 1000 * ms } := by
  rw [startTimer_eq, show t.clock = s.clock from h.within .clock (by decide)]

theorem startLock (h : s.LaneBecomes t l m) : s.LaneBecomes (startLock t l) l
    { m with lockTimer := some { start := s.clock, span := 1000 * s.survey.lockTimeout } } := by
  have timer := h.startTimer s.survey.lockTimeout
  rw [← show t.survey = s.survey from (h.within .settings (by decide)).2] at timer ⊢
  rw [← timer]
  exact h.modLane rfl

theorem stopLock (h : s.LaneBecomes t l m) : s.LaneBecomes (stopLock t l) l { m with lockTimer := none } :=
  h.modLane rfl

theorem stopSilence (h : s.LaneBecomes t l m) : s.LaneBecomes (stopSilence t l) l { m with silenceTimer := none } :=
  h.modLane rfl

/-- The TUNE of a parked lane bears its entry's tuning word (R33). -/
theorem retune (h : s.LaneBecomes t l m) (shaped : s.Shaped) (hl : l < 17) {e : Nat} {word : BitVec 64}
    (entry : m.entry = some e) (tuned : (s.entry e).tuningWord = some word) : s.LaneBecomes (retune t l) l
      { m with
        pendingOrder := some { kind := .tune, tag := m.tagCounter, word := word }
        tagCounter := tagAfter m.tagCounter, currentTag := some m.tagCounter, acknowledged := false } := by
  have wordOf : t.tuningWordOf e = word := by
    rw [State.tuningWordOf, State.entry, show t.entries = s.entries from h.within .entries (by decide)]
    exact congrArg (·.getD 0) tuned
  rw [← Lane.tuned_eq, Machine.retune, h.lane shaped hl, entry, Option.getD_some, sendTune, wordOf]
  exact h.modLane rfl

/-- A move of a lane whose parked state has not changed so far. -/
theorem move (h : s.LaneBecomes t l m) (shaped : s.Shaped) (hl : l < 17)
    (still : m.parkedState = (s.lane l).parkedState) (new : ParkedState) :
    s.LaneBecomes (moveParked t l new) l (m.entering new) := by
  refine ⟨h.within.trans (moveParked_within t l new), ?_,
    fun ordered => (moveParked_leads (r := false) (B := anyBind) t l new).ordered (h.ordered ordered), fun ordered => ?_⟩
  · rw [moveParked_lanes, modify_eq_set _ _ _ Lane.fresh, ← State.lane, h.lane shaped hl, h.lanes, List.set_set]
  · rw [moveParked_carriages (h.ordered ordered), h.lane shaped hl, h.carriages ordered, still,
      followsLane_still _ l Iff.rfl, Lane.entering_parkedState]

theorem lockSeen (h : s.LaneBecomes t l m) (shaped : s.Shaped) (hl : l < 17)
    (still : m.parkedState = (s.lane l).parkedState) :
    s.LaneBecomes (lockSeen t l) l { m with parkedState := some .locked, lockTimer := none } := by
  have moved := h.move shaped hl still .locked
  rw [Lane.entering_plain m (.inr rfl)] at moved
  exact moved.stopLock

theorem lockMissing (h : s.LaneBecomes t l m) (shaped : s.Shaped) (hl : l < 17)
    (still : m.parkedState = (s.lane l).parkedState) : s.LaneBecomes (lockMissing t l) l
      { m with
        parkedState := some .unlocked
        lockTimer := if (s.lane l).parkedState = some .locked ∨ (s.lane l).parkedState = some .silent then
          some { start := s.clock, span := 1000 * s.survey.lockTimeout } else m.lockTimer
        laneFlag := m.laneFlag || decide ((s.lane l).parkedState ≠ some .unlocked)
        flagCauses := { m.flagCauses with
          unlocked := m.flagCauses.unlocked || decide ((s.lane l).parkedState ≠ some .unlocked) } } := by
  have moved := h.move shaped hl still .unlocked
  rw [Lane.entering_unlocked, still] at moved
  unfold Machine.lockMissing
  rw [h.lane shaped hl, still]
  split
  · rename_i locked
    rw [if_pos (.inl locked)]
    exact moved.startLock
  · rename_i silent
    rw [if_pos (.inr silent)]
    exact moved.startLock
  · rename_i notLocked notSilent
    rw [if_neg (not_or.2 ⟨notLocked, notSilent⟩)]
    exact moved

theorem staleSeen (h : s.LaneBecomes t l m) (shaped : s.Shaped) (hl : l < 17)
    (still : m.parkedState = (s.lane l).parkedState) : s.LaneBecomes (staleSeen t l) l
      { m with
        parkedState := if (s.lane l).parkedState = some .silent then some .await else (s.lane l).parkedState
        lockTimer := if (s.lane l).parkedState = some .silent then
          some { start := s.clock, span := 1000 * s.survey.lockTimeout } else m.lockTimer } := by
  have moved := h.move shaped hl still .await
  rw [Lane.entering_plain m (.inl rfl)] at moved
  unfold Machine.staleSeen
  rw [h.lane shaped hl, still]
  split
  · rename_i silent
    rw [if_pos silent, if_pos silent]
    exact moved.startLock
  · rename_i notSilent
    rw [if_neg notSilent, if_neg notSilent, ← still]
    exact h

/-- A silence expiry on a parked lane (R38). -/
theorem parkedSilence (h : s.LaneBecomes t l m) (shaped : s.Shaped) (hl : l < 17)
    (still : m.parkedState = (s.lane l).parkedState) : s.LaneBecomes (parkedSilence t l) l
      { m with
        parkedState := some .silent, lockTimer := none
        laneFlag := m.laneFlag || decide ((s.lane l).parkedState ≠ some .silent)
        flagCauses := { m.flagCauses with
          silent := m.flagCauses.silent || decide ((s.lane l).parkedState ≠ some .silent) } } := by
  have moved := h.move shaped hl still .silent
  rw [Lane.entering_silent, still] at moved
  exact moved.stopLock

/-- A front-end restart on a parked lane (R35, R52). -/
theorem parkedRestart (h : s.LaneBecomes t l m) (shaped : s.Shaped) (hl : l < 17)
    (still : m.parkedState = (s.lane l).parkedState) {e : Nat} {word : BitVec 64} (entry : m.entry = some e)
    (tuned : (s.entry e).tuningWord = some word) : s.LaneBecomes (parkedRestart t l) l
      { m with
        parkedState := some .await
        lockTimer := some { start := s.clock, span := 1000 * s.survey.lockTimeout }
        pendingOrder := some { kind := .tune, tag := m.tagCounter, word := word }
        tagCounter := tagAfter m.tagCounter, currentTag := some m.tagCounter, acknowledged := false
        asm := m.asm.cleared true } := by
  have moved := (h.retune shaped hl entry tuned).move shaped hl still .await
  rw [Lane.entering_plain _ (.inl rfl)] at moved
  exact moved.startLock.modLane rfl

/-- The close of an event that ends no visit. -/
theorem close (h : s.LaneBecomes t l m) (ordered : s.CatalogueOrdered) :
    (closeEvent s (t, [])).lanes = s.lanes.set l m ∧ (closeEvent s (t, [])).entries = s.entries ∧
      (closeEvent s (t, [])).bindings = s.bindings ∧ (closeEvent s (t, [])).carriages =
        s.carriages.map fun x => (x.1, x.2.followsLane l (s.lane l).parkedState m.parkedState) := by
  have closed := closeEvent_within s t
  exact ⟨(closed .lanes (by decide)).trans h.lanes,
    (closed .entries (by decide)).trans (h.within .entries (by decide)),
    (closed .bindings (by decide)).trans (h.within .bindings (by decide)),
    (closed .carriages (by decide)).trans (h.carriages ordered)⟩

end State.LaneBecomes

end

end Sys2Proof.Machine
end

section
namespace Sys2Proof.Machine

open Sys2Proof Host

/-! ## Return paths and lane timers (R33, R37, R38) -/

section

variable {s : State} {l : Nat}

theorem exec_orderCellSend (hl : l ≤ 16) (awake : s.resetHeld = false) :
    exec (.orderCellSend l) s = .next (if l < 16 then sendReturnCell s l else s) := by
  have exists_ : ¬ Config.houseLane < l := by simpa [Config.houseLane] using hl
  show execOrderCellSend l s = _
  rw [execOrderCellSend, if_neg exists_]
  have feed : isFeed l = decide (l < 16) := rfl
  simp only [feed, awake, decide_eq_true_eq, Bool.not_false, Bool.and_true]

theorem sendReturnCell_eq (s : State) (l : Nat) : sendReturnCell s l =
    { s with
      freeCount := s.freeCount + 1
      lanes := s.lanes.set l { s.lane l with
        returnOut := some (cellToBytes (returnPathCell (s.lane l) (Config.returnHeader s.freeCount)))
        pendingOrder := none } } := by
  rw [sendReturnCell, modLane_eq_set]

theorem returnPathCell_order {n : Lane} {o : Order} (waits : n.pendingOrder = some o) (free : BitVec 43) :
    returnPathCell n free = returnCell 4093 (orderPayload o) free := by
  simp [returnPathCell, waits, Config.orderFlow]

theorem returnPathCell_void {n : Lane} (idle : n.pendingOrder = none) (free : BitVec 43) :
    returnPathCell n free = returnCell 4095 [] free := by
  simp [returnPathCell, idle, Config.voidFlow]

theorem orderPayload_eq (o : Order) : orderPayload o =
    bytesOf 1 (if o.kind = .tune then 1 else 2) ++ bytesOf 1 o.tag ++
      bytesOf 8 (if o.kind = .tune then o.word.toNat else 0) := by
  cases kind : o.kind <;> simp [orderPayload, kind]

theorem exec_lockTimeout (hl : l ≤ 16) (s : State) : exec (.lockTimeout l) s =
    .next (event s (s.lockDue l) fun s => (lockExpired s l, [])) := by
  have exists_ : ¬ Config.houseLane < l := by simpa [Config.houseLane] using hl
  exact if_neg exists_

theorem lockDue_iff (s : State) (l : Nat) : s.lockDue l = true ↔
    (s.lane l).mode = .parked ∧ ((s.lane l).parkedState = some .await ∨ (s.lane l).parkedState = some .unlocked) ∧
      ∃ r, (s.lane l).lockTimer = some r ∧ r.span ≤ (s.clock - r.start).toNat := by
  simp only [State.lockDue, Bool.and_eq_true, Bool.or_eq_true, decide_eq_true_eq, timerDue_iff, and_assoc]

/-- The lock timer's expiry in AWAIT or UNLOCKED changes the lane's record alone (R37). -/
theorem lockExpired_eq {e : Nat} {word : BitVec 64}
    (waits : (s.lane l).parkedState = some .await ∨ (s.lane l).parkedState = some .unlocked)
    (entry : (s.lane l).entry = some e) (tuned : (s.entry e).tuningWord = some word) : lockExpired s l =
      { s with lanes := s.lanes.set l { s.lane l with
          pendingOrder := some { kind := .tune, tag := (s.lane l).tagCounter, word := word }
          tagCounter := tagAfter (s.lane l).tagCounter, currentTag := some (s.lane l).tagCounter, acknowledged := false
          parkedState := some .await
          counters := { (s.lane l).counters with
            resends := saturate Config.counter32 ((s.lane l).counters.resends + 1) }
          lockTimer := some { start := s.clock, span := 1000 * s.survey.lockTimeout } } } := by
  have wordOf : s.tuningWordOf e = word := congrArg (·.getD 0) tuned
  have sent : retune s l = s.modLane l fun n => n.tuned word := by
    rw [retune, entry, Option.getD_some, sendTune, wordOf]
  have kept : ((retune s l).lane l).parkedState = (s.lane l).parkedState := by
    rw [sent]
    exact lane_modLane_keeps (fun n => n.parkedState) (by intro; rfl) l
  have unlocked : ((retune s l).lane l).parkedState ≠ some .locked := by
    rw [kept]
    rcases waits with h | h <;> rw [h] <;> nofun
  rw [lockExpired, moveParked_still unlocked (by nofun), sent]
  simp only [startLock, State.modCounters, State.modLane_modLane, startTimer_eq, Lane.tuned_eq,
    Lane.entering_plain _ (.inl rfl)]
  rw [modLane_eq_set]
  rfl

theorem exec_silenceExpiry (hl : l ≤ 16) (s : State) : exec (.silenceExpiry l) s =
    .next (event s (s.silenceDue l) fun s => silenceExpired s l) := by
  have exists_ : ¬ Config.houseLane < l := by simpa [Config.houseLane] using hl
  exact if_neg exists_

theorem silenceDue_iff (s : State) (l : Nat) : s.silenceDue l = true ↔
    ∃ r, (s.lane l).silenceTimer = some r ∧ r.span ≤ (s.clock - r.start).toNat := timerDue_iff ..

theorem silenceExpired_parked (parked : (s.lane l).mode = .parked) :
    silenceExpired s l = (parkedSilence (stopSilence s l) l, []) := by simp [silenceExpired, parked]

/-- A silence expiry that ends no visit stops the timer alone (R38, R75). -/
theorem silenceExpired_plain (mode : (s.lane l).mode ≠ .parked) (keeps : (s.lane l).losesLock = false) :
    silenceExpired s l = (stopSilence s l, []) := by
  unfold silenceExpired
  dsimp only
  split
  · contradiction
  · rw [if_neg (by simp [keeps])]
  · rfl

theorem losesLock_eq_false {n : Lane} (settling : n.visitState ≠ some .settling)
    (dwelling : n.visitState ≠ some .dwelling) : n.losesLock = false := by
  simp [Lane.losesLock, settling, dwelling]

end

end Sys2Proof.Machine

open Sys2Proof Sys2Proof.Machine Host

/-- Settles O54: the return path and the timers each by the record they leave. -/
theorem ordersAndLaneTimersAct : Obligations.OrdersAndLaneTimersAct := by
  intro s l awake settled shaped hl n due
  have small : l < 17 := by omega
  rw [exec_orderCellSend hl awake, exec_lockTimeout hl, exec_silenceExpiry hl]
  refine ⟨fun house => by rw [if_neg (by omega)], fun feed => ?_, fun e word parked waits expired entry tuned => ?_,
    fun early => ?_, fun silent parked ordered => ?_, fun silent mode settling dwelling => ?_, fun early => ?_⟩
  · refine ⟨returnPathCell n (Config.returnHeader s.freeCount), ?_, fun o waits => ?_, fun idle => ?_⟩
    · rw [if_pos feed, sendReturnCell_eq]
    · rw [returnPathCell_order waits]
      exact ⟨rfl, orderPayload_eq o⟩
    · rw [returnPathCell_void idle]
      rfl
  · rw [event_on _ ((lockDue_iff s l).2 ⟨parked, waits, expired⟩) awake, lockExpired_eq waits entry tuned]
    exact congrArg Outcome.next (closeEvent_settled settled rfl)
  · rw [event_off _ (.inl (Bool.eq_false_iff.2 fun h => early ((lockDue_iff s l).1 h).2.2))]
  · have becomes := (State.LaneBecomes.refl s l).stopSilence.parkedSilence shaped small rfl
    obtain ⟨lanes, -, -, carriages⟩ := becomes.close ordered
    rw [event_on _ ((silenceDue_iff s l).2 silent) awake, silenceExpired_parked parked]
    exact ⟨_, rfl, lanes, carriages.trans (List.map_congr_left fun x _ => followsLane_silent x l _)⟩
  · rw [event_on _ ((silenceDue_iff s l).2 silent) awake,
      silenceExpired_plain mode (losesLock_eq_false settling dwelling), stopSilence, modLane_eq_set]
    exact congrArg Outcome.next (closeEvent_settled settled rfl)
  · rw [event_off _ (.inl (Bool.eq_false_iff.2 fun h => early ((silenceDue_iff s l).1 h)))]

end

section
namespace Sys2Proof.Machine

open Sys2Proof Host

/-! ## Status cells on a parked lane (R34 to R36, R39) -/

section

variable {s t : State} {l : Nat} {m : Lane}

theorem Lane.statusKind_restart {n : Lane} {tag : Nat} (restart : tag = 0 ∧ n.acknowledged = true) :
    n.statusKind tag = .frontEndRestart := if_pos restart

theorem Lane.statusKind_current {n : Lane} {tag : Nat} (plain : ¬ (tag = 0 ∧ n.acknowledged = true))
    (current : n.currentTag = some tag) : n.statusKind tag = .current := (if_neg plain).trans (if_pos current)

theorem Lane.statusKind_stale {n : Lane} {tag : Nat} (plain : ¬ (tag = 0 ∧ n.acknowledged = true))
    (other : n.currentTag ≠ some tag) : n.statusKind tag = .stale := (if_neg plain).trans (if_neg other)

theorem startSilence_timer (s : State) (interval : Nat) :
    s.startTimer (3 * interval) = some { start := s.clock, span := 3000 * interval } := by
  rw [startTimer_eq]
  congr 2
  omega

/-- A lane's record after the first steps of R34, an E-marked status cell having no more (log 17). -/
def Lane.statusSeen (n : Lane) (now : Clock) : Lane :=
  { n with
    lastStatusTime := some now, windowStatusCount := min (n.windowStatusCount + 1) 65535
    silenceTimer := some { start := now, span := 3000 * n.statusInterval }
    counters := { n.counters with status := min (n.counters.status + 1) 4294967295 } }

theorem errorStatus_eq (s : State) (l : Nat) : errorStatus s l = s.modLane l fun n => n.statusSeen s.clock := by
  rw [errorStatus, startSilence, State.modLane_modLane]
  simp only [startSilence_timer]
  rfl

/-- A lane's record after the steps of R34 that every unmarked status cell takes. -/
def Lane.statusTaken (n : Lane) (now : Clock) (r : StatusReport) : Lane :=
  { n.statusSeen now with
    latestLevel := some r.level, uncorrectedSeen := n.uncorrectedSeen || decide (0 < r.uncorrected)
    counters := { (n.statusSeen now).counters with
      uncorrected := min (n.counters.uncorrected + r.uncorrected) 4294967295 } }

theorem countStatus_eq (s : State) (l : Nat) (r : StatusReport) :
    countStatus s l r = s.modLane l fun n => n.statusTaken s.clock r := by
  rw [countStatus, startSilence, State.modLane_modLane]
  simp only [startSilence_timer]
  rfl

namespace State.LaneBecomes

theorem received (s : State) (l : Nat) : s.LaneBecomes (received s l) l (s.lane l).receiving :=
  (refl s l).modLane rfl

theorem countStatus (h : s.LaneBecomes t l m) (r : StatusReport) :
    s.LaneBecomes (countStatus t l r) l (m.statusTaken s.clock r) := by
  rw [countStatus_eq, show t.clock = s.clock from h.within .clock (by decide)]
  exact h.modLane rfl

theorem takeMargin (h : s.LaneBecomes t l m) (r : StatusReport) : s.LaneBecomes (takeMargin t l r) l
    { m with acknowledged := true, latestMargin := some r.margin, windowMargin := some r.margin } := h.modLane rfl

theorem countStale (h : s.LaneBecomes t l m) : s.LaneBecomes (countStale t l) l
    { m with counters := { m.counters with stale := min (m.counters.stale + 1) 4294967295 } } := h.modLane rfl

theorem restartSeen (h : s.LaneBecomes t l m) : s.LaneBecomes (restartSeen t l) l
    { m with
      counters := LaneCounters.zero, laneFlag := true, flagCauses := { m.flagCauses with restart := true } } :=
  h.modLane rfl

end State.LaneBecomes

/-! ### The three ways a tag is taken (R34) -/

theorem parkedStatus_restart {r : StatusReport} (kind : (s.lane l).statusKind r.tag = .frontEndRestart) :
    parkedStatus s l r = parkedRestart (restartSeen (countStatus s l r) l) l := by
  rw [parkedStatus, kind]

theorem parkedStatus_current {r : StatusReport} (kind : (s.lane l).statusKind r.tag = .current) :
    parkedStatus s l r = if r.lock = 2 then lockSeen (takeMargin (countStatus s l r) l r) l
      else lockMissing (takeMargin (countStatus s l r) l r) l := by
  rw [parkedStatus, kind]

theorem parkedStatus_stale {r : StatusReport} (kind : (s.lane l).statusKind r.tag = .stale) :
    parkedStatus s l r = staleSeen (countStale (countStatus s l r) l) l := by
  rw [parkedStatus, kind]

/-- A status cell on a parked feed lane. -/
theorem arriveCell_parkedStatus {bs : List Byte} (sound : headerPasses bs = true) (feed : l < 16)
    (flow : (readCell bs).flow = 4094) (parked : (s.lane l).mode = .parked) :
    arriveCell s l bs = if (readCell bs).e = true then (errorStatus (received s l) l, [])
      else (parkedStatus (received s l) l (readStatus (readCell bs).payload), []) := by
  have mode : ((received s l).lane l).mode = .parked := (received_lane (fun n => n.mode) fun _ => rfl).trans parked
  rw [arriveCell_sound sound, checkedCell_dispatches (.inl mode), dispatchCell_status flow feed, statusCell, mode,
    if_neg (show ¬ LaneMode.parked = .roving by nofun)]

end

end Sys2Proof.Machine

open Sys2Proof Sys2Proof.Machine Host

/-- Settles O47: each case is the chain of the record's changes, and the lane-down flags follow from the states before
and after it. -/
theorem parkedLanesFollowStatusCells : Obligations.ParkedLanesFollowStatusCells := by
  intro s l e word bs awake settled shaped ordered feed size sound flow parked entry tuned n r lock base m p restart
    becomes
  have small : l < 17 := by omega
  have kindOf : ((received s l).lane l).statusKind r.tag = n.statusKind r.tag :=
    received_lane (fun n => n.statusKind r.tag) fun _ => rfl
  have arrives := arriveCell_parkedStatus sound feed flow parked
  have counted : s.LaneBecomes (countStatus (received s l) l r) l m := (State.LaneBecomes.received s l).countStatus r
  have margins : s.LaneBecomes (takeMargin (countStatus (received s l) l r) l r) l p := counted.takeMargin r
  have reaches : (readCell bs).e = false → ∀ n', s.LaneBecomes (parkedStatus (received s l) l r) l n' → becomes n' := by
    intro unmarked n' h
    obtain ⟨lanes, entries, bindings, carriages⟩ := h.close ordered
    rw [unmarked, if_neg (by nofun)] at arrives
    refine ⟨_, (exec_cellArrival (by omega) size awake).trans (by rw [arrives]), lanes, entries, bindings, ?_⟩
    exact carriages.trans (List.map_congr_left fun x _ => followsLane_eq x l _ _)
  refine ⟨fun marked => ?_, fun unmarked => ⟨fun restarts => reaches unmarked _ ?_,
    fun plain current locked => reaches unmarked _ ?_, fun plain current missing => reaches unmarked _ ?_,
    fun plain other => reaches unmarked _ ?_⟩⟩
  · rw [if_pos marked, errorStatus_eq] at arrives
    rw [cellArrival_modLane (by omega) size awake settled arrives, modify_eq_set _ _ _ Lane.fresh]
    rfl
  · rw [parkedStatus_restart (kindOf.trans (Lane.statusKind_restart restarts))]
    exact counted.restartSeen.parkedRestart shaped small rfl entry tuned
  · rw [parkedStatus_current (kindOf.trans (Lane.statusKind_current plain current)), if_pos locked]
    exact margins.lockSeen shaped small rfl
  · rw [parkedStatus_current (kindOf.trans (Lane.statusKind_current plain current)), if_neg missing]
    exact margins.lockMissing shaped small rfl
  · rw [parkedStatus_stale (kindOf.trans (Lane.statusKind_stale plain other))]
    exact counted.countStale.staleSeen shaped small rfl

end

section
namespace Sys2Proof.Machine

open Sys2Proof Host

/-! ## Bound cells (R30 to R32) -/

section

variable {s : State} {name : BindingName}

theorem checkRun_duplicate {expected : Option Run} {run : Run} (next : expected = some (run + 1)) :
    checkRun expected run false = .duplicate := by simp [checkRun, next]

/-- The gap of an accepted cell (R30). -/
def runGap (expected : Option Run) (run : Run) (d : Bool) : Nat :=
  match expected with
  | none => 0
  | some x => if d then 0 else (run - x).toNat

theorem checkRun_accepted {expected : Option Run} {run : Run} {d : Bool}
    (fresh : d = true ∨ expected ≠ some (run + 1)) : checkRun expected run d = .accepted (runGap expected run d) := by
  cases expected with
  | none => rfl
  | some x =>
    have new : d = true ∨ ¬ run = x - 1 := fresh.imp_right fun differs same => differs (by simp [same])
    rcases new with rfl | new
    · rfl
    · cases d with
      | false => exact if_neg new
      | true => rfl

/-- The deviation that an accepted cell gives a binding, if it gives one (R32). -/
def Binding.deviationOf (y : Binding) (c : Cell) (now : Clock) : Option Nat :=
  match y.pairing with
  | none => none
  | some p =>
    let ds := (c.stamp - p.stamp).toNat
    let dc := (now - p.arrival).toNat
    if c.t = false ∨ c.d = true ∨ 1000000 < dc then none
    else if 2 ^ 31 ≤ ds ∨ 2 ^ 31 ≤ dc then some 65535
    else some (min 65535 (max ds dc - min ds dc))

theorem deviationOf_untimed {y : Binding} {c : Cell} (now : Clock) (untimed : c.t = false) :
    y.deviationOf c now = none := by
  unfold Binding.deviationOf
  split
  · rfl
  · exact if_pos (.inl untimed)

theorem deviationOf_timed {y : Binding} {c : Cell} (now : Clock) (timed : c.t = true) : y.deviationOf c now =
    if c.d then none else y.pairing.bind fun p => deviation p c.stamp now := by
  have distance : ∀ a b : Nat, max a b - min a b = ((a : Int) - (b : Int)).natAbs := by omega
  cases pairing : y.pairing with
  | none => simp [Binding.deviationOf, pairing]
  | some p => cases marked : c.d <;> simp [Binding.deviationOf, deviation, pairing, timed, marked, distance]

theorem deviated_eq (y : Binding) (dev : Option Nat) : y.deviated dev =
    { y with peakJ := max y.peakJ (dev.getD 0), deviationSeen := y.deviationSeen || dev.isSome } := by
  cases dev <;> simp [Binding.deviated]

/-- A binding after an accepted cell, as the statements write it. -/
theorem accepting_eq (y : Binding) (c : Cell) (gap : Nat) (now : Clock) : y.accepting c gap now =
    { y with
      n := min (y.n + 1) 16777215
      g := min (y.g + gap) 16777215
      x := if c.e then min (y.x + 1) 16777215 else y.x
      expectedRun := some (c.run + 1)
      lastCellTime := now
      pairing := if c.t then some { stamp := c.stamp, arrival := now } else y.pairing
      peakJ := max y.peakJ ((y.deviationOf c now).getD 0)
      deviationSeen := y.deviationSeen || (y.deviationOf c now).isSome } := by
  unfold Binding.accepting Binding.paired
  cases timed : c.t with
  | false =>
    rw [deviationOf_untimed now timed]
    simp [saturate, Config.counter24]
  | true =>
    rw [deviationOf_timed now timed]
    simp [deviated_eq, saturate, Config.counter24]

/-! ### Stalls that end (R40) -/

/-- A cell was accepted on the binding of a carriage's primary component: its stall ends and its mark is set. -/
def Carriage.hears (x : Carriage) (name : BindingName) : Carriage :=
  if x.primaryUses name then { x with stalled := false, heard := true } else x

/-- The mark alone (log 39). -/
def Carriage.heardOn (x : Carriage) (name : BindingName) : Carriage :=
  if x.primaryUses name then { x with heard := true } else x

@[simp] theorem Carriage.heardOn_service (x : Carriage) (name : BindingName) : (x.heardOn name).service = x.service := by
  unfold Carriage.heardOn
  split <;> rfl

@[simp] theorem Carriage.heardOn_stalled (x : Carriage) (name : BindingName) : (x.heardOn name).stalled = x.stalled := by
  unfold Carriage.heardOn
  split <;> rfl

@[simp] theorem Carriage.heardOn_primaryUses (x : Carriage) (name : BindingName) :
    (x.heardOn name).primaryUses name = x.primaryUses name := by
  unfold Carriage.heardOn
  split <;> rfl

/-- Ending the stall of a marked carriage, where it has one. -/
theorem Carriage.heardOn_unstalled (x : Carriage) (name : BindingName) :
    (if x.stalled && x.primaryUses name then { x.heardOn name with stalled := false } else x.heardOn name) =
      x.hears name := by
  by_cases uses : x.primaryUses name = true
  · simp only [Carriage.hears, Carriage.heardOn, uses, Bool.and_true, if_true]
    cases stalled : x.stalled with
    | true => rfl
    | false => rw [if_neg (by nofun), ← stalled]
  · simp [Carriage.hears, Carriage.heardOn, uses]

theorem markHeard_ordered (ordered : s.CatalogueOrdered) (name : BindingName) : (markHeard s name).CatalogueOrdered :=
  (markHeard_leads (r := false) (B := anyBind) s name).ordered ordered

theorem markHeard_carriages (s : State) (name : BindingName) :
    (markHeard s name).carriages = s.carriages.map fun x => (x.1, x.2.heardOn name) := by
  refine List.map_congr_left fun x _ => ?_
  unfold Carriage.heardOn
  split <;> rfl

theorem clearStall_ordered (s : State) (c : Nat) (ordered : s.CatalogueOrdered) : (clearStall s c).CatalogueOrdered :=
  (clearStall_leads (r := false) (B := anyBind) s c).ordered ordered

theorem clearStall_map (s : State) (c : Nat) : (clearStall s c).carriages =
    s.carriages.map fun x => (x.1, if x.1 = c then { x.2 with stalled := false } else x.2) := by
  unfold clearStall
  split
  · rename_i gone
    refine (List.map_congr_left fun x hx => ?_).trans (List.map_id _) |>.symm
    rw [if_neg (tableGet_eq_none.1 gone x hx), id]
  · exact tableModify_eq_map s.carriages c fun y => { y with stalled := false }

/-- What the end of a carriage's stall hands on. -/
def State.unstallHands (s : State) (c : Nat) : Option Handed :=
  (s.carriage c).map fun x => { key := x.service, scored := none }

theorem clearStall_handed (s : State) (c : Nat) : (clearStall s c).handed = s.handed ++ (s.unstallHands c).toList := by
  cases found : s.carriage c <;> simp [clearStall, State.unstallHands, found, State.hand]

theorem clearStall_unstallHands (s : State) (c d : Nat) : (clearStall s c).unstallHands d = s.unstallHands d := by
  cases found : s.carriage c with
  | none => simp [clearStall, found]
  | some x =>
    have carriage : (clearStall s c).carriage d = (s.modCarriage c fun y => { y with stalled := false }).carriage d := by
      rw [clearStall, found]
      rfl
    rw [State.unstallHands, carriage]
    by_cases same : c = d
    · subst same
      rw [State.carriage_modCarriage, State.unstallHands, Option.map_map]
      rfl
    · rw [State.carriage_modCarriage_other _ _ _ _ same]
      rfl

theorem foldl_clearStall_handed (cs : List Nat) (s : State) :
    (cs.foldl clearStall s).handed = s.handed ++ cs.filterMap s.unstallHands := by
  induction cs generalizing s with
  | nil => simp
  | cons c cs ih =>
    rw [List.foldl_cons, ih, clearStall_handed, funext (clearStall_unstallHands s c), List.append_assoc,
      List.filterMap_cons]
    cases s.unstallHands c <;> rfl

theorem clearStall_eq (s : State) (c : Nat) : clearStall s c =
    { s with carriages := (clearStall s c).carriages, handed := (clearStall s c).handed } := by
  unfold clearStall
  split <;> rfl

theorem foldl_clearStall_eq (cs : List Nat) (s : State) : cs.foldl clearStall s =
    { s with carriages := (cs.foldl clearStall s).carriages, handed := (cs.foldl clearStall s).handed } := by
  induction cs generalizing s with
  | nil => rfl
  | cons c cs ih =>
    rw [List.foldl_cons]
    generalize hu : clearStall s c = u
    have one := clearStall_eq s c
    rw [hu] at one
    refine (ih u).trans ?_
    generalize (cs.foldl clearStall u).carriages = cars
    generalize (cs.foldl clearStall u).handed = hs
    rw [one]

theorem clearStalls_carriages (ordered : s.CatalogueOrdered) (name : BindingName) :
    (clearStalls s name).carriages = s.carriages.map fun x =>
      (x.1, if x.2.stalled && x.2.primaryUses name then { x.2 with stalled := false } else x.2) :=
  foldlWhere_map_own (I := fun _ => True) (F := fun x => { x with stalled := false }) (fun w c => clearStall_ordered w c)
    (fun w c _ _ => clearStall_map w c) (fun _ _ _ => trivial) ordered trivial _

theorem clearStalls_handed (ordered : s.CatalogueOrdered) (name : BindingName) :
    (clearStalls s name).handed =
      s.handed ++ (s.carriages.filter fun x => x.2.stalled && x.2.primaryUses name).map fun x =>
        { key := x.2.service, scored := none } := by
  have hands : ∀ x ∈ s.carriages, (s.unstallHands ∘ Prod.fst) x = some { key := x.2.service, scored := none } :=
    fun x hx => by
      rw [Function.comp_apply, State.unstallHands, ordered.carriage_of_mem hx]
      rfl
  rw [clearStalls, foldl_clearStall_handed, State.carriagesWhere, List.filterMap_map,
    List.filterMap_congr fun x hx => hands x (List.mem_of_mem_filter hx), ← List.filterMap_eq_map]
  rfl

/-- The marks and stalls of the carriages that an accepted cell reaches, and what it hands on (R40, log 39). -/
theorem clearStalls_markHeard (ordered : s.CatalogueOrdered) (name : BindingName) :
    clearStalls (markHeard s name) name =
      { s with
        carriages := s.carriages.map fun x => (x.1, x.2.hears name)
        handed := s.handed ++ (s.carriages.filter fun x => x.2.primaryUses name && x.2.stalled).map fun x =>
          { key := x.2.service, scored := none } } := by
  have marked := markHeard_ordered ordered name
  have carriages : (clearStalls (markHeard s name) name).carriages =
      s.carriages.map fun x => (x.1, x.2.hears name) := by
    rw [clearStalls_carriages marked, markHeard_carriages, List.map_map]
    refine List.map_congr_left fun x _ => congrArg (Prod.mk x.1) ?_
    simpa using x.2.heardOn_unstalled name
  have handed : (clearStalls (markHeard s name) name).handed = s.handed ++
      (s.carriages.filter fun x => x.2.primaryUses name && x.2.stalled).map fun x =>
        { key := x.2.service, scored := none } := by
    rw [clearStalls_handed marked, markHeard_carriages, List.filter_map, List.map_map]
    simp [Function.comp_def, Bool.and_comm, markHeard]
  have rest : clearStalls (markHeard s name) name = { markHeard s name with
      carriages := (clearStalls (markHeard s name) name).carriages
      handed := (clearStalls (markHeard s name) name).handed } := foldl_clearStall_eq ..
  rw [rest, carriages, handed]
  rfl

/-! ### What a bound cell leaves -/

/-- The statements' form of what an accepted cell makes of a carriage. -/
theorem hears_eq (x : Nat × Carriage) (name : BindingName) : (x.1, x.2.hears name) =
    if x.2.primaryUses name = true then (x.1, { x.2 with stalled := false, heard := true }) else x := by
  unfold Carriage.hears
  split <;> rfl

/-- Neither the slots nor the end of the act touch what an accepted cell has changed. -/
theorem closeEvent_forwardCell (s u : State) (name : BindingName) (c : Cell) :
    (closeEvent s (forwardCell u name c, [])).lanes = u.lanes ∧
      (closeEvent s (forwardCell u name c, [])).bindings = u.bindings ∧
      (closeEvent s (forwardCell u name c, [])).carriages = u.carriages := by
  have forwarded := forwardCell_within u name c
  have closed := closeEvent_within s (forwardCell u name c)
  exact ⟨(closed .lanes (by decide)).trans (forwarded .lanes (by decide)),
    (closed .bindings (by decide)).trans (forwarded .bindings (by decide)),
    (closed .carriages (by decide)).trans (forwarded .carriages (by decide))⟩

theorem boundCell_duplicate {b : Binding} {c : Cell} (repeats : checkRun b.expectedRun c.run c.d = .duplicate) :
    boundCell s b c =
      (s.modBinding b.name fun y => { y with duplicates := saturate Config.counter24 (y.duplicates + 1) }).modCounters
        b.name.lane fun n => { n with duplicate := saturate Config.counter32 (n.duplicate + 1) } := by
  rw [boundCell, repeats]

/-- An accepted cell is taken into the binding and the carriages before the slots have it (R30 to R32, R40, log 12). -/
theorem boundCell_accepted (ordered : s.CatalogueOrdered) {b : Binding} {c : Cell} {gap : Nat}
    (accepts : checkRun b.expectedRun c.run c.d = .accepted gap) : boundCell s b c =
      forwardCell
        { s with
          bindings := s.bindings.map fun y => if y.name = b.name then y.accepting c gap s.clock else y
          carriages := s.carriages.map fun x => (x.1, x.2.hears b.name)
          handed := s.handed ++ (s.carriages.filter fun x => x.2.primaryUses b.name && x.2.stalled).map fun x =>
            { key := x.2.service, scored := none } } b.name c := by
  have counted := (modBinding_leads (r := false) (B := anyBind) s b.name (fun y => y.accepting c gap s.clock)
    fun y => y.accepting_name c gap s.clock).ordered ordered
  rw [boundCell, accepts]
  dsimp only
  rw [clearStalls_markHeard counted]
  rfl

/-- A sound cell on the lane and flow of a binding is that binding's. -/
theorem arriveCell_bound {l : Nat} {bs : List Byte} {b : Binding} (sound : headerPasses bs = true)
    (dispatches : (s.lane l).Dispatches) (programme : (readCell bs).flow < 4032)
    (found : s.binding l (readCell bs).flow = some b) :
    arriveCell s l bs = (boundCell (received s l) b (readCell bs), []) := by
  have found' : (received s l).binding l (readCell bs).flow = some b := found
  rw [arriveCell_sound sound, checkedCell_dispatches (received_dispatches.2 dispatches), dispatchCell_programme programme,
    programmeCell, found']

end

end Sys2Proof.Machine

open Sys2Proof Sys2Proof.Machine Host

/-- Settles O46: an accepted cell is taken into its binding and its carriages, handed to the slots, and only then are the
services whose stalls it ended evaluated. -/
theorem boundCellsAreCheckedCountedAndPaired : Obligations.BoundCellsAreCheckedCountedAndPaired := by
  intro s l bs b awake settled ordered hl size sound c name lanes gap deviation bindings hears carriages programme found
    dispatches
  have named : b.name = name := by simpa using List.find?_some found
  have arrives := (exec_cellArrival hl size awake).trans
    (congrArg (fun r => Outcome.next (closeEvent s r)) (arriveCell_bound sound dispatches programme found))
  refine ⟨fun unmarked next => ?_, fun fresh => ?_⟩
  · have repeats : checkRun b.expectedRun c.run c.d = .duplicate := by rw [unmarked]; exact checkRun_duplicate next
    rw [arrives, boundCell_duplicate repeats, named]
    exact congrArg Outcome.next (closeEvent_settled settled rfl)
  · have counted : (s.bindings.map fun y =>
        if y.name = name then y.accepting c (runGap b.expectedRun c.run c.d) s.clock else y) = bindings := by
      simp only [accepting_eq]
      rfl
    have heard : (s.carriages.map fun x => (x.1, x.2.hears name)) = carriages :=
      List.map_congr_left fun x _ => hears_eq x name
    obtain ⟨u, hu⟩ : ∃ u, u = ({ s with
        lanes := lanes, bindings := bindings, carriages := carriages
        handed := (s.carriages.filter fun x => hears x.2 && x.2.stalled).map fun x =>
          { key := x.2.service, scored := none } } : State) := ⟨_, rfl⟩
    have taken : boundCell (received s l) b c = forwardCell u name c := by
      have accepted := boundCell_accepted (s := received s l) ordered (checkRun_accepted fresh)
      rw [named] at accepted
      refine accepted.trans (congrArg (forwardCell · name c) ?_)
      have nothing : s.handed = [] := settled
      rw [hu, ← counted, ← heard]
      show ({ received s l with bindings := _, carriages := _, handed := s.handed ++ _ } : State) = _
      rw [nothing]
      rfl
    rw [taken] at arrives
    refine ⟨⟨_, arrives, ?_⟩, fun running => ?_, by rw [arrives, closeEvent_quiet, hu]⟩
    · have left := closeEvent_forwardCell s u name c
      rwa [hu] at left ⊢
    · have none : (s.carriages.filter fun x => hears x.2 && x.2.stalled) = [] :=
        List.filter_eq_nil_iff.2 fun x hx both => by
          obtain ⟨uses, stalled⟩ := Bool.and_eq_true_iff.1 both
          rw [running x hx uses] at stalled
          cases stalled
      have plain : u = { s with lanes := lanes, bindings := bindings, carriages := carriages } := by
        rw [hu, none, List.map_nil, ← show s.handed = [] from settled]
      have forwarded := forwardCell_within u name c
      rw [arrives, closeEvent_settled ((forwarded .handed (by decide)).trans (plain ▸ settled))
        ((forwarded .services (by decide)).trans (plain ▸ rfl)), plain]

end

section
namespace Sys2Proof.Machine

open Sys2Proof Host

/-! ## What claims keep of outcomes and timers (R69, R71) -/

/-- What the claims of roving lanes keep: every entry's last survey outcome and time, and every lane's status interval
and silence timer. -/
structure ClaimsSpare (s t : State) : Prop where
  entries : ∀ d, (t.entry d).surveyOutcome = (s.entry d).surveyOutcome ∧ (t.entry d).surveyTime = (s.entry d).surveyTime
  lanes : ∀ j, (t.lane j).statusInterval = (s.lane j).statusInterval ∧ (t.lane j).silenceTimer = (s.lane j).silenceTimer

section

variable {s t u : State} {l e : Nat}

theorem ClaimsSpare.trans (h : ClaimsSpare s t) (g : ClaimsSpare t u) : ClaimsSpare s u :=
  ⟨fun d => ⟨(g.entries d).1.trans (h.entries d).1, (g.entries d).2.trans (h.entries d).2⟩,
    fun j => ⟨(g.lanes j).1.trans (h.lanes j).1, (g.lanes j).2.trans (h.lanes j).2⟩⟩

theorem ClaimsSpare.of_eq (entries : t.entries = s.entries) (lanes : t.lanes = s.lanes) : ClaimsSpare s t := by
  constructor
  · simp only [State.entry, entries, and_self, implies_true]
  · simp only [State.lane, lanes, and_self, implies_true]

theorem ClaimsSpare.refl (s : State) : ClaimsSpare s s := .of_eq rfl rfl

theorem ClaimsSpare.foldl {α : Type} {f : State → α → State} (h : ∀ s a, ClaimsSpare s (f s a)) (as : List α)
    (s : State) : ClaimsSpare s (as.foldl f s) := by
  induction as generalizing s with
  | nil => exact .refl s
  | cons a as ih => exact (h s a).trans (ih (f s a))

theorem ClaimsSpare.modLane (s : State) (l : Nat) {f : Lane → Lane} (interval : ∀ n, (f n).statusInterval = n.statusInterval)
    (silence : ∀ n, (f n).silenceTimer = n.silenceTimer) : ClaimsSpare s (s.modLane l f) :=
  ⟨fun _ => ⟨rfl, rfl⟩, fun j => ⟨lane_modLane_keeps (fun n => n.statusInterval) interval j,
    lane_modLane_keeps (fun n => n.silenceTimer) silence j⟩⟩

/-- What an update leaves of every plan entry it leaves of the entry at an index. -/
theorem entry_modEntry_keeps {α : Type} {f : PlanEntry → PlanEntry} (get : PlanEntry → α) (h : ∀ p, get (f p) = get p)
    (d : Nat) : get ((s.modEntry e f).entry d) = get (s.entry d) := by
  by_cases own : e = d
  · subst own
    by_cases there : e < s.entries.length
    · rw [s.entry_modEntry e f there, h]
    · simp [State.entry, List.getD, List.getElem?_eq_none (Nat.le_of_not_lt there)]
  · rw [s.entry_modEntry_other e d f own]

/-- An entry is claimed by its visiting lane alone. -/
theorem ClaimsSpare.visit (s : State) (l e : Nat) :
    ClaimsSpare s (s.modEntry e fun p => { p with visitingLane := some l }) := by
  refine ⟨fun d => ⟨?_, ?_⟩, fun _ => ⟨rfl, rfl⟩⟩
  · exact entry_modEntry_keeps (fun p => p.surveyOutcome) (by intro; rfl) d
  · exact entry_modEntry_keeps (fun p => p.surveyTime) (by intro; rfl) d

theorem takeEntry_spares (s : State) (l e : Nat) : ClaimsSpare s (takeEntry s l e) := by
  have visited := ClaimsSpare.visit s l e
  have left : ClaimsSpare (s.modEntry e fun p => { p with visitingLane := some l })
      { leavePrompt (s.modEntry e fun p => { p with visitingLane := some l }) e with surveyPointer := e } := .of_eq rfl rfl
  exact ((visited.trans left).trans (.modLane _ l (by intro; rfl) (by intro; rfl))).trans
    (.modLane _ l (by intro; rfl) (by intro; rfl))

theorem claim_spares (s : State) (l : Nat) : ClaimsSpare s (claim s l) := by
  unfold claim
  split
  · split
    · exact takeEntry_spares s l _
    · exact .modLane s l (fun _ => rfl) fun _ => rfl
  · exact .refl s

theorem pausedClaims_spares (s : State) : ClaimsSpare s (pausedClaims s) := by
  refine ClaimsSpare.foldl (fun u l => ?_) _ s
  split
  · exact claim_spares u l
  · exact .refl u

theorem closeWithClaims_spares (s0 s : State) (ls : List Nat) : ClaimsSpare s (closeWithClaims s0 s ls) := by
  have closed := closeAct_within s0 s
  exact ((ClaimsSpare.of_eq (closed .entries (by decide)) (closed .lanes (by decide))).trans
    (.foldl claim_spares ls _)).trans (pausedClaims_spares _)

/-! ## A visit that ends with NO-LOCK (R75, R80) -/

theorem visitLeft_shaped (shaped : s.Shaped) (l e : Nat) : (visitLeft s l e (some .noLock)).Shaped :=
  ((Calm.modLane _ l _).trans (Calm.modEntry _ e _)).shaped (shaped_of_within (shelveVisit_within s e) (by decide) shaped)

theorem endVisit_noLock (shaped : s.Shaped) (hl : l < 17) (he : e < 64) (visits : (s.lane l).visiting = some e) :
    ((endVisit s l (some .noLock)).entry e).surveyOutcome = .noLock ∧
      ((endVisit s l (some .noLock)).entry e).surveyTime = some s.clock ∧
      (endVisit s l (some .noLock)).lane l = (s.lane l).visitEnded (some .noLock) := by
  have left := visitLeft_shaped shaped l e
  have ends : endVisit s l (some .noLock) = (visitLeft s l e (some .noLock)).modEntry e fun p =>
      p.visited .noLock s.clock (s.lane l).windowMargin (((s.lane l).rover.map (·.dwellServiceCount)).getD 0) := by
    rw [endVisit, visits]
    rfl
  rw [ends, left.entry_modEntry he, if_pos rfl]
  exact ⟨rfl, rfl, (visitLeft_lane shaped hl e _ l).trans (if_pos rfl)⟩

/-! ## SET LANE (R26, R38) -/

/-- A lane record with its status interval set, the running silence timer following (R38, log 14). -/
theorem Lane.intervalSet_eq (n : Lane) (ms : Nat) : n.intervalSet ms =
    { n with
      statusInterval := ms
      silenceTimer := n.silenceTimer.map fun tm => { tm with span := 3000 * ms } } := by
  have span : micros (3 * ms) = 3000 * ms := by
    unfold micros
    omega
  rw [Lane.intervalSet, span]

/-- The state of SET LANE before the silence timer may expire. -/
def intervalState (s : State) (l ms : Nat) : State := s.modLane l fun n => n.intervalSet ms

theorem intervalState_lane (shaped : s.Shaped) (hl : l < 17) (ms : Nat) :
    (intervalState s l ms).lane l = (s.lane l).intervalSet ms := (shaped.lane_modLane hl _ l).trans (if_pos rfl)

theorem intervalState_shaped (shaped : s.Shaped) (l ms : Nat) : (intervalState s l ms).Shaped :=
  (Calm.modLane s l _).shaped shaped

theorem intervalState_due (shaped : s.Shaped) (hl : l < 17) (ms : Nat) : (intervalState s l ms).silenceDue l = true ↔
    ∃ tm, (s.lane l).silenceTimer = some tm ∧ 3000 * ms ≤ elapsed s.clock tm.start := by
  rw [silenceDue_iff, intervalState_lane shaped hl, Lane.intervalSet_eq]
  cases (s.lane l).silenceTimer <;> simp [intervalState, elapsed]

theorem setInterval_runs {ms : Nat} (runs : ¬ (intervalState s l ms).silenceDue l = true) :
    setInterval s l ms = (intervalState s l ms, []) := if_neg runs

theorem setInterval_expires {ms : Nat} (expires : (intervalState s l ms).silenceDue l = true) :
    setInterval s l ms = silenceExpired (intervalState s l ms) l := if_pos expires

/-- The close of SET LANE's act. -/
def closeInterval (s : State) (r : State × List Nat) : State := if r.2 = [] then closeAct s r.1 else closeWithClaims s r.1 r.2

theorem setLaneAct_eq {args : List Byte} {ms : Nat} (feed : byteAt args 0 ≤ 15)
    (clamped : ms = max 10 (min 1000 (numberAt args 1 2))) : setLaneAct s args =
      { state := closeInterval s (setInterval s (byteAt args 0) ms)
        status := if ms = numberAt args 1 2 then .done else .clamped
        result := bytesOf 1 (byteAt args 0) ++ bytesOf 2 ms } := by
  have range : clampNat 10 1000 (numberAt args 1 2) = ms := by rw [clampNat, min_comm, clamped]
  simp only [setLaneAct, laneRefusal_feed feed, range, takenStatus_eq]
  rfl

theorem closeInterval_calm (h : t.handed = []) (services : t.services = s.services) : closeInterval s (t, []) = t :=
  (if_pos rfl).trans (closeAct_nothing h services)

theorem closeInterval_parked (s t : State) : closeInterval s (t, []) = closeAct s t := if_pos rfl

theorem closeInterval_visit (s t : State) (l : Nat) : closeInterval s (t, [l]) = closeWithClaims s t [l] :=
  if_neg (by nofun)

theorem silenceExpired_loses (mode : (s.lane l).mode = .roving) (loses : (s.lane l).losesLock = true) :
    silenceExpired s l = (endVisit (stopSilence s l) l (some .noLock), [l]) := by
  simp [silenceExpired, mode, loses]

theorem silenceExpired_within (s : State) (l : Nat) : Within endParts s (silenceExpired s l).1 := by
  have stopped : Within endParts s (stopSilence s l) := (stopSilence_within s l).mono (by decide)
  unfold silenceExpired
  dsimp only
  split
  · exact stopped.trans ((parkedSilence_within _ l).mono (by decide))
  · split
    · exact stopped.trans (endVisit_within _ l _)
    · exact stopped
  · exact stopped

/-- What the act of SET LANE may touch. -/
theorem closeInterval_within (s : State) (l ms : Nat) :
    Within (visitParts ++ [.services, .slots, .handed]) s (closeInterval s (setInterval s l ms)) := by
  have set : Within endParts s (intervalState s l ms) := (modLane_within s l _).mono (by decide)
  have acted : Within endParts s (setInterval s l ms).1 := by
    by_cases due : (intervalState s l ms).silenceDue l = true
    · rw [setInterval_expires due]
      exact set.trans (silenceExpired_within _ l)
    · rw [setInterval_runs due]
      exact set
  refine (acted.mono (by decide)).trans (Within.ite ?_ ?_)
  · exact (closeAct_within s _).mono (by decide)
  · exact (closeWithClaims_within s _ _).mono (by decide)

/-! ### The four ends of the act -/

section

variable {ms : Nat}

theorem setLane_runs (settled : s.handed = []) (runs : ¬ (intervalState s l ms).silenceDue l = true) :
    closeInterval s (setInterval s l ms) =
      { s with lanes := s.lanes.modify l fun n =>
          { n with
            statusInterval := ms
            silenceTimer := n.silenceTimer.map fun tm => { tm with span := 3000 * ms } } } := by
  rw [setInterval_runs runs, closeInterval_calm (s := s) (t := intervalState s l ms) settled rfl, intervalState]
  simp only [Lane.intervalSet_eq]
  rfl

theorem setLane_stopped (settled : s.handed = []) (expires : (intervalState s l ms).silenceDue l = true)
    (shaped : s.Shaped) (hl : l < 17) (mode : (s.lane l).mode ≠ .parked) (keeps : (s.lane l).losesLock = false) :
    closeInterval s (setInterval s l ms) =
      { s with lanes := s.lanes.modify l fun n => { n with statusInterval := ms, silenceTimer := none } } := by
  have set := intervalState_lane shaped hl ms
  rw [setInterval_expires expires, silenceExpired_plain (by rwa [set]) (by rwa [set]),
    closeInterval_calm (s := s) (t := stopSilence (intervalState s l ms) l) settled rfl, stopSilence, intervalState,
    State.modLane_modLane]
  rfl

theorem setLane_silences (expires : (intervalState s l ms).silenceDue l = true) (shaped : s.Shaped) (hl : l < 17)
    (parked : (s.lane l).mode = .parked) : (closeInterval s (setInterval s l ms)).lane l =
      { s.lane l with
        statusInterval := ms, silenceTimer := none, parkedState := some .silent, lockTimer := none
        laneFlag := (s.lane l).laneFlag || decide ((s.lane l).parkedState ≠ some .silent)
        flagCauses := { (s.lane l).flagCauses with
          silent := (s.lane l).flagCauses.silent || decide ((s.lane l).parkedState ≠ some .silent) } } := by
  have set := intervalState_lane shaped hl ms
  have moved := ((State.LaneBecomes.refl s l).modLane (f := fun n => n.intervalSet ms) rfl).stopSilence.parkedSilence
    shaped hl rfl
  have closed := closeAct_within s (parkedSilence (stopSilence (intervalState s l ms) l) l)
  rw [setInterval_expires expires, silenceExpired_parked (by rwa [set]), closeInterval_parked, State.lane,
    closed .lanes (by decide), ← State.lane]
  exact moved.lane shaped hl

theorem setLane_endsVisit {e : Nat} (expires : (intervalState s l ms).silenceDue l = true) (shaped : s.Shaped)
    (hl : l < 17) (roving : (s.lane l).mode = .roving) (loses : (s.lane l).losesLock = true) (he : e < 64)
    (visits : (s.lane l).visiting = some e) :
    ((closeInterval s (setInterval s l ms)).entry e).surveyOutcome = .noLock ∧
      ((closeInterval s (setInterval s l ms)).entry e).surveyTime = some s.clock ∧
      ((closeInterval s (setInterval s l ms)).lane l).statusInterval = ms ∧
      ((closeInterval s (setInterval s l ms)).lane l).silenceTimer = none := by
  have set := intervalState_lane shaped hl ms
  obtain ⟨w, hw⟩ : ∃ w, w = stopSilence (intervalState s l ms) l := ⟨_, rfl⟩
  have acted : setInterval s l ms = (endVisit w l (some .noLock), [l]) := by
    rw [setInterval_expires expires, silenceExpired_loses (by rwa [set]) (by rwa [set]), hw]
  have shapedW : w.Shaped := hw ▸ (Calm.modLane _ l _).shaped (intervalState_shaped shaped l ms)
  have clock : w.clock = s.clock := hw ▸ rfl
  have laneW : w.lane l = { (s.lane l).intervalSet ms with silenceTimer := none } := by
    rw [← set, hw]
    exact ((intervalState_shaped shaped l ms).lane_modLane hl _ l).trans (if_pos rfl)
  obtain ⟨outcome, time, laneE⟩ := endVisit_noLock shapedW hl he (by rw [laneW]; exact visits)
  have spares := closeWithClaims_spares s (endVisit w l (some .noLock)) [l]
  obtain ⟨outcomes, times⟩ := spares.entries e
  obtain ⟨intervals, silences⟩ := spares.lanes l
  rw [acted, closeInterval_visit]
  refine ⟨outcomes.trans outcome, times.trans (time.trans (by rw [clock])), intervals.trans ?_, silences.trans ?_⟩ <;>
    rw [laneE, laneW] <;> rfl

end

/-- What a command whose act leaves `u` leaves of the part, whatever the status of its reply (R167, R168). -/
theorem takeCommand_replies {code len : Nat} {args : List Byte} {c : Command} {rest : List Command}
    {act : State → List Byte → Reply} {status : Status} {result : List Byte} {ps : List Part}
    (offers : Offers s code args c rest) (hlen : args.length = len)
    (acted : act (dropHead s rest) args = { state := u, status := status, result := result })
    (within : Within ps (dropHead s rest) u) (address : Part.unitAddress ∉ ps) (queue : Part.controlQueue ∉ ps) :
    Answered s u (takeCommand code len s act) c status result := by
  have asked : isCommand code len c = true := by simp [isCommand, offers.2.1, offers.2.2.1, hlen]
  rw [takeCommand, takeIf_of_head act offers.1 asked offers.canTake, offers.2.2.1, acted]
  dsimp only
  have placed : Within [.controlQueue] (settleNotice s u)
      (placeControl (settleNotice s u) (replyTo u c status result)) :=
    store_within _ _ (.inr rfl) (.inr rfl) (.inl (by decide)) (.inr ⟨rfl, rfl, rfl, rfl⟩) (.inr rfl)
      (.inr ⟨rfl, rfl, rfl, rfl, rfl, rfl, rfl, rfl, rfl, rfl, rfl⟩) (.inr rfl)
  have noted := noteRestart_within (placeControl (settleNotice s u) (replyTo u c status result))
  have all : Within [.owed, .controlQueue, .restartWaiting] u
      (noteRestart (placeControl (settleNotice s u) (replyTo u c status result))) :=
    (((settleNotice_within s u).mono (by decide)).trans (placed.mono (by decide))).trans (noted.mono (by decide))
  refine ⟨all .lanes (by decide), all .entries (by decide), (all .survey (by decide)).2, all .carriages (by decide),
    all .bindings (by decide), (all .log (by decide)).1, (noted .controlQueue (by decide)).trans ?_⟩
  have held : u.store.controlQueue = s.store.controlQueue := within .controlQueue queue
  have unit : u.mgmt.unitAddress = s.mgmt.unitAddress := within .unitAddress address
  show u.store.controlQueue ++ [replyTo u c status result] = _
  rw [held, replyTo, replyCell, unit]

end

end Sys2Proof.Machine

open Sys2Proof Sys2Proof.Machine Host

/-- Settles O29: the act sets the interval, and expires the silence timer when it already reaches the new length. -/
theorem setLaneSetsTheStatusInterval : Obligations.SetLaneSetsTheStatusInterval := by
  intro s args c rest offers len settled shaped l n ms reached status feed
  have small : l < 17 := by omega
  obtain ⟨v, dropped⟩ : ∃ v, v = dropHead s rest := ⟨_, rfl⟩
  have shaped' : v.Shaped := dropped ▸ shaped
  have laneAt : v.lane l = n := dropped ▸ rfl
  have clock : v.clock = s.clock := dropped ▸ rfl
  have nothing : v.handed = [] := dropped ▸ settled
  have act : setLaneAct (dropHead s rest) args =
      { state := closeInterval v (setInterval v l ms)
        status := status
        result := bytesOf 1 l ++ bytesOf 2 ms } := dropped ▸ setLaneAct_eq feed rfl
  have due : (intervalState v l ms).silenceDue l = true ↔ reached := by
    rw [intervalState_due shaped' small, laneAt, clock]
  have set := intervalState_lane shaped' small ms
  rw [laneAt] at set
  have within := closeInterval_within v l ms
  nth_rw 1 [dropped] at within
  have answered := takeCommand_replies (code := codeSetLane) offers len act within (by decide) (by decide)
  have taken : ∀ u : State, closeInterval v (setInterval v l ms) = { v with lanes := u.lanes } →
      u = { s with lanes := u.lanes } →
      exec .setLane s = .next (concluded s u c rest status (bytesOf 1 l ++ bytesOf 2 ms)) := fun u left plain =>
    congrArg Outcome.next (takeCommand_taken offers len (act.trans (by rw [left, plain, dropped]; rfl)))
  refine ⟨fun runs => taken _ ?_ rfl, fun expires mode keeps => taken _ ?_ rfl,
    fun expires parked => ⟨_, rfl, ?_, answered.queue⟩,
    fun expires roving loses e he visits => ⟨_, rfl, ?_⟩⟩
  · rw [setLane_runs nothing (due.not.2 runs), dropped]
    rfl
  · rw [setLane_stopped nothing (due.2 expires) shaped' small (by rwa [laneAt]) (by rwa [laneAt]), dropped]
    rfl
  · rw [answered.lane, setLane_silences (due.2 expires) shaped' small (by rwa [laneAt]), laneAt]
  · have ends := setLane_endsVisit (due.2 expires) shaped' small (by rwa [laneAt]) (by rwa [laneAt]) he (by rwa [laneAt])
    rw [clock] at ends
    obtain ⟨outcome, time, interval, silence⟩ := ends
    rw [answered.lane, answered.entry]
    exact ⟨outcome, time, interval, silence, answered.queue⟩

end

section
namespace Sys2Proof.Machine

open Sys2Proof Host

/-! ## SET WATCH (R9, R64) -/

section

variable {s : State}

/-- A record in use is held by a carriage, a slot reference, a pin or the watch list (R9). -/
theorem held_of_mem (ordered : s.CatalogueOrdered) {x : Nat × Service} (hx : x ∈ s.services) :
    (!s.held x.2.key) = (!(s.carriages.any fun y => decide (y.2.service = x.2.key)) && decide (x.2.slotRefs = 0) &&
      x.2.pinned.isNone && !s.watch.contains (some x.2.key)) := by
  have record : s.service x.2.key = some x.2 := ordered.service_of_mem hx
  have unreferenced : decide (x.2.slotRefs = 0) = !decide (0 < x.2.slotRefs) := by simp [Nat.pos_iff_ne_zero]
  simp only [State.held, State.watched, record, unreferenced, Bool.not_or, Bool.and_assoc, Option.not_isSome]

/-- Freeing a record that has lost its last hold, as a filter of the table. -/
theorem freeIfUnheld_eq_filter (s : State) (key : Key) : freeIfUnheld s key =
    { s with services := s.services.filter fun x => !(decide (key = x.2.key) && !s.held x.2.key) } := by
  unfold freeIfUnheld
  split
  · rename_i held
    have kept : ∀ x ∈ s.services, (!(decide (key = x.2.key) && !s.held x.2.key)) = true := by
      rintro x -
      by_cases own : key = x.2.key
      · simp [← own, held]
      · simp [own]
    rw [List.filter_eq_self.2 kept]
  · rename_i unheld
    refine congrArg (fun services => { s with services := services }) (List.filter_congr fun x _ => ?_)
    by_cases own : key = x.2.key
    · simp [← own, unheld]
    · simp [own, Ne.symm own]

/-- The effect of SET WATCH as one filter: the replaced key's record goes when nothing holds it any more. -/
theorem writeWatch_eq (ordered : s.CatalogueOrdered) (i : Nat) (key : Option Key) : writeWatch s i key =
    { s with
      watch := s.watch.set i key
      watchSeen := s.watchSeen.set i false
      services := s.services.filter fun x =>
        !(decide (s.watch.getD i none = some x.2.key) && !(s.carriages.any fun y => decide (y.2.service = x.2.key)) &&
          decide (x.2.slotRefs = 0) && x.2.pinned.isNone && !(s.watch.set i key).contains (some x.2.key)) } := by
  obtain ⟨w, written⟩ : ∃ w : State, w = { s with watch := s.watch.set i key, watchSeen := s.watchSeen.set i false } :=
    ⟨_, rfl⟩
  have wOrdered : w.CatalogueOrdered := written ▸ ordered
  unfold writeWatch
  cases replaced : s.watch.getD i none with
  | none => simp
  | some old =>
    dsimp only
    rw [← written, freeIfUnheld_eq_filter]
    rw [List.filter_congr fun x hx => by rw [held_of_mem wOrdered hx]]
    subst written
    simp only [Option.some.injEq, Bool.and_assoc]

end

end Sys2Proof.Machine

open Sys2Proof Sys2Proof.Machine Host

/-- Settles O23: the effect commutes with the removal of the command from its queue. -/
theorem setWatchWritesTheWatchList : Obligations.SetWatchWritesTheWatchList := by
  intro s args c rest offers len ordered i key watch small
  have keyOf : (if choiceAt args 1 then some (keyAt args 2) else none) = key := by
    simp [key, choiceAt, keyAt]
  have named : ¬ 31 < byteAt args 0 := Nat.not_lt.2 small
  have act : setWatchAct (dropHead s rest) args =
      answer (writeWatch (dropHead s rest) i key) (bytesOf 1 i ++ keyField key) := by
    rw [setWatchAct, keyOf, if_neg named]
  rw [writeWatch_eq (s := dropHead s rest) ordered] at act
  clear_value key
  cases key <;> exact congrArg Outcome.next (takeCommand_answered offers len act)

end

section
namespace Sys2Proof.Machine

open Sys2Proof Host

/-! ## The bytes of a directory message (12.3) -/

section

variable {msg : List Byte} {i a k w : Nat}

theorem numberOf_lt (bs : List Byte) : numberOf bs < 256 ^ bs.length := by
  induction bs using List.reverseRecOn with
  | nil => decide
  | append_singleton bs b ih =>
    have byte : b.toNat < 256 := b.isLt
    rw [numberOf, List.foldl_append, List.length_append, List.length_singleton, pow_succ]
    show numberOf bs * 256 + b.toNat < _
    omega

theorem numberAt_lt (bs : List Byte) (i n : Nat) : numberAt bs i n < 256 ^ n :=
  (numberOf_lt _).trans_le (Nat.pow_le_pow_right (by decide) (List.length_take_le ..))

/-- The number of characters of service entry `i`'s name. -/
def nameSize (msg : List Byte) (i : Nat) : Nat := byteAt msg (entryStart msg i + 6)

/-- The number of components of service entry `i`. -/
def partCount (msg : List Byte) (i : Nat) : Nat := byteAt msg (entryStart msg i + 7 + nameSize msg i)

/-- Component word `j` of service entry `i`. -/
def partWord (msg : List Byte) (i j : Nat) : Nat := numberAt msg (entryStart msg i + 9 + nameSize msg i + 2 * j) 2

/-- Service entry `i` by the places of its fields in the message. -/
def rawEntry (msg : List Byte) (i : Nat) : RawService :=
  { key := BitVec.ofNat 32 (numberAt msg (entryStart msg i) 4)
    name := slice msg (entryStart msg i + 7) (nameSize msg i)
    count := partCount msg i
    timing := byteAt msg (entryStart msg i + 8 + nameSize msg i)
    words := (List.range (partCount msg i)).map (partWord msg i) }

/-- The service entries that the message's count announces. -/
def rawEntries (msg : List Byte) : List RawService := (List.range (byteAt msg 5)).map (rawEntry msg)

/-- The bytes of a message from place `a` to its CRC-16. -/
def bodyFrom (msg : List Byte) (a : Nat) : List Byte := slice msg a (msg.length - 2 - a)

theorem entryStart_succ (msg : List Byte) (i : Nat) :
    entryStart msg (i + 1) = entryStart msg i + 9 + nameSize msg i + 2 * partCount msg i := rfl

theorem entryStart_mono (msg : List Byte) : Monotone (entryStart msg) :=
  monotone_nat_of_le_succ fun i => by rw [entryStart_succ]; omega

/-- The entries before entry `n` fill what lies between the header and its place. -/
theorem entryStart_eq_sum (msg : List Byte) (n : Nat) : entryStart msg n =
    8 + ((List.range n).map fun i => 9 + nameSize msg i + 2 * partCount msg i).sum := by
  induction n with
  | zero => rfl
  | succ n ih => simp [List.range_succ, entryStart_succ, ih]; omega

theorem bodyFrom_length (msg : List Byte) (a : Nat) : (bodyFrom msg a).length = msg.length - 2 - a := by
  simp [bodyFrom, slice]
  omega

theorem drop_bodyFrom (msg : List Byte) (a d : Nat) : (bodyFrom msg a).drop d = bodyFrom msg (a + d) := by
  simp only [bodyFrom, slice, List.drop_take, List.drop_drop]
  congr 1
  omega

theorem byteAt_bodyFrom (h : a + k + 2 < msg.length) : byteAt (bodyFrom msg a) k = byteAt msg (a + k) := by
  have inside : k < msg.length - 2 - a := by omega
  rw [byteAt, bodyFrom, getD_slice inside, byteAt]

theorem numberAt_bodyFrom (h : a + k + w + 2 ≤ msg.length) :
    numberAt (bodyFrom msg a) k w = numberAt msg (a + k) w := numberAt_slice (by omega)

theorem slice_bodyFrom (h : a + k + w + 2 ≤ msg.length) : slice (bodyFrom msg a) k w = slice msg (a + k) w := by
  have short : w ≤ msg.length - 2 - a - k := by omega
  simp [bodyFrom, slice, List.drop_take, List.take_take, Nat.min_eq_left short]

/-- The component words of an entry, each by its place. -/
theorem componentWords_eq (c : Nat) (bs : List Byte) :
    componentWords c bs = (List.range c).map fun j => numberAt bs (2 * j) 2 := by
  induction c generalizing bs with
  | zero => rfl
  | succ c ih =>
    have next : ∀ j, numberAt (bs.drop 2) (2 * j) 2 = numberAt bs (2 * (j + 1)) 2 := fun j => by
      simp [numberAt, slice, Nat.mul_add, Nat.add_comm]
    simp [componentWords, ih, next, List.range_succ_eq_map, Function.comp_def]

/-- The sizes of an entry, read from the bytes that are left, are those at its places in the message. -/
theorem entrySizes_bodyFrom (h : 9 + byteAt (bodyFrom msg (entryStart msg i)) 6 ≤ (bodyFrom msg (entryStart msg i)).length) :
    byteAt (bodyFrom msg (entryStart msg i)) 6 = nameSize msg i ∧
      byteAt (bodyFrom msg (entryStart msg i)) (7 + nameSize msg i) = partCount msg i := by
  rw [bodyFrom_length] at h
  have size : byteAt (bodyFrom msg (entryStart msg i)) 6 = nameSize msg i := byteAt_bodyFrom (by omega)
  rw [size] at h
  exact ⟨size, (byteAt_bodyFrom (by omega)).trans (by rw [partCount, Nat.add_assoc])⟩

/-- One entry read from the bytes that are left: it runs past them exactly when the next entry's place does. -/
theorem readServices_succ (k : Nat) : readServices (k + 1) (bodyFrom msg (entryStart msg i)) =
    if entryStart msg (i + 1) + 2 ≤ msg.length then
      (readServices k (bodyFrom msg (entryStart msg (i + 1)))).map fun r => (rawEntry msg i :: r.1, r.2)
    else none := by
  have next := entryStart_succ msg i
  have length := bodyFrom_length msg (entryStart msg i)
  rw [readServices]
  by_cases room : entryStart msg (i + 1) + 2 ≤ msg.length
  · have size : byteAt (bodyFrom msg (entryStart msg i)) 6 = nameSize msg i := byteAt_bodyFrom (by omega)
    obtain ⟨-, count⟩ := entrySizes_bodyFrom (msg := msg) (i := i) (by omega)
    have words : componentWords (partCount msg i) (bodyFrom msg (entryStart msg i + (9 + nameSize msg i))) =
        (List.range (partCount msg i)).map (partWord msg i) := by
      rw [componentWords_eq]
      refine List.map_congr_left fun j hj => ?_
      have := List.mem_range.1 hj
      rw [numberAt_bodyFrom (by omega), ← Nat.add_assoc, partWord]
    have rest : entryStart msg i + (9 + nameSize msg i + 2 * partCount msg i) = entryStart msg (i + 1) := by omega
    rw [size, count, if_neg (by omega), if_pos room, drop_bodyFrom, drop_bodyFrom, rest, words,
      numberAt_bodyFrom (by omega), slice_bodyFrom (by omega), byteAt_bodyFrom (by omega), ← Nat.add_assoc]
    cases readServices k (bodyFrom msg (entryStart msg (i + 1))) <;> rfl
  · rw [if_neg room, if_pos]
    by_contra fits
    obtain ⟨named, whole⟩ := not_or.1 fits
    obtain ⟨size, count⟩ := entrySizes_bodyFrom (msg := msg) (i := i) (by omega)
    rw [size, count] at whole
    omega

/-- The entries of a message, read one after the other, are those at their places. -/
theorem readServices_bodyFrom (k i : Nat) (start : entryStart msg i + 2 ≤ msg.length) :
    readServices k (bodyFrom msg (entryStart msg i)) =
      if entryStart msg (i + k) + 2 ≤ msg.length then
        some ((List.range k).map fun j => rawEntry msg (i + j), bodyFrom msg (entryStart msg (i + k)))
      else none := by
  induction k generalizing i with
  | zero => exact (if_pos start).symm
  | succ k ih =>
    have later : i + 1 + k = i + (k + 1) := by omega
    rw [readServices_succ]
    split
    · rename_i room
      rw [ih (i + 1) room, later]
      split
      · simp [List.range_succ_eq_map, Function.comp_def, Nat.add_comm, Nat.add_left_comm]
      · rfl
    · rename_i full
      have beyond := entryStart_mono msg (show i + 1 ≤ i + (k + 1) by omega)
      rw [if_neg (by omega)]

end

/-! ## The checks of a directory message (R53) -/

/-- A check that fails for some of the listed entries is one that does not hold of all. -/
theorem any_map_range_iff {α : Type} {f : Nat → α} {p : α → Bool} {q : Nat → Prop} (n : Nat) (h : ∀ i, p (f i) = true ↔ ¬ q i) :
    ((List.range n).map f).any p = true ↔ ¬ ∀ i < n, q i := by
  simp [h]

theorem nodup_map_range_iff {α : Type} {f : Nat → α} (n : Nat) :
    ((List.range n).map f).Nodup ↔ ∀ i < n, ∀ j < i, f j ≠ f i := by
  rw [List.Nodup, List.pairwise_map, List.pairwise_iff_getElem]
  simp only [List.length_range, List.getElem_range]
  exact ⟨fun h i hi j hj => h j i (hj.trans hi) hi hj, fun h j i _ hi hj => h i hi j hj⟩

abbrev MessageIntact (msg : List Byte) : Prop :=
  messageCrc (msg.take (msg.length - 2)) = BitVec.ofNat 16 (numberAt msg (msg.length - 2) 2)

/-- The entries fill the message to its CRC-16. -/
abbrev EntriesFill (msg : List Byte) : Prop := entryStart msg (byteAt msg 5) + 2 = msg.length

abbrev CountsAllowed (msg : List Byte) : Prop := ∀ i < byteAt msg 5, 1 ≤ partCount msg i ∧ partCount msg i ≤ 6

abbrev FlowsAllowed (msg : List Byte) : Prop :=
  ∀ i < byteAt msg 5, ∀ j < partCount msg i, partWord msg i j % 4096 < 4032

abbrev NamesAllowed (msg : List Byte) : Prop :=
  ∀ i < byteAt msg 5, (rawEntry msg i).name.length ≤ 24 ∧
    ∀ b ∈ (rawEntry msg i).name, 0x20 ≤ b.toNat ∧ b.toNat ≤ 0x7E

abbrev KeysDistinct (msg : List Byte) : Prop :=
  ∀ i < byteAt msg 5, ∀ j < i, numberAt msg (entryStart msg j) 4 ≠ numberAt msg (entryStart msg i) 4

abbrev FlowsDistinct (msg : List Byte) : Prop :=
  ∀ i < byteAt msg 5, ∀ j < partCount msg i, ∀ k < j, partWord msg i k % 4096 ≠ partWord msg i j % 4096

abbrev TimingsAllowed (msg : List Byte) : Prop :=
  ∀ i < byteAt msg 5, (rawEntry msg i).timing = 0xFF ∨ (rawEntry msg i).timing < partCount msg i

/-- Service entry `i` as an accepted message lists it. -/
def listedEntry (msg : List Byte) (i : Nat) : Listed :=
  { key := (rawEntry msg i).key, name := (rawEntry msg i).name
    components := (List.range (partCount msg i)).map fun j =>
      (readKind (partWord msg i j / 4096), partWord msg i j % 4096)
    timing := if (rawEntry msg i).timing = 0xFF then none else some (rawEntry msg i).timing }

/-- What a message that passes the ten checks says. -/
def directoryRead (msg : List Byte) : DirectoryMessage :=
  { multiplexId := BitVec.ofNat 16 (numberAt msg 0 2), version := byteAt msg 2 % 32
    services := (List.range (byteAt msg 5)).map (listedEntry msg) }

theorem rawEntry_listed (msg : List Byte) (i : Nat) : (rawEntry msg i).listed = listedEntry msg i := by
  simp [RawService.listed, listedEntry, rawEntry, Function.comp_def, wordFlow]

section

variable (msg : List Byte)

theorem anyCount_iff : ((rawEntries msg).any fun r => r.count = 0 || decide (6 < r.count)) = true ↔
    ¬ CountsAllowed msg :=
  any_map_range_iff _ fun i => by
    simp only [Bool.or_eq_true, decide_eq_true_eq]
    show partCount msg i = 0 ∨ 6 < partCount msg i ↔ _
    omega

theorem anyFlow_iff : ((rawEntries msg).any fun r =>
      r.words.any fun w => decide (Config.firstReservedFlow ≤ wordFlow w)) = true ↔
    ¬ FlowsAllowed msg :=
  any_map_range_iff _ fun i => any_map_range_iff (partCount msg i) fun j => by
    rw [decide_eq_true_iff, Nat.not_lt]
    rfl

theorem anyName_iff : ((rawEntries msg).any fun r =>
      decide (24 < r.name.length) || r.name.any fun b => !printable b) = true ↔
    ¬ NamesAllowed msg :=
  any_map_range_iff _ fun i => by
    rw [not_and_or, Nat.not_le, Bool.or_eq_true, decide_eq_true_iff]
    simp [printable, imp_iff_not_or]

theorem keysNodup_iff : ((rawEntries msg).map (·.key)).Nodup ↔ KeysDistinct msg := by
  have small : ∀ i, numberAt msg (entryStart msg i) 4 < 2 ^ 32 := fun i => numberAt_lt ..
  have same : ∀ i j, (rawEntry msg j).key = (rawEntry msg i).key ↔
      numberAt msg (entryStart msg j) 4 = numberAt msg (entryStart msg i) 4 := fun i j => by
    simp only [rawEntry, ← BitVec.toNat_inj, BitVec.toNat_ofNat, Nat.mod_eq_of_lt (small _)]
  simp only [rawEntries, List.map_map, nodup_map_range_iff, Function.comp_apply, ne_eq, same]

theorem anyRepeatedFlow_iff : ((rawEntries msg).any fun r =>
      decide (¬ (r.words.map wordFlow).Nodup)) = true ↔
    ¬ FlowsDistinct msg :=
  any_map_range_iff _ fun i => by
    rw [decide_eq_true_iff, rawEntry, List.map_map, nodup_map_range_iff]
    rfl

theorem anyTiming_iff : ((rawEntries msg).any fun r =>
      r.timing ≠ 0xFF && decide (r.count ≤ r.timing)) = true ↔
    ¬ TimingsAllowed msg :=
  any_map_range_iff _ fun i => by
    rw [not_or, Nat.not_lt, Bool.and_eq_true, decide_eq_true_iff, decide_eq_true_iff]
    rfl

end

/-- The fourth check and those after it, each on the places of the fields in the message. -/
def entryChecks (msg : List Byte) : Except RejectCause DirectoryMessage :=
  if ¬ EntriesFill msg then .error .badLength
  else if ¬ CountsAllowed msg then .error .badComponents
  else if ¬ FlowsAllowed msg then .error .badFlow
  else if ¬ NamesAllowed msg then .error .badName
  else if ¬ KeysDistinct msg then .error .duplicateKey
  else if ¬ FlowsDistinct msg then .error .duplicateFlow
  else if ¬ TimingsAllowed msg then .error .badTiming
  else .ok (directoryRead msg)

/-- The ten checks in their order. -/
theorem validate_eq (msg : List Byte) : validate msg =
    if msg.length < 10 then .error .badLength
    else if ¬ MessageIntact msg then .error .badCheck
    else if byteAt msg 3 ≠ 0 ∨ byteAt msg 4 ≠ 0 then .error .badSection
    else if 48 < byteAt msg 5 then .error .badCount
    else entryChecks msg := by
  unfold validate entryChecks
  dsimp only
  by_cases short : msg.length < 10
  · rw [if_pos short, if_pos short]
  have body : slice msg 8 (msg.length - 10) = bodyFrom msg (entryStart msg 0) := by
    rw [bodyFrom, entryStart, Nat.sub_sub]
  have read := readServices_bodyFrom (msg := msg) (byteAt msg 5) 0 (by rw [entryStart]; omega)
  simp only [Nat.zero_add] at read
  rw [if_neg short, if_neg short, body, read]
  refine if_congr Iff.rfl rfl (if_congr Iff.rfl rfl (if_congr Iff.rfl rfl ?_))
  by_cases fits : entryStart msg (byteAt msg 5) + 2 ≤ msg.length
  · rw [if_pos fits]
    have left : bodyFrom msg (entryStart msg (byteAt msg 5)) ≠ [] ↔ ¬ EntriesFill msg := by
      rw [ne_eq, ← List.length_eq_zero_iff, bodyFrom_length]
      unfold EntriesFill
      omega
    refine if_congr left rfl (if_congr (anyCount_iff msg) rfl (if_congr (anyFlow_iff msg) rfl
      (if_congr (anyName_iff msg) rfl (if_congr (not_congr (keysNodup_iff msg)) rfl (if_congr (anyRepeatedFlow_iff msg) rfl
        (if_congr (anyTiming_iff msg) rfl ?_))))))
    rw [directoryRead, List.map_map]
    have listed : RawService.listed ∘ rawEntry msg = listedEntry msg := funext (rawEntry_listed msg)
    exact listed ▸ rfl
  · rw [if_neg fits, if_pos fun fill : EntriesFill msg => fits fill.le]

/-- The header passes its checks, and the entries decide. -/
theorem validate_headed {msg : List Byte} (long : 10 ≤ msg.length) (intact : MessageIntact msg)
    (first : byteAt msg 3 = 0) (last : byteAt msg 4 = 0) (few : byteAt msg 5 ≤ 48) : validate msg = entryChecks msg := by
  rw [validate_eq, if_neg (Nat.not_lt.2 long), if_neg (not_not.2 intact), if_neg (by simp [first, last]),
    if_neg (Nat.not_lt.2 few)]

section

variable {p : Prop} [Decidable p] {cause : RejectCause} {r : Except RejectCause DirectoryMessage}

theorem check_passed (h : p) : (if ¬ p then .error cause else r) = r := if_neg (not_not.2 h)

theorem check_failed (h : ¬ p) : (if ¬ p then .error cause else r) = .error cause := if_pos h

end

/-- A message is read only when all ten checks pass. -/
theorem validate_ok {msg : List Byte} {m : DirectoryMessage} (h : validate msg = .ok m) :
    (10 ≤ msg.length ∧ MessageIntact msg ∧ byteAt msg 3 = 0 ∧ byteAt msg 4 = 0 ∧ byteAt msg 5 ≤ 48) ∧
      EntriesFill msg ∧ CountsAllowed msg ∧ FlowsAllowed msg ∧ NamesAllowed msg ∧ KeysDistinct msg ∧
      FlowsDistinct msg ∧ TimingsAllowed msg ∧ m = directoryRead msg := by
  rw [validate_eq, entryChecks] at h
  obtain ⟨long, h⟩ := ok_of_check h
  obtain ⟨intact, h⟩ := ok_of_check h
  obtain ⟨sections, h⟩ := ok_of_check h
  obtain ⟨few, h⟩ := ok_of_check h
  obtain ⟨fill, h⟩ := ok_of_check h
  obtain ⟨counts, h⟩ := ok_of_check h
  obtain ⟨flows, h⟩ := ok_of_check h
  obtain ⟨names, h⟩ := ok_of_check h
  obtain ⟨keys, h⟩ := ok_of_check h
  obtain ⟨distinct, h⟩ := ok_of_check h
  obtain ⟨timings, h⟩ := ok_of_check h
  simp only [not_or, not_not] at intact sections fill counts flows names keys distinct timings
  exact ⟨⟨Nat.not_lt.1 long, intact, sections.1, sections.2, Nat.not_lt.1 few⟩, fill, counts, flows, names, keys,
    distinct, timings, (Except.ok.inj h).symm⟩

theorem listedEntry_components_length (msg : List Byte) (i : Nat) :
    (listedEntry msg i).components.length = partCount msg i := by simp [listedEntry]

/-- The name of an entry that ends within the message is whole. -/
theorem listedEntry_name_length {msg : List Byte} {i : Nat} (inside : entryStart msg (i + 1) ≤ msg.length) :
    (listedEntry msg i).name.length = nameSize msg i := by
  rw [entryStart_succ] at inside
  simp [listedEntry, rawEntry, slice]
  omega

/-- A timing component that an accepted message names is one of the entry's components. -/
theorem listedEntry_timing {msg : List Byte} {i t : Nat}
    (allowed : (rawEntry msg i).timing = 0xFF ∨ (rawEntry msg i).timing < partCount msg i)
    (h : (listedEntry msg i).timing = some t) : t < (listedEntry msg i).components.length := by
  rw [listedEntry_components_length]
  simp only [listedEntry] at h
  split at h
  · cases h
  · rename_i named
    cases h
    exact allowed.resolve_left named

/-- A listed service meets the checks of R53 that are made on each service entry by itself (5 to 7, 9 and 10). -/
def Listed.KeepsChecks (v : Listed) : Prop :=
  (1 ≤ v.components.length ∧ v.components.length ≤ 6) ∧ (∀ d ∈ v.components, d.2 < 4032) ∧ v.name.length ≤ 24 ∧
    (∀ b ∈ v.name, 0x20 ≤ b.toNat ∧ b.toNat ≤ 0x7E) ∧ (v.components.map Prod.snd).Nodup ∧
    ∀ t, v.timing = some t → t < v.components.length

theorem listedEntry_keepsChecks {msg : List Byte} {i : Nat} (hi : i < byteAt msg 5)
    (counts : CountsAllowed msg) (flows : FlowsAllowed msg) (names : NamesAllowed msg) (distinct : FlowsDistinct msg)
    (timings : TimingsAllowed msg) :
    (listedEntry msg i).KeepsChecks := by
  obtain ⟨short, printables⟩ := names i hi
  refine ⟨listedEntry_components_length msg i ▸ counts i hi, fun d hd => ?_, short, printables, ?_,
    fun t => listedEntry_timing (timings i hi)⟩
  · obtain ⟨j, hj, rfl⟩ := List.mem_map.1 hd
    exact flows i hi j (List.mem_range.1 hj)
  · show (((List.range (partCount msg i)).map _).map Prod.snd).Nodup
    rw [List.map_map, nodup_map_range_iff]
    exact distinct i hi

/-- What a message says when its entries pass their checks. -/
theorem directoryRead_reads {msg : List Byte} {m : DirectoryMessage} (fill : EntriesFill msg)
    (reads : CountsAllowed msg ∧ FlowsAllowed msg ∧ NamesAllowed msg ∧ KeysDistinct msg ∧ FlowsDistinct msg ∧
      TimingsAllowed msg ∧ m = directoryRead msg) :
    m.services.length = byteAt msg 5 ∧ m.multiplexId = BitVec.ofNat 16 (numberAt msg 0 2) ∧
      m.version = byteAt msg 2 % 32 ∧ (m.services.map (·.key)).Nodup ∧
      (m.services.map fun v => 9 + v.name.length + 2 * v.components.length).sum + 10 = msg.length ∧
      ∀ v ∈ m.services, v.KeepsChecks := by
  obtain ⟨counts, flows, names, keys, distinct, timings, rfl⟩ := reads
  refine ⟨by simp [directoryRead], rfl, rfl, ?_, ?_, fun v hv => ?_⟩
  · have unique := (keysNodup_iff msg).2 keys
    rw [rawEntries, List.map_map] at unique
    rwa [directoryRead, List.map_map]
  · have sizes : ∀ i < byteAt msg 5, (listedEntry msg i).name.length = nameSize msg i := fun i hi => by
      have before := entryStart_mono msg (show i + 1 ≤ byteAt msg 5 from hi)
      exact listedEntry_name_length (by unfold EntriesFill at fill; omega)
    have total := entryStart_eq_sum msg (byteAt msg 5)
    have same : (directoryRead msg).services.map (fun v => 9 + v.name.length + 2 * v.components.length) =
        (List.range (byteAt msg 5)).map fun i => 9 + nameSize msg i + 2 * partCount msg i := by
      rw [directoryRead, List.map_map]
      refine List.map_congr_left fun i hi => ?_
      rw [Function.comp_apply, sizes i (List.mem_range.1 hi), listedEntry_components_length]
    unfold EntriesFill at fill
    rw [same]
    omega
  · obtain ⟨i, hi, rfl⟩ := List.mem_map.1 hv
    exact listedEntry_keepsChecks (List.mem_range.1 hi) counts flows names distinct timings

end Sys2Proof.Machine

open Sys2Proof Sys2Proof.Machine Host

/-- Settles O51: the outcomes are the branches of the chain of checks, and what an accepted message lists is read off
its checks. -/
theorem directoriesAreValidated : Obligations.DirectoriesAreValidated := by
  intro msg len intact count start key name parts timing word header check4 check5 check6 check7 check8 check9 check10
  have refused := validate_eq msg
  have headed : header → validate msg = entryChecks msg := fun ⟨long, whole, first, last, few⟩ =>
    validate_headed long whole first last few
  refine ⟨fun m ok => ?_, fun short => ?_, fun long broken => ?_, fun long whole sections => ?_,
    fun long whole first last many => ?_, fun h fails => ?_, fun h c4 fails => ?_, fun h c4 c5 fails => ?_,
    fun h c4 c5 c6 fails => ?_, fun h c4 c5 c6 c7 fails => ?_, fun h c4 c5 c6 c7 c8 fails => ?_,
    fun h c4 c5 c6 c7 c8 c9 fails => ?_, fun h c4 c5 c6 c7 c8 c9 c10 => ?_⟩
  · obtain ⟨⟨long, whole, first, last, few⟩, fill, reads⟩ := validate_ok ok
    exact ⟨long, whole, first, last, few, directoryRead_reads fill reads⟩
  · rw [refused, if_pos short]
  · rw [refused, if_neg (Nat.not_lt.2 long), if_pos broken]
  · rw [refused, if_neg (Nat.not_lt.2 long), if_neg (not_not.2 whole), if_pos sections]
  · rw [refused, if_neg (Nat.not_lt.2 long), if_neg (not_not.2 whole), if_neg (by simp [first, last]), if_pos many]
  · exact (headed h).trans (check_failed fails)
  · exact (headed h).trans ((check_passed c4).trans (check_failed fails))
  · exact (headed h).trans ((check_passed c4).trans ((check_passed c5).trans (check_failed fails)))
  · exact (headed h).trans ((check_passed c4).trans ((check_passed c5).trans ((check_passed c6).trans
      (check_failed fails))))
  · exact (headed h).trans ((check_passed c4).trans ((check_passed c5).trans ((check_passed c6).trans
      ((check_passed c7).trans (check_failed fails)))))
  · exact (headed h).trans ((check_passed c4).trans ((check_passed c5).trans ((check_passed c6).trans
      ((check_passed c7).trans ((check_passed c8).trans (check_failed fails))))))
  · exact (headed h).trans ((check_passed c4).trans ((check_passed c5).trans ((check_passed c6).trans
      ((check_passed c7).trans ((check_passed c8).trans ((check_passed c9).trans (check_failed fails)))))))
  · exact (headed h).trans ((check_passed c4).trans ((check_passed c5).trans ((check_passed c6).trans
      ((check_passed c7).trans ((check_passed c8).trans ((check_passed c9).trans (check_passed c10)))))))

end

section
namespace Sys2Proof.Machine

open Sys2Proof Host

/-! ## Assembly (R49 to R51) -/

section

variable {a : Assembler} {c : Cell}

/-- The assembler that a start cell finds: a capture in progress is abandoned and counted as broken (R49). -/
def Assembler.cutShort (a : Assembler) : Assembler := if a.capturing then a.idled.brokenUp else a.idled

/-- Whichever branch a start cell takes, all but the counters is written anew. -/
theorem Assembler.takeStart_eq (a : Assembler) (c : Cell) : a.takeStart c =
    if c.e = true ∨ 2432 < numberAt c.payload 6 2 then (a.cutShort.brokenUp, none)
    else if numberAt c.payload 6 2 ≤ 152 then (a.cutShort, some (c.payload.take (numberAt c.payload 6 2)))
    else ({ a.cutShort with
              capturing := true, cellsHeld := 1, bytesHeld := 152, declaredLength := some (numberAt c.payload 6 2)
              nextRun := some (c.run + 1), held := c.payload }, none) := by
  have refused : (c.e || decide (Config.maxDirectoryBytes < declaredLengthOf c.payload)) = true ↔
      c.e = true ∨ 2432 < numberAt c.payload 6 2 := by
    rw [Bool.or_eq_true, decide_eq_true_iff]
    rfl
  unfold Assembler.takeStart Assembler.cutShort
  refine if_congr refused ?_ (if_congr Iff.rfl ?_ ?_) <;> cases a.capturing <;> rfl

theorem Assembler.take_start (start : c.s = true) : a.take c = a.takeStart c := if_pos start

theorem Assembler.take_stray (later : c.s = false) (idle : a.capturing = false) :
    a.take c = ({ a with stray := min (a.stray + 1) 4294967295 }, none) := by
  simp [Assembler.take, Assembler.takeContinuation, later, idle, saturate, Config.counter32]

theorem Assembler.take_broken (later : c.s = false) (capturing : a.capturing = true)
    (breaks : c.e = true ∨ c.d = true ∨ a.nextRun ≠ some c.run) : a.take c = (a.idled.brokenUp, none) := by
  have broken : (c.e || c.d || decide (a.nextRun ≠ some c.run)) = true := by simpa [or_assoc] using breaks
  rw [Assembler.take, if_neg (by simp [later]), Assembler.takeContinuation, if_neg (by simp [capturing]), if_pos broken]

/-- The cell that follows in the run is held, or completes the message (R50). -/
theorem Assembler.take_next {len : Nat} (later : c.s = false) (capturing : a.capturing = true) (unmarked : c.e = false)
    (whole : c.d = false) (next : a.nextRun = some c.run) (declared : a.declaredLength = some len) : a.take c =
      if len ≤ a.bytesHeld + 152 then (a.idled, some ((a.held ++ c.payload).take len))
      else ({ a with cellsHeld := a.cellsHeld + 1, bytesHeld := a.bytesHeld + 152, nextRun := some (c.run + 1),
                     held := a.held ++ c.payload }, none) := by
  simp [Assembler.take, Assembler.takeContinuation, later, capturing, unmarked, whole, next, declared,
    Config.payloadBytes]

end

/-! ## What becomes of a message (R53, R54) -/

section

variable {s : State} {l e : Nat} {bs : List Byte} {c : Cell} {a : Assembler} {msg : List Byte} {m : DirectoryMessage}

theorem dispatchCell_directory (flow : c.flow = 4064) : dispatchCell s l c = (directoryCell s l c, []) := by
  simp [dispatchCell, Config.firstReservedFlow, Config.voidFlow, Config.directoryFlow, flow]

/-- The count of an arrived cell and a further change of its lane, as one record written. -/
theorem received_modLane (s : State) (l : Nat) (f : Lane → Lane) :
    (received s l).modLane l f = { s with lanes := s.lanes.set l (f (s.lane l).receiving) } := by
  rw [received, State.modLane_modLane, modLane_eq_set]

/-- A cell on flow 4064 that reaches the assembler of its lane. -/
theorem arriveCell_directory (sound : headerPasses bs = true) (dispatches : (s.lane l).Dispatches)
    (flow : (readCell bs).flow = 4064) : arriveCell s l bs = (directoryCell (received s l) l (readCell bs), []) := by
  rw [arriveCell_sound sound, checkedCell_dispatches (received_dispatches.2 dispatches), dispatchCell_directory flow]

theorem directoryCell_holds (h : (s.lane l).asm.take c = (a, none)) :
    directoryCell s l c = s.modAsm l fun _ => a := by rw [directoryCell, h]

theorem directoryCell_completes (h : (s.lane l).asm.take c = (a, some msg)) :
    directoryCell s l c = completeMessage (s.modAsm l fun _ => a) l msg := by rw [directoryCell, h]

theorem modAsm_modAsm (s : State) (l : Nat) (f g : Assembler → Assembler) :
    (s.modAsm l f).modAsm l g = s.modAsm l fun a => g (f a) := s.modLane_modLane l _ _

/-- A message that fails a check is counted with its cause (R53). -/
theorem directoryCell_refused {cause : RejectCause} (h : (s.lane l).asm.take c = (a, some msg))
    (bad : validate msg = .error cause) : directoryCell s l c = s.modAsm l fun _ =>
      { a with rejected := saturate Config.counter32 (a.rejected + 1), lastRejection := some cause } := by
  rw [directoryCell_completes h, completeMessage, bad]
  exact modAsm_modAsm ..

/-- A valid message on a lane that accepts for no entry is counted as unlocked (R54). -/
theorem directoryCell_unlocked (h : (s.lane l).asm.take c = (a, some msg)) (valid : validate msg = .ok m)
    (nowhere : (s.lane l).acceptingEntry = none) : directoryCell s l c = s.modAsm l fun _ =>
      { a with unlocked := saturate Config.counter32 (a.unlocked + 1) } := by
  have nowhere' : ((s.modAsm l fun _ => a).lane l).acceptingEntry = none :=
    (modAsm_lane_keeps (fun n => n.acceptingEntry) (fun _ => rfl) l).trans nowhere
  rw [directoryCell_completes h, completeMessage, valid]
  dsimp only
  rw [nowhere']
  exact modAsm_modAsm ..

/-- A lane's record once a message of `count` services is accepted (R54, R74). -/
def Lane.accepting (n : Lane) (count : Nat) : Lane :=
  { n with
    asm := { n.asm with accepted := saturate Config.counter32 (n.asm.accepted + 1), firstPending := false }
    rover := n.rover.map fun r => { r with directoryTaken := true, dwellServiceCount := count } }

/-- An acceptance writes the lane's record and the watch-seen bits, and reconciles. -/
theorem acceptDirectory_eq (s : State) (l e : Nat) (m : DirectoryMessage) : acceptDirectory s l e m =
    reconcile { s.modLane l (·.accepting m.services.length) with watchSeen := watchSeenAfter s.watch s.watchSeen m } l e m
      (s.lane l).asm.firstPending := by
  rw [acceptDirectory, State.modAsm, State.modRover, State.modLane_modLane]
  rfl

/-- A valid message on a lane that accepts for an entry is accepted for it (R54, R65, R74). -/
theorem directoryCell_accepted (hl : l < s.lanes.length) (h : (s.lane l).asm.take c = (a, some msg))
    (valid : validate msg = .ok m) (accepts : (s.lane l).acceptingEntry = some e) : directoryCell s l c =
      reconcile { s.modLane l fun n => { n with asm := a }.accepting m.services.length with
        watchSeen := watchSeenAfter s.watch s.watchSeen m } l e m a.firstPending := by
  have accepts' : ((s.modAsm l fun _ => a).lane l).acceptingEntry = some e :=
    (modAsm_lane_keeps (fun n => n.acceptingEntry) (fun _ => rfl) l).trans accepts
  have asm : ((s.modAsm l fun _ => a).lane l).asm = a := by rw [State.modAsm, s.lane_modLane l _ hl]
  rw [directoryCell_completes h, completeMessage, valid]
  dsimp only
  rw [accepts']
  dsimp only
  rw [acceptDirectory_eq, asm, State.modAsm, State.modLane_modLane]
  rfl

theorem acceptingEntry_unlocked {n : Lane} (parked : n.mode = .parked) (unlocked : n.parkedState ≠ some .locked) :
    n.acceptingEntry = none := by
  rw [Lane.acceptingEntry, parked]
  exact if_neg unlocked

theorem acceptingEntry_of {n : Lane} (dispatches : n.Dispatches)
    (holds : (n.mode = .parked ∧ n.parkedState = some .locked ∧ n.entry = some e) ∨
      (n.mode = .roving ∧ n.visiting = some e)) : n.acceptingEntry = some e := by
  rcases holds with ⟨parked, locked, entry⟩ | ⟨roving, visiting⟩
  · rw [Lane.acceptingEntry, parked]
    exact (if_pos locked).trans entry
  · have dwelling : n.visitState = some .dwelling := by
      rcases dispatches with parked | ⟨-, dwelling⟩
      · rw [parked] at roving
        cases roving
      · exact dwelling
    rw [Lane.acceptingEntry, roving]
    exact (if_pos dwelling).trans visiting

/-- What the end of an act that ends no visit leaves of the plan, the lanes, the carriages and the log. -/
theorem closeEvent_leaves (s t : State) :
    (closeEvent s (t, [])).watchSeen = t.watchSeen ∧ (closeEvent s (t, [])).carriages = t.carriages ∧
      (closeEvent s (t, [])).entries = t.entries ∧ (closeEvent s (t, [])).bindings = t.bindings ∧
      (closeEvent s (t, [])).lanes = t.lanes ∧ (closeEvent s (t, [])).mgmt.log = t.mgmt.log := by
  have closes := closeEvent_within s t
  obtain ⟨log, -⟩ := closes .log (by decide)
  exact ⟨closes .watchSeen (by decide), closes .carriages (by decide), closes .entries (by decide),
    closes .bindings (by decide), closes .lanes (by decide), log⟩

/-- A cell on flow 4064 that changes the assembler alone. -/
theorem cellArrival_assembler {f : Assembler → Assembler} (hl : l ≤ 16) (size : bs.length = 160)
    (awake : s.resetHeld = false) (settled : s.Settled)
    (arrives : arriveCell s l bs = (directoryCell (received s l) l (readCell bs), []))
    (acts : directoryCell (received s l) l (readCell bs) = (received s l).modAsm l f) :
    exec (.cellArrival l bs) s = .next (settledEvent s { s with
      lanes := s.lanes.set l { (s.lane l).receiving with asm := f (s.lane l).asm } }) := by
  rw [cellArrival_modLane hl size awake settled (arrives.trans (congrArg (·, []) acts)),
    modify_eq_set _ _ _ Lane.fresh]
  rfl

end

end Sys2Proof.Machine

open Sys2Proof Sys2Proof.Machine Host

/-- Settles O52: the assembler by the branches of its two kinds of cell, and the arrival by what becomes of the
message. -/
theorem assemblersCaptureDirectories : Obligations.AssemblersCaptureDirectories := by
  refine ⟨fun a c => ?_, fun s l bs a awake settled shaped hl size sound flow => ?_⟩
  · intro idle broke len first
    refine ⟨fun start refused => ?_, fun start unmarked short => ?_, fun start unmarked long fits => ?_,
      fun later => Assembler.take_stray later, fun later => Assembler.take_broken later,
      fun later capturing unmarked whole next len declared => ⟨fun ends => ?_, fun goes => ?_⟩⟩
    · rw [Assembler.take_start start, Assembler.takeStart_eq, if_pos refused]
      show (a.cutShort.brokenUp, none) = _
      simp only [first, idle, broke]
      unfold Assembler.cutShort
      cases a.capturing <;> rfl
    · rw [Assembler.take_start start, Assembler.takeStart_eq, if_neg (by simp [unmarked]; omega), if_pos short]
      rfl
    · rw [Assembler.take_start start, Assembler.takeStart_eq, if_neg (by simp [unmarked]; omega), if_neg (by omega)]
      rfl
    · rw [Assembler.take_next later capturing unmarked whole next declared, if_pos ends]
      rfl
    · rw [Assembler.take_next later capturing unmarked whole next declared, if_neg (by omega)]
  · intro n leaves dispatches
    have arrives := arriveCell_directory sound dispatches flow
    have takes : ((received s l).lane l).asm.take (readCell bs) = n.asm.take (readCell bs) :=
      received_lane (fun n => n.asm.take (readCell bs)) fun _ => rfl
    have entryOf : ((received s l).lane l).acceptingEntry = n.acceptingEntry :=
      received_lane (fun n => n.acceptingEntry) fun _ => rfl
    refine ⟨fun taken => ?_, fun msg cause taken bad => ?_, fun msg m taken valid => ⟨fun parked unlocked => ?_,
      fun e holds => ?_⟩⟩
    · exact cellArrival_assembler hl size awake settled arrives (directoryCell_holds (takes.trans taken))
    · exact cellArrival_assembler hl size awake settled arrives (directoryCell_refused (takes.trans taken) bad)
    · exact cellArrival_assembler hl size awake settled arrives
        (directoryCell_unlocked (takes.trans taken) valid (entryOf.trans (acceptingEntry_unlocked parked unlocked)))
    · intro s1 s2
      have small : l < (received s l).lanes.length := by
        rw [received, State.modLane_lanes, List.length_modify, shaped.2.1]
        omega
      have accepted : directoryCell (received s l) l (readCell bs) = s2 := by
        rw [directoryCell_accepted small (takes.trans taken) valid (entryOf.trans (acceptingEntry_of dispatches holds))]
        rw [received_modLane]
        rfl
      have reconciled : arriveCell s l bs = (s2, []) := arrives.trans (congrArg (·, []) accepted)
      obtain ⟨seen, leaves⟩ := closeEvent_leaves s s2
      refine ⟨_, (exec_cellArrival hl size awake).trans (by rw [reconciled]), seen.trans ?_, leaves⟩
      exact reconcile_within s1 l e m a.firstPending .watchSeen (by decide)

end
section
namespace Sys2Proof.Machine

open Sys2Proof Host

/-! ## Numbers and the bytes that write them (chapter 12) -/

theorem numberOf_append (as bs : List Byte) : numberOf (as ++ bs) = numberOf as * 256 ^ bs.length + numberOf bs := by
  induction bs using List.reverseRecOn with
  | nil => simp [numberOf]
  | append_singleton bs b ih =>
    have last : ∀ cs : List Byte, numberOf (cs ++ [b]) = numberOf cs * 256 + b.toNat := by simp [numberOf]
    rw [← List.append_assoc, last, last, ih, List.length_append, List.length_singleton, pow_succ]
    ring

theorem numberOf_cons (b : Byte) (bs : List Byte) : numberOf (b :: bs) = b.toNat * 256 ^ bs.length + numberOf bs := by
  simpa [numberOf] using numberOf_append [b] bs

theorem bytesOf_length (w n : Nat) : (bytesOf w n).length = w := by
  induction w with
  | zero => rfl
  | succ w ih => simp [bytesOf, ih]

theorem numberOf_bytesOf (w n : Nat) : numberOf (bytesOf w n) = n % 256 ^ w := by
  induction w with
  | zero => simp [bytesOf, numberOf, Nat.mod_one]
  | succ w ih =>
    rw [bytesOf, numberOf_cons, ih, bytesOf_length, BitVec.toNat_ofNat, show 2 ^ 8 = 256 from rfl, Nat.mod_pow_succ]
    ring

/-- Bytes of one length are told apart by the number they write. -/
theorem numberOf_inj {as bs : List Byte} (length : as.length = bs.length) (same : numberOf as = numberOf bs) :
    as = bs := by
  induction as generalizing bs with
  | nil => exact (List.length_eq_zero_iff.1 length.symm).symm
  | cons a as ih =>
    obtain ⟨b, bs, rfl⟩ := List.exists_cons_of_length_eq_add_one length.symm
    have tails : as.length = bs.length := Nat.succ.inj length
    have below := numberOf_lt as
    have below' := numberOf_lt bs
    rw [numberOf_cons, numberOf_cons, tails] at same
    rw [tails] at below
    have heads : a.toNat = b.toNat := by
      have := congrArg (· / 256 ^ bs.length) same
      simpa [Nat.mul_add_div, Nat.div_eq_of_lt, below, below', Nat.mul_comm _ (256 ^ bs.length)] using this
    rw [heads, Nat.add_left_cancel_iff] at same
    rw [BitVec.eq_of_toNat_eq heads, ih tails same]

/-- A field of a result equals the bytes at its place exactly when it writes their number. -/
theorem bytesOf_append_eq_iff {w n : Nat} {rest bs : List Byte} (fits : n < 256 ^ w) (long : w ≤ bs.length) :
    bytesOf w n ++ rest = bs ↔ n = numberAt bs 0 w ∧ rest = bs.drop w := by
  have width : (bytesOf w n).length = (bs.take w).length := by simp [bytesOf_length, long]
  have value : bytesOf w n = bs.take w ↔ n = numberAt bs 0 w := by
    constructor
    · intro same
      have := congrArg numberOf same
      rwa [numberOf_bytesOf, Nat.mod_eq_of_lt fits] at this
    · intro same
      refine numberOf_inj width ?_
      rw [numberOf_bytesOf, Nat.mod_eq_of_lt fits, same]
      rfl
  conv_lhs => rw [← List.take_append_drop w bs]
  rw [← value]
  exact ⟨fun same => List.append_inj same width, fun ⟨field, tail⟩ => by rw [field, tail]⟩

theorem numberAt_drop (bs : List Byte) (k i w : Nat) : numberAt (bs.drop k) i w = numberAt bs (k + i) w := by
  simp [numberAt, slice]

/-! ## SET SURVEY and SET OUTPUT (R83, R171) -/

theorem surveyTaken_eq (args : List Byte) : surveyTaken args =
    { lockTimeout := max 200 (min 10000 (numberAt args 0 2)), settleTime := min 2000 (numberAt args 2 2)
      dwellTime := max 500 (min 20000 (numberAt args 4 2)) } := by
  simp [surveyTaken, clampNat, min_comm]

/-- The three times are returned as they were given exactly when each lay in its range. -/
theorem surveyBytes_eq_args {args : List Byte} (len : args.length = 6) : surveyBytes (surveyTaken args) = args ↔
    (surveyTaken args).lockTimeout = numberAt args 0 2 ∧ (surveyTaken args).settleTime = numberAt args 2 2 ∧
      (surveyTaken args).dwellTime = numberAt args 4 2 := by
  obtain ⟨lock, settle, dwell⟩ : (surveyTaken args).lockTimeout < 256 ^ 2 ∧ (surveyTaken args).settleTime < 256 ^ 2 ∧
      (surveyTaken args).dwellTime < 256 ^ 2 := by
    rw [surveyTaken_eq]
    dsimp only
    omega
  have last := bytesOf_append_eq_iff (rest := []) (bs := (args.drop 2).drop 2) dwell (by simp [len])
  have done : [] = args.drop 6 := by simp [len]
  rw [List.append_nil] at last
  rw [surveyBytes, List.append_assoc, bytesOf_append_eq_iff lock (by omega), bytesOf_append_eq_iff settle (by simp [len]),
    last, numberAt_drop, List.drop_drop, numberAt_drop]
  simp [done]

theorem maskOf_bits (b : Nat) : (maskOf b).bits = b % 16 := by
  have bit : ∀ i, bitValue (bitAt b i) i = b / 2 ^ i % 2 * 2 ^ i := fun i => by
    rcases Nat.mod_two_eq_zero_or_one (b / 2 ^ i) with bit | bit <;>
      simp [bitValue, bitAt, Nat.testBit_eq_decide_div_mod_eq, bit]
  simp only [NoticeSet.bits, maskOf, bit]
  omega

/-- The result of SET OUTPUT, in the arguments' own numbers where nothing is clamped. -/
theorem outputBytes_outputTaken (args : List Byte) : outputBytes (outputTaken args) =
    bytesOf 3 (clampNat 10000 500000 (numberAt args 0 4)) ++ bytesOf 2 (numberAt args 4 2) ++
      bytesOf 2 (clampNat 100 2000 (numberAt args 6 2)) ++ bytesOf 1 (if byteAt args 8 = 0 then 0 else 1) ++
      bytesOf 1 (byteAt args 9 % 16) := by
  have lineup : (BitVec.ofNat 16 (numberAt args 4 2)).toNat = numberAt args 4 2 := by
    have := numberAt_lt args 4 2
    rw [BitVec.toNat_ofNat]
    omega
  have all : flagField (choiceAt args 8) = bytesOf 1 (if byteAt args 8 = 0 then 0 else 1) := by
    by_cases zero : byteAt args 8 = 0 <;> simp [flagField, choiceAt, bitValue, zero]
  rw [outputBytes, outputTaken]
  dsimp only
  rw [lineup, all, maskOf_bits]

theorem takenStatus_outputOutside (o : OutputSettings) (args : List Byte) : takenStatus (outputOutside o args) =
    if o.portCellRate = numberAt args 0 4 ∧ o.directoryPeriod = numberAt args 6 2 then .done else .clamped := by
  by_cases rate : o.portCellRate = numberAt args 0 4 <;> by_cases period : o.directoryPeriod = numberAt args 6 2 <;>
    simp [takenStatus, outputOutside, rate, period]

end Sys2Proof.Machine

open Sys2Proof Sys2Proof.Machine Host

/-- Settles O20: each command's effect commutes with its removal from the queue, and the result it writes tells whether
a setting was clamped. -/
theorem setSurveyAndSetOutputTakeTheirSettings : Obligations.SetSurveyAndSetOutputTakeTheirSettings := by
  constructor
  · intro s args c rest offers len v
    have taken : surveyTaken args = v := surveyTaken_eq args
    have act : setSurveyAct (dropHead s rest) args =
        { state := dropHead { s with survey := v } rest
          status := if v.lockTimeout = numberAt args 0 2 ∧ v.settleTime = numberAt args 2 2 ∧
            v.dwellTime = numberAt args 4 2 then .done else .clamped
          result := bytesOf 2 v.lockTimeout ++ bytesOf 2 v.settleTime ++ bytesOf 2 v.dwellTime } := by
      have kept := surveyBytes_eq_args len
      rw [taken] at kept
      simp only [setSurveyAct, taken, takenStatus_eq, kept]
      rfl
    exact congrArg Outcome.next (takeCommand_taken offers len act)
  · intro s args c rest offers len rate period bits
    have clamped : clampNat 10000 500000 (numberAt args 0 4) = rate ∧ clampNat 100 2000 (numberAt args 6 2) = period := by
      simp only [clampNat, min_comm, rate, period, and_self]
    have settings : outputTaken args =
        { portCellRate := rate, lineupId := BitVec.ofNat 16 (numberAt args 4 2), directoryPeriod := period,
          logAll := decide (byteAt args 8 ≠ 0),
          mask := { lane := bits.testBit 0, onAir := bits.testBit 1, rank := bits.testBit 2,
                    discovery := bits.testBit 3 } } := by
      rw [outputTaken, clamped.1, clamped.2]
      rfl
    have act : setOutputAct (dropHead s rest) args =
        { state := dropHead { s with output := outputTaken args, store := { s.store with rateSet := true } } rest
          status := if rate = numberAt args 0 4 ∧ period = numberAt args 6 2 then .done else .clamped
          result := bytesOf 3 rate ++ bytesOf 2 (numberAt args 4 2) ++ bytesOf 2 period ++
            bytesOf 1 (if byteAt args 8 = 0 then 0 else 1) ++ bytesOf 1 (bits % 16) } := by
      simp only [setOutputAct, outputBytes_outputTaken, takenStatus_outputOutside, clamped]
      rw [settings]
      rfl
    rw [settings] at act
    exact congrArg Outcome.next (takeCommand_taken offers len act)

end

section
namespace Sys2Proof.Machine

open Sys2Proof Host

/-! ## PROMPT SURVEY (R70) -/

section

variable {s : State} {e : Nat}

theorem promptOutcome_already (prompted : e ∈ s.promptSet) : s.promptOutcome e = .already := by
  simp [State.promptOutcome, prompted]

theorem promptOutcome_joined (new : e ∉ s.promptSet) (eligible : s.eligible e = true) : s.promptOutcome e = .joined := by
  simp [State.promptOutcome, new, eligible]

theorem promptOutcome_notEligible (new : e ∉ s.promptSet) (barred : s.eligible e = false) :
    s.promptOutcome e = .notEligible := by
  simp [State.promptOutcome, new, barred]

/-- The prompt set that PROMPT SURVEY leaves (R70). -/
def State.prompted (s : State) (e : Nat) : List Nat :=
  if s.promptOutcome e = .joined then insertPrompt s.promptSet e else s.promptSet

theorem joinPrompt_eq (s : State) (e : Nat) : joinPrompt s e = { s with promptSet := s.prompted e } := by
  unfold joinPrompt State.prompted
  cases s.promptOutcome e <;> rfl

theorem mem_prompted (s : State) (e d : Nat) :
    d ∈ s.prompted e ↔ d ∈ s.promptSet ∨ d = e ∧ s.eligible e = true := by
  by_cases prompted : e ∈ s.promptSet
  · simp only [State.prompted, promptOutcome_already prompted, reduceCtorEq, if_false]
    exact ⟨.inl, Or.rec id fun ⟨same, _⟩ => same ▸ prompted⟩
  · cases eligible : s.eligible e with
    | true =>
      simp only [State.prompted, promptOutcome_joined prompted eligible, if_true, insertPrompt_mem, and_true, or_comm]
    | false => simp [State.prompted, promptOutcome_notEligible prompted eligible]

theorem prompted_rising (rising : s.promptSet.Pairwise (· < ·)) (e : Nat) : (s.prompted e).Pairwise (· < ·) := by
  unfold State.prompted
  split
  · exact insertPrompt_rising e rising
  · exact rising

end

end Sys2Proof.Machine

open Sys2Proof Sys2Proof.Machine Host

/-- Settles O24: the entry joins by an insertion that keeps the order, and only when it is eligible and not yet there. -/
theorem promptSurveyJoinsEligibleEntries : Obligations.PromptSurveyJoinsEligibleEntries := by
  intro s args c rest offers len e eligible
  have entryByte : bytesOf 1 e = [args.getD 0 0] := by simp [bytesOf, e, byteAt]
  have act : promptSurveyAct (dropHead s rest) args =
      answer (dropHead { s with promptSet := s.prompted e } rest) [args.getD 0 0, Config.promptCode (s.promptOutcome e)] := by
    rw [promptSurveyAct, joinPrompt_eq, entryByte]
    rfl
  have eligibleOf : s.eligible e = true ↔ eligible := eligible_iff s e
  refine ⟨s.prompted e, s.promptOutcome e, congrArg Outcome.next (takeCommand_answered offers len act), fun d => ?_,
    fun rising => prompted_rising rising e, promptOutcome_already, fun new may => ?_, fun new barred => ?_⟩
  · rw [mem_prompted, eligibleOf]
  · exact promptOutcome_joined new (eligibleOf.2 may)
  · exact promptOutcome_notEligible new (Bool.eq_false_iff.2 fun may => barred (eligibleOf.1 may))

end
section
namespace Sys2Proof.Machine

open Sys2Proof Host

/-! ## The entry a claim takes (R69) -/

section

variable {s : State} {l e : Nat}

/-- The entry that R69 chooses among those that are `free`: the lowest prompted one, or else the first free one from the
one after the survey pointer, wrapping from 62 to 0. -/
def State.FirstClaim (s : State) (free : Nat → Prop) (e : Nat) : Prop :=
  s.promptSet.head? = some e ∨ s.promptSet = [] ∧ free e ∧
    ∀ d, free d → (e + 62 - s.surveyPointer) % 63 ≤ (d + 62 - s.surveyPointer) % 63

/-- The entry at a place of the claim order lies at that distance from the one after the survey pointer. -/
theorem claimOrder_distance {ptr k : Nat} (hp : ptr ≤ 62) (hk : k < 63) : ((ptr + 1 + k) % 63 + 62 - ptr) % 63 = k := by
  omega

theorem mem_claimOrder {ptr e : Nat} (he : e < 63) : e ∈ claimOrder ptr :=
  List.mem_map.2 ⟨(e + 62 + 63 * ptr - ptr) % 63, List.mem_range.2 (Nat.mod_lt _ (by decide)), by omega⟩

/-- A claim examines the entries in rising order of their distance from the one after the survey pointer. -/
theorem claimOrder_rising {ptr : Nat} (hp : ptr ≤ 62) :
    (claimOrder ptr).Pairwise fun a b => (a + 62 - ptr) % 63 < (b + 62 - ptr) % 63 := by
  refine List.pairwise_map.2 (List.pairwise_lt_range.imp_of_mem fun ha hb below => ?_)
  rwa [claimOrder_distance hp (List.mem_range.1 ha), claimOrder_distance hp (List.mem_range.1 hb)]

/-- In a list whose members rise by `key`, the first one that is picked is the picked one of least key. -/
theorem find?_of_least {α : Type} {xs : List α} {key : α → Nat} {p : α → Bool} {a : α}
    (rising : xs.Pairwise fun x y => key x < key y) (mem : a ∈ xs) (picked : p a = true)
    (least : ∀ b ∈ xs, p b = true → key a ≤ key b) : xs.find? p = some a := by
  induction xs with
  | nil => cases mem
  | cons x xs ih =>
    obtain ⟨first, rest⟩ := List.pairwise_cons.1 rising
    rcases List.mem_cons.1 mem with rfl | later
    · exact List.find?_cons_of_pos picked
    · have passed : ¬ p x = true := fun hx => by
        have := first a later
        have := least x (List.mem_cons_self ..) hx
        omega
      rw [List.find?_cons_of_neg passed]
      exact ih rest later fun b hb => least b (List.mem_cons_of_mem _ hb)

theorem eligible_below (eligible : s.eligible e = true) : e < 63 := ((eligible_iff s e).1 eligible).1

/-- The next claim takes the entry that R69 chooses. -/
theorem nextClaim_of_first {free : Nat → Prop} (hp : s.surveyPointer ≤ 62) (frees : ∀ d, s.eligible d = true ↔ free d)
    (first : s.FirstClaim free e) : s.nextClaim = some e := by
  unfold State.nextClaim
  rcases first with head | ⟨empty, may, least⟩
  · obtain ⟨rest, set⟩ := List.head?_eq_some_iff.1 head
    rw [set]
  · rw [empty]
    exact find?_of_least (claimOrder_rising hp) (mem_claimOrder (eligible_below ((frees e).2 may))) ((frees e).2 may)
      fun d _ hd => least d ((frees d).1 hd)

theorem nextClaim_eq_none : s.nextClaim = none ↔ s.promptSet = [] ∧ ∀ e, s.eligible e = false := by
  unfold State.nextClaim
  cases set : s.promptSet with
  | cons d rest => simp
  | nil =>
    simp only [List.find?_eq_none, Bool.not_eq_true, true_and]
    constructor
    · intro barred e
      by_contra may
      rw [Bool.not_eq_false] at may
      exact absurd may (by simp [barred e (mem_claimOrder (eligible_below may))])
    · exact fun barred e _ => barred e

/-! ## What a claim leaves (R69) -/

/-- A lane takes an entry: what every field of the state becomes. -/
theorem takeEntry_eq (hl : l < s.lanes.length) (e : Nat) : takeEntry s l e =
    { s with
      entries := s.entries.modify e fun p => { p with visitingLane := some l }
      surveyPointer := e
      promptSet := s.promptSet.filter (· ≠ e)
      lanes := s.lanes.modify l fun n => n.claiming e (s.tuningWordOf e) (s.startTimer s.survey.lockTimeout) } := by
  rw [← takeEntry_lanes hl]
  rfl

/-- A lane's record after a claim, in the terms of R69. -/
theorem Lane.claiming_eq {n : Lane} {r : Rover} (rover : n.rover = some r) (e : Nat) (word : BitVec 64)
    (timer : Option Timer) : n.claiming e word timer =
      { n with
        pendingOrder := some { kind := .tune, tag := n.tagCounter, word := word }
        tagCounter := tagAfter n.tagCounter, currentTag := some n.tagCounter, acknowledged := false
        rover := some { r with
          visitState := .tuning, claimedEntry := some e, visitTag := some n.tagCounter, visitTimer := timer
          visits := min (r.visits + 1) 4294967295 } } := by
  rw [Lane.claiming, Lane.tuned_eq, rover]
  rfl

theorem Lane.pausing_eq {n : Lane} {r : Rover} (rover : n.rover = some r) : n.pausing =
    { n with rover := some { r with visitState := .paused, claimedEntry := none, visitTag := none,
                                    visitTimer := none } } := by
  rw [Lane.pausing, rover]
  rfl

theorem Lane.pausing_pausing (n : Lane) : n.pausing.pausing = n.pausing := by
  unfold Lane.pausing
  cases n.rover <;> rfl

theorem claim_takes (roving : (s.lane l).mode = .roving) (next : s.nextClaim = some e) :
    claim s l = takeEntry s l e := by
  rw [claim, if_pos roving, next]

theorem claim_pauses (roving : (s.lane l).mode = .roving) (next : s.nextClaim = none) : claim s l = pauseLane s l := by
  rw [claim, if_pos roving, next]

theorem pauseLane_eq (s : State) (l : Nat) : pauseLane s l = s.modLane l Lane.pausing := rfl

theorem pauseLane_nextClaim (s : State) (l : Nat) : (pauseLane s l).nextClaim = s.nextClaim := rfl

theorem takeEntry_entry (shaped : s.Shaped) (below : e < 64) (l d : Nat) : (takeEntry s l e).entry d =
    if d = e then { s.entry e with visitingLane := some l } else s.entry d := shaped.entry_modEntry below _ d

theorem claim_shaped (shaped : s.Shaped) (l : Nat) : (claim s l).Shaped := (claim_calm s l).shaped shaped

/-- The record that a claim made in state `s` writes of a roving lane's record (R69). -/
def State.claimRecord (s : State) (n : Lane) : Lane :=
  match s.nextClaim with
  | some e => n.claiming e (s.tuningWordOf e) (s.startTimer s.survey.lockTimeout)
  | none => n.pausing

theorem claimRecord_takes (next : s.nextClaim = some e) (n : Lane) : s.claimRecord n =
    n.claiming e (s.tuningWordOf e) (s.startTimer s.survey.lockTimeout) := by
  simp only [State.claimRecord, next]

theorem claimRecord_pauses (next : s.nextClaim = none) (n : Lane) : s.claimRecord n = n.pausing := by
  simp only [State.claimRecord, next]

/-- A claim writes the claiming lane's record and no other. -/
theorem claim_lane (shaped : s.Shaped) (hl : l < 17) (roving : (s.lane l).mode = .roving) (j : Nat) :
    (claim s l).lane j = if j = l then s.claimRecord (s.lane l) else s.lane j := by
  cases next : s.nextClaim with
  | some e => rw [claim_takes roving next, takeEntry_lane shaped hl, claimRecord_takes next]
  | none => rw [claim_pauses roving next, pauseLane_eq, shaped.lane_modLane hl, claimRecord_pauses next]

/-! ## The claims of the paused lanes (R71) -/

theorem Lane.paused_iff (n : Lane) : n.paused = true ↔ n.mode = .roving ∧ n.rover.map (·.visitState) = some .paused := by
  simp [Lane.paused]

/-- A lane that takes an entry is not paused. -/
theorem Lane.claiming_not_paused (n : Lane) (e : Nat) (word : BitVec 64) (timer : Option Timer) :
    (n.claiming e word timer).paused = false := by
  cases rover : n.rover <;> simp [Lane.paused, Lane.claiming, rover]

/-- A law of the rounds in which lanes 0 to 15 claim, one after the other, holds when they are over. -/
theorem pausedClaims_rounds {I : Nat → State → Prop} (start : I 0 s)
    (round : ∀ k < 16, ∀ u, I k u → I (k + 1) (if (u.lane k).paused then claim u k else u)) :
    I 16 (pausedClaims s) := by
  have rounds : ∀ n ≤ 16, I n ((List.range n).foldl (fun u k => if (u.lane k).paused then claim u k else u) s) := by
    intro n
    induction n with
    | zero => exact fun _ => start
    | succ n ih =>
      intro hn
      rw [List.range_succ, List.foldl_append]
      exact round n (by omega) _ (ih (by omega))
  exact rounds 16 le_rfl

/-- A lane that is not paused is left alone. -/
theorem pausedClaims_lane (shaped : s.Shaped) (awake : (s.lane l).paused = false) :
    (pausedClaims s).lane l = s.lane l := by
  refine (pausedClaims_rounds (I := fun _ u => u.Shaped ∧ u.lane l = s.lane l) ⟨shaped, rfl⟩ ?_).2
  rintro k hk u ⟨shapedU, same⟩
  split
  · rename_i paused
    have other : l ≠ k := by
      rintro rfl
      rw [same, awake] at paused
      cases paused
    refine ⟨claim_shaped shapedU k, ?_⟩
    rw [claim_lane shapedU (by omega) ((Lane.paused_iff _).1 paused).1, if_neg other, same]
  · exact ⟨shapedU, same⟩

/-- With no entry to take, a lane already paused is left alone. -/
theorem pausedClaims_lane_of_none (shaped : s.Shaped) (next : s.nextClaim = none)
    (still : (s.lane l).pausing = s.lane l) : (pausedClaims s).lane l = s.lane l := by
  refine (pausedClaims_rounds (I := fun _ u => u.Shaped ∧ u.nextClaim = none ∧ u.lane l = s.lane l)
    ⟨shaped, next, rfl⟩ ?_).2.2
  rintro k hk u ⟨shapedU, nextU, same⟩
  split
  · rename_i paused
    have roving := ((Lane.paused_iff _).1 paused).1
    refine ⟨claim_shaped shapedU k, ?_, ?_⟩
    · rw [claim_pauses roving nextU, pauseLane_nextClaim, nextU]
    · rw [claim_lane shapedU (by omega) roving, claimRecord_pauses nextU]
      split
      · subst_vars
        rw [same, still]
      · exact same
  · exact ⟨shapedU, nextU, same⟩

/-- Once the paused lanes have claimed, none is paused while there is an entry to take. -/
theorem pausedClaims_exhaust (shaped : s.Shaped) (feed : l < 16) (paused : ((pausedClaims s).lane l).paused = true) :
    (pausedClaims s).nextClaim = none := by
  refine (pausedClaims_rounds (I := fun k u => u.Shaped ∧ ∀ j < k, (u.lane j).paused = true → u.nextClaim = none)
    ⟨shaped, by nofun⟩ ?_).2 l feed paused
  rintro k hk u ⟨shapedU, done⟩
  split
  · rename_i waits
    have roving := ((Lane.paused_iff _).1 waits).1
    refine ⟨claim_shaped shapedU k, fun j hj sleeps => ?_⟩
    cases next : u.nextClaim with
    | none => rw [claim_pauses roving next, pauseLane_nextClaim, next]
    | some e =>
      exfalso
      rw [claim_lane shapedU (by omega) roving, claimRecord_takes next] at sleeps
      split at sleeps
      · rw [Lane.claiming_not_paused] at sleeps
        cases sleeps
      · rw [done j (by omega) sleeps] at next
        cases next
  · rename_i awake
    refine ⟨shapedU, fun j hj sleeps => done j ?_ sleeps⟩
    have other : j ≠ k := fun same => awake (same ▸ sleeps)
    omega

end

end Sys2Proof.Machine

open Sys2Proof Sys2Proof.Machine Host

/-- Settles O25: the claim takes the entry that the claim order finds first, and the paused lanes' claims are rounds in
each of which one lane claims. -/
theorem claimsTakeTheNextEntry : Obligations.ClaimsTakeTheNextEntry := by
  constructor
  · intro s l r shaped feed roving rover hp
    have small : l < s.lanes.length := by rw [shaped.2.1]; omega
    have record : ∀ n, s.lanes[l]? = some n → n.rover = some r := fun n there => by
      rw [← rover, State.lane, List.getD, there]
      rfl
    refine ⟨fun e first => ?_, fun empty barred => ?_⟩
    · have next : s.nextClaim = some e := nextClaim_of_first (free := fun d => s.eligible d = true) hp (fun _ => Iff.rfl) first
      rw [claim_takes roving next, takeEntry_eq small]
      congr 1
      refine modify_congr_at _ _ _ _ fun n there => ?_
      rw [Lane.claiming_eq (record n there), startTimer_eq]
      rfl
    · rw [claim_pauses roving (nextClaim_eq_none.2 ⟨empty, barred⟩), pauseLane_eq, State.modLane]
      congr 1
      exact modify_congr_at _ _ _ _ fun n there => Lane.pausing_eq (record n there)
  · intro s shaped paused
    have pausedOf : ∀ (u : State) l, (u.lane l).paused = true ↔ paused u l := fun u l => Lane.paused_iff _
    refine ⟨?_, fun l _ awake => pausedClaims_lane shaped (Bool.eq_false_iff.2 fun h => awake ((pausedOf s l).1 h)),
      fun l feed sleeps => ?_⟩
    · simp only [pausedClaims, Lane.paused_iff]
      rfl
    · exact (nextClaim_eq_none.1 (pausedClaims_exhaust shaped feed ((pausedOf _ l).2 sleeps))).2

end
section
namespace Sys2Proof.Machine

open Sys2Proof Host

/-! ## The close of an act after which one lane claims (R69, R71, R80) -/

section

variable {s u : State} {l e : Nat} {n : Lane}

/-- What a claim leaves of a lane's record besides its order, its tag and its rover record. -/
theorem claimRecord_keeps {α : Type} (get : Lane → α)
    (h : ∀ (n : Lane) order counter tag acknowledged rover,
      get { n with pendingOrder := order, tagCounter := counter, currentTag := tag, acknowledged := acknowledged,
                   rover := rover } = get n) (s : State) (n : Lane) : get (s.claimRecord n) = get n := by
  unfold State.claimRecord
  split
  · exact h n _ _ _ _ _
  · exact h n n.pendingOrder n.tagCounter n.currentTag n.acknowledged _

/-- Two rover records count the same ends of visits (R66). -/
structure Rover.SameCounts (r q : Rover) : Prop where
  surveyed : q.surveyed = r.surveyed
  noLock : q.noLock = r.noLock
  noDirectory : q.noDirectory = r.noDirectory
  abandoned : q.abandoned = r.abandoned

/-- A claim counts no visit's end. -/
theorem claimRecord_rover {r : Rover} (rover : n.rover = some r) (s : State) :
    ∃ q, (s.claimRecord n).rover = some q ∧ r.SameCounts q := by
  cases next : s.nextClaim with
  | some e =>
    rw [claimRecord_takes next, Lane.claiming_eq rover]
    exact ⟨_, rfl, rfl, rfl, rfl, rfl⟩
  | none =>
    rw [claimRecord_pauses next, Lane.pausing_eq rover]
    exact ⟨_, rfl, rfl, rfl, rfl, rfl⟩

theorem nextClaim_of_within {ps : List Part} (h : Within ps s u) (entries : Part.entries ∉ ps) (survey : Part.survey ∉ ps) :
    u.nextClaim = s.nextClaim := by
  obtain ⟨pointer, prompts⟩ := h .survey survey
  have eligible : u.eligible = s.eligible := by
    funext e
    simp only [State.eligible, State.entry, show u.entries = s.entries from h .entries entries]
  simp only [State.nextClaim, pointer, prompts, eligible]

/-- The evaluations that close an act leave what its claims read. -/
theorem closeAct_claimRecord (s0 s : State) (n : Lane) : (closeAct s0 s).claimRecord n = s.claimRecord n := by
  have closed := closeAct_within s0 s
  have entries : (closeAct s0 s).entries = s.entries := closed .entries (by decide)
  have clock : (closeAct s0 s).clock = s.clock := closed .clock (by decide)
  have survey : (closeAct s0 s).survey = s.survey := (closed .settings (by decide)).2
  simp only [State.claimRecord, nextClaim_of_within closed (by decide) (by decide), State.tuningWordOf, State.entry,
    entries, State.startTimer, clock, survey]

theorem closeAct_lane (s0 s : State) (j : Nat) : (closeAct s0 s).lane j = s.lane j := by
  rw [State.lane, closeAct_within s0 s .lanes (by decide), State.lane]

theorem closeWithClaims_one (s0 u : State) (l : Nat) :
    closeWithClaims s0 u [l] = pausedClaims (claim (closeAct s0 u) l) := by
  rw [closeWithClaims, List.foldl_cons, List.foldl_nil]

/-- The lane's record when the act has closed. -/
theorem closeWithClaims_lane (h : u.Tenancy [l] none) (feed : l < 16) (s0 : State) :
    (closeWithClaims s0 u [l]).lane l = u.claimRecord (u.lane l) := by
  have closed := closeAct_tenancy h s0
  have roving := (closed.between l (by omega) (by nofun) (List.mem_singleton_self l)).mode
  have claimed := claim_lane closed.shaped (by omega) roving l
  rw [if_pos rfl, closeAct_claimRecord, closeAct_lane] at claimed
  have shaped := claim_shaped closed.shaped l
  have next : (closeAct s0 u).nextClaim = u.nextClaim := nextClaim_of_within (closeAct_within s0 u) (by decide) (by decide)
  rw [closeWithClaims_one, ← claimed]
  cases here : u.nextClaim with
  | some e =>
    refine pausedClaims_lane shaped ?_
    rw [claimed, claimRecord_takes here, Lane.claiming_not_paused]
  | none =>
    refine pausedClaims_lane_of_none shaped ?_ ?_
    · rw [claim_pauses roving (next.trans here), pauseLane_nextClaim, next, here]
    · rw [claimed, claimRecord_pauses here, Lane.pausing_pausing]

/-- The entry the lane takes is its own when the act has closed, and is in the prompt set no more. -/
theorem closeWithClaims_entry (h : u.Tenancy [l] none) (feed : l < 16) (next : u.nextClaim = some e) (s0 : State) :
    ((closeWithClaims s0 u [l]).entry e).visitingLane = some l ∧ e ∉ (closeWithClaims s0 u [l]).promptSet := by
  have closed := closeAct_tenancy h s0
  have roving := (closed.between l (by omega) (by nofun) (List.mem_singleton_self l)).mode
  have below := eligible_below (nextClaim_eligible h.prompts next)
  have next' : (closeAct s0 u).nextClaim = some e :=
    (nextClaim_of_within (closeAct_within s0 u) (by decide) (by decide)).trans next
  have left : ClaimsLeave (takeEntry (closeAct s0 u) l e) (closeWithClaims s0 u [l]) := by
    rw [← claim_takes roving next', closeWithClaims_one]
    exact pausedClaims_claimsLeave (claim_tenancy closed (by nofun) (by omega))
  have taken := takeEntry_entry closed.shaped (by omega : e < 64) l e
  rw [if_pos rfl] at taken
  constructor
  · rw [left.held e (by simp [State.eligible, taken]), taken]
  · exact fun prompted => absurd (left.prompts e prompted) (by simp [takeEntry, State.modRover, sendTune, leavePrompt])

/-! ## The claim that follows a lane's release of its entry -/

/-- A plan entry after lane `l` has let it go. -/
def PlanEntry.freedOf (p : PlanEntry) (l : Nat) : PlanEntry :=
  { p with
    parkedLane := if p.parkedLane = some l then none else p.parkedLane
    visitingLane := if p.visitingLane = some l then none else p.visitingLane }

/-- State `u` of an act that began in `s`: lane `l` has let its entry go and is about to claim one. -/
structure State.AboutToClaim (s u : State) (l : Nat) : Prop where
  tenancy : u.Tenancy [l] none
  feed : l < 16
  prompts : u.promptSet = s.promptSet
  pointer : u.surveyPointer = s.surveyPointer
  clock : u.clock = s.clock
  survey : u.survey = s.survey
  entries : ∀ d < 64, ((s.entry d).freedOf l).Keeps (u.entry d)

/-- An entry that the lane may claim is one that is free or that the lane itself held. -/
def State.FreeFor (s : State) (l e : Nat) : Prop :=
  e < 63 ∧ (s.entry e).surveyEnable = true ∧ (s.entry e).tuningWord ≠ none ∧
    ((s.entry e).parkedLane = none ∨ (s.entry e).parkedLane = some l) ∧
    ((s.entry e).visitingLane = none ∨ (s.entry e).visitingLane = some l)

namespace State.AboutToClaim

theorem of_within {ps : List Part} (tenancy : u.Tenancy [l] none) (feed : l < 16) (within : Within ps s u)
    (survey : Part.survey ∉ ps) (clock : Part.clock ∉ ps) (settings : Part.settings ∉ ps)
    (entries : ∀ d < 64, ((s.entry d).freedOf l).Keeps (u.entry d)) : s.AboutToClaim u l :=
  ⟨tenancy, feed, (within .survey survey).2, (within .survey survey).1, within .clock clock,
    (within .settings settings).2, entries⟩

theorem eligible (h : s.AboutToClaim u l) (d : Nat) : u.eligible d = true ↔ s.FreeFor l d := by
  have freed : ∀ x : Option Nat, (if x = some l then none else x) = none ↔ x = none ∨ x = some l := by
    intro x
    split <;> simp [*]
  rw [eligible_iff, State.FreeFor]
  refine and_congr_right fun below => ?_
  obtain ⟨word, survey, parked, visited⟩ := h.entries d (by omega)
  rw [survey, word, parked, visited, ← freed, ← freed, Option.isSome_iff_ne_none]
  rfl

theorem takes (h : s.AboutToClaim u l) (first : s.FirstClaim (s.FreeFor l) e) : u.nextClaim = some e := by
  refine nextClaim_of_first h.tenancy.pointer h.eligible ?_
  rw [State.FirstClaim, h.prompts, h.pointer]
  exact first

theorem pauses (h : s.AboutToClaim u l) (barred : ∀ e, ¬ s.FreeFor l e) : u.nextClaim = none := by
  refine nextClaim_eq_none.2 ⟨List.eq_nil_iff_forall_not_mem.2 fun e prompted => ?_, fun e => ?_⟩
  · exact barred e ((h.eligible e).1 (h.tenancy.prompts e prompted))
  · exact Bool.eq_false_iff.2 fun may => barred e ((h.eligible e).1 may)

theorem below (h : s.AboutToClaim u l) (first : s.FirstClaim (s.FreeFor l) e) : e < 63 :=
  eligible_below (nextClaim_eligible h.tenancy.prompts (h.takes first))

/-- The lane's record when it has taken the entry that R69 chooses. -/
theorem record_takes (h : s.AboutToClaim u l) {r : Rover} (rover : (u.lane l).rover = some r)
    (first : s.FirstClaim (s.FreeFor l) e) (s0 : State) : (closeWithClaims s0 u [l]).lane l =
      { u.lane l with
        pendingOrder := some { kind := .tune, tag := (u.lane l).tagCounter, word := (s.entry e).tuningWord.getD 0 }
        tagCounter := tagAfter (u.lane l).tagCounter, currentTag := some (u.lane l).tagCounter, acknowledged := false
        rover := some { r with
          visitState := .tuning, claimedEntry := some e, visitTag := some (u.lane l).tagCounter
          visitTimer := some { start := s.clock, span := 1000 * s.survey.lockTimeout }
          visits := min (r.visits + 1) 4294967295 } } := by
  have below := h.below first
  have word : u.tuningWordOf e = (s.entry e).tuningWord.getD 0 :=
    congrArg (·.getD 0) (h.entries e (by omega)).word
  rw [closeWithClaims_lane h.tenancy h.feed, claimRecord_takes (h.takes first), Lane.claiming_eq rover, word,
    startTimer_eq, h.clock, h.survey]

/-- The lane's record when it has found no entry. -/
theorem record_pauses (h : s.AboutToClaim u l) {r : Rover} (rover : (u.lane l).rover = some r)
    (barred : ∀ e, ¬ s.FreeFor l e) (s0 : State) : (closeWithClaims s0 u [l]).lane l =
      { u.lane l with
        rover := some { r with visitState := .paused, claimedEntry := none, visitTag := none, visitTimer := none } } := by
  rw [closeWithClaims_lane h.tenancy h.feed, claimRecord_pauses (h.pauses barred), Lane.pausing_eq rover]

theorem leaves (h : s.AboutToClaim u l) (s0 : State) : ClaimsLeave u (closeWithClaims s0 u [l]) :=
  closeWithClaims_leaves h.tenancy s0 (List.nodup_singleton l) fun j hj => by
    have := h.feed
    have := List.mem_singleton.1 hj
    omega

end State.AboutToClaim

end

end Sys2Proof.Machine
end
section
namespace Sys2Proof.Machine

open Sys2Proof Host

/-! ## What a lane command leaves besides the lane's record (R6, R26, R67) -/

section

variable {s t u : State} {l : Nat}

theorem carriage_of_map {f : Carriage → Carriage} (ordered : s.CatalogueOrdered)
    (carriages : t.carriages = s.carriages.map fun x => (x.1, f x.2)) {x : Nat × Carriage} (hx : x ∈ s.carriages) :
    t.carriage x.1 = some (f x.2) := by
  have found : tableGet s.carriages x.1 = some x.2 := ordered.carriage_of_mem hx
  rw [State.carriage, carriages, tableGet_map s.carriages (fun x => f x.2), found, Option.map_some]

/-- State `u` of a lane command's act: the lane has been left, and its own record written. -/
structure State.LeavesLane (s u : State) (l : Nat) : Prop where
  entries : u.entries = (leaveLane s l).entries
  carriages : u.carriages = (leaveLane s l).carriages
  lanes : ∀ j, j ≠ l → u.lane j = s.lane j

/-- What a lane command leaves of the entries, the carriages and the other lanes. -/
structure State.LaneLeft (s t : State) (l : Nat) : Prop where
  released : ∀ d, (s.lane l).entry = some d → (t.entry d).parkedLane = none
  carriages : ∀ x ∈ s.carriages, t.carriage x.1 = some (x.2.leftBy (s.lane l))
  lanes : ∀ j, j ≠ l → (s.lane j).mode ≠ .roving → t.lane j = s.lane j
  entries : ∀ d, ({ t.entry d with parkedLane := none, visitingLane := none } : PlanEntry) =
    { s.entry d with parkedLane := none, visitingLane := none }

theorem leaveLane_shaped (h : s.Tenancy [] none) (l : Nat) : (leaveLane s l).Shaped :=
  (leaveLane_leads (r := false) (B := anyBind) s l).shaped h.ordered h.shaped

theorem State.LeavesLane.freed (left : s.LeavesLane u l) (h : s.Tenancy [] none) (feed : l < 16) {d : Nat} (hd : d < 64) :
    u.entry d = (s.entry d).freedOf l := by
  rw [State.entry, left.entries]
  exact leaveLane_entry h (by omega) hd

/-- The claims with which a lane command closes leave the rest of what it did. -/
theorem State.LeavesLane.close (left : s.LeavesLane u l) (h : s.Tenancy [] none) (feed : l < 16)
    (claims : ClaimsLeave u t) (carriages : t.carriages = u.carriages) : s.LaneLeft t l where
  released := fun d entry => by
    have mode : (s.lane l).mode = .parked := by
      by_contra mode
      rw [h.bare (by omega) mode] at entry
      cases entry
    obtain ⟨-, -, d', hd, entry', held⟩ := h.parker (by omega) mode
    obtain rfl : d' = d := Option.some.inj (entry'.symm.trans entry)
    have same := congrArg PlanEntry.parkedLane (claims.entries d')
    dsimp only at same
    rw [same, left.freed h feed hd, PlanEntry.freedOf, if_pos held]
  carriages := fun x hx => by
    have shelved := leaveLane_carriages h feed
    rw [← left.carriages, ← carriages] at shelved
    exact carriage_of_map (f := fun x => x.leftBy (s.lane l)) h.ordered shelved hx
  lanes := fun j hj still => by
    have same := left.lanes j hj
    exact (claims.lanes j (by rwa [same])).trans same
  entries := fun d => by
    have same := congrArg (fun p : PlanEntry => { p with parkedLane := none }) (claims.entries d)
    dsimp only at same
    rw [same]
    by_cases hd : d < 64
    · rw [left.freed h feed hd]
      rfl
    · have beyond : u.entry d = s.entry d := by
        have length : u.entries.length = 64 := left.entries ▸ (leaveLane_shaped h l).1
        rw [entryAt_outside h.shaped (by omega)]
        exact List.getD_eq_default _ _ (by omega)
      rw [beyond]

/-! ## ROVE LANE (R26, R67) -/

/-- A lane's record at ROVE LANE before its first claim, the visit it ended leaving no trace. -/
def Lane.rovingAt (n : Lane) (now : Clock) : Lane :=
  { n.roving with silenceTimer := some { start := now, span := 3000 * n.statusInterval } }

theorem Lane.visitEnded_roving (n : Lane) : (n.visitEnded none).roving = n.roving := rfl

theorem Lane.rovingAt_between (n : Lane) (now : Clock) : (n.rovingAt now).Between := ⟨rfl, rfl, rfl, rfl, rfl, rfl⟩

theorem roveRecord_eq (s : State) (l : Nat) :
    roveRecord s l = (leaveLane s l).modLane l fun n => n.rovingAt (leaveLane s l).clock := by
  rw [roveRecord, startSilence, State.modLane_modLane]
  simp only [startSilence_timer]
  rfl

theorem roveRecord_lane (h : s.Tenancy [] none) (feed : l < 16) (j : Nat) : (roveRecord s l).lane j =
    if j = l then (s.lane l).rovingAt s.clock else s.lane j := by
  have clock : (leaveLane s l).clock = s.clock := leaveLane_within s l .clock (by decide)
  rw [roveRecord_eq, (leaveLane_shaped h l).lane_modLane (by omega), clock]
  split
  · rcases leaveLane_own h (l := l) (by omega) with same | ended
    · rw [same]
    · rw [ended, Lane.rovingAt, Lane.visitEnded_roving]
      rfl
  · exact leaveLane_lane h l j ‹_›

theorem roveRecord_leavesLane (h : s.Tenancy [] none) (feed : l < 16) : s.LeavesLane (roveRecord s l) l :=
  ⟨rfl, rfl, fun j hj => (roveRecord_lane h feed j).trans (if_neg hj)⟩

theorem roveRecord_aboutToClaim (h : s.Tenancy [] none) (feed : l < 16) : s.AboutToClaim (roveRecord s l) l := by
  have tenancy : (roveRecord s l).Tenancy [l] none := by
    rw [roveRecord_eq]
    exact (leaveLane_tenancy h feed).settle feed (fun j hj => by simp [hj]) rfl rfl
      (fun _ => Lane.rovingAt_between _ _) fun idle => absurd (List.mem_singleton_self l) idle
  have within : Within endParts s (roveRecord s l) :=
    (leaveLane_within s l).trans ((roveRecord_eq s l ▸ modLane_within _ l _).mono (by decide))
  refine .of_within tenancy feed within (by decide) (by decide) (by decide) fun d hd => ?_
  rw [(roveRecord_leavesLane h feed).freed h feed hd]
  exact .refl _

/-- An absent field of one byte (log 10). -/
theorem optField_absent : optField 1 none = [0xFF#8] := by decide

theorem roveLaneAct_taken {args : List Byte} (feed : byteAt args 0 ≤ 15) {t : State}
    (closed : t = closeWithClaims s (roveRecord s (byteAt args 0)) [byteAt args 0]) : roveLaneAct s args =
      answer t (bytesOf 1 (byteAt args 0) ++ optField 1 (t.lane (byteAt args 0)).visiting ++
        optField 1 ((t.lane (byteAt args 0)).rover.bind (·.visitTag))) := by
  simp only [roveLaneAct, laneRefusal_feed feed, closed]

theorem closeRove_within (s : State) (l : Nat) :
    Within planParts s (closeWithClaims s (roveRecord s l) [l]) := by
  have recorded : Within endParts s (roveRecord s l) :=
    (leaveLane_within s l).trans ((roveRecord_eq s l ▸ modLane_within _ l _).mono (by decide))
  exact (recorded.mono (by decide)).trans ((closeWithClaims_within s _ _).mono (by decide))

/-! ## RELEASE LANE (R6, R26, R67) -/

theorem Lane.visitEnded_released_halted (n : Lane) : (n.visitEnded none).released.halted = n.released.halted := by
  have asm : (n.visitEnded none).assemblerLeft false = n.assemblerLeft false := rfl
  simp only [Lane.halted, Lane.released, asm]
  rfl

theorem Lane.released_halted_eq (n : Lane) : n.released.halted =
    { n.wiped false (if n.mode = .roving then none else n.asm.lastRejection) with
      mode := .idle, entry := none, parkedState := none, tagCounter := tagAfter n.tagCounter, currentTag := none
      pendingOrder := some { kind := .halt, tag := n.tagCounter, word := 0 }
      lockTimer := none, silenceTimer := none, windowTimer := none, rover := none } := by
  have asm : n.assemblerLeft false = (n.wiped false (if n.mode = .roving then none else n.asm.lastRejection)).asm := by
    unfold Lane.assemblerLeft
    split <;> rfl
  simp only [Lane.halted, Lane.released, Lane.commandCleared, Lane.wiped, nextTag_eq, asm]
  rfl

theorem releaseRecord_lane (h : s.Tenancy [] none) (feed : l < 16) (j : Nat) : (releaseRecord s l).lane j =
    if j = l then (s.lane l).released.halted else s.lane j := by
  rw [releaseRecord, (leaveLane_shaped h l).lane_modLane (by omega)]
  split
  · rcases leaveLane_own h (l := l) (by omega) with same | ended
    · rw [same]
    · rw [ended, Lane.visitEnded_released_halted]
  · exact leaveLane_lane h l j ‹_›

theorem releaseRecord_leavesLane (h : s.Tenancy [] none) (feed : l < 16) : s.LeavesLane (releaseRecord s l) l :=
  ⟨rfl, rfl, fun j hj => (releaseRecord_lane h feed j).trans (if_neg hj)⟩

theorem releaseRecord_tenancy (h : s.Tenancy [] none) (feed : l < 16) : (releaseRecord s l).Tenancy [] none :=
  (leaveLane_tenancy h feed).settle feed (fun _ _ => Iff.rfl) rfl rfl (by nofun)
    fun _ => Lane.modeLawful_of_idle rfl rfl rfl

theorem releaseLaneAct_taken {args : List Byte} (feed : byteAt args 0 ≤ 15) : releaseLaneAct s args =
    answer (closeWithClaims s (releaseRecord s (byteAt args 0)) [])
      (bytesOf 1 (byteAt args 0) ++ bytesOf 1 (s.lane (byteAt args 0)).tagCounter) := by
  simp only [releaseLaneAct, laneRefusal_feed feed]

theorem closeRelease_within (s : State) (l : Nat) :
    Within planParts s (closeWithClaims s (releaseRecord s l) []) :=
  (((leaveLane_within s l).mono (qs := planParts) (by decide)).trans ((modLane_within _ l _).mono (by decide))).trans
    ((closeWithClaims_within s _ _).mono (by decide))

/-- What RELEASE LANE leaves. -/
theorem closeRelease_leaves (h : s.Tenancy [] none) (feed : l < 16)
    (closed : t = closeWithClaims s (releaseRecord s l) []) :
    t.lane l = (s.lane l).released.halted ∧ s.LaneLeft t l ∧
      ∀ d, (s.lane l).visiting = some d → (t.entry d).visitingLane ≠ some l := by
  have tenancy := releaseRecord_tenancy h feed
  have claims : ClaimsLeave (releaseRecord s l) t := closed ▸ closeWithClaims_leaves tenancy s List.nodup_nil (by nofun)
  have after : t.Tenancy [] none := closed ▸ closeWithClaims_tenancy tenancy s List.nodup_nil (by nofun)
  have carriages : t.carriages = (releaseRecord s l).carriages :=
    closed ▸ closeWithClaims_within s (releaseRecord s l) [] .carriages (by decide)
  have recordAt := releaseRecord_lane h feed l
  rw [if_pos rfl] at recordAt
  have idle : t.lane l = (s.lane l).released.halted := (claims.lanes l (by rw [recordAt]; nofun)).trans recordAt
  refine ⟨idle, (releaseRecord_leavesLane h feed).close h feed claims carriages, fun d visits held => ?_⟩
  obtain ⟨-, -, below, -⟩ := h.visitor visits
  have visiting := (after.visits_of_lane (by omega) held).2
  rw [idle] at visiting
  cases visiting

end

end Sys2Proof.Machine

open Sys2Proof Sys2Proof.Machine Host

/-- Settles O27: the lane is left as the lane commands leave it, and the record is that of its first claim. -/
theorem roveLaneMakesItsFirstClaim : Obligations.RoveLaneMakesItsFirstClaim := by
  intro s args c rest offers len settled ordered lawful l n m r eligible chosen feed
  obtain ⟨v, dropped⟩ : ∃ v, v = dropHead s rest := ⟨_, rfl⟩
  have tenancy : v.Tenancy [] none :=
    dropped ▸ ((tenancy_iff s).2 ⟨ordered, lawful⟩).keep (r := false) (Keeps.of_eq rfl rfl rfl rfl) (mgmt_calm s _).leads
  have entryAt : ∀ d, v.entry d = s.entry d := fun d => dropped ▸ rfl
  have laneAt : ∀ j, v.lane j = s.lane j := fun j => dropped ▸ rfl
  have table : v.carriages = s.carriages := dropped ▸ rfl
  have clock : v.clock = s.clock := dropped ▸ rfl
  have survey : v.survey = s.survey := dropped ▸ rfl
  have freeFor : ∀ e, v.FreeFor l e ↔ eligible e := fun e => dropped ▸ Iff.rfl
  have firstClaim : ∀ e, v.FirstClaim (v.FreeFor l) e ↔ chosen e := fun e => dropped ▸ Iff.rfl
  have about := roveRecord_aboutToClaim (l := l) tenancy (by omega)
  obtain ⟨w, closed⟩ : ∃ w, w = closeWithClaims v (roveRecord v l) [l] := ⟨_, rfl⟩
  have within : Within planParts v w := closed ▸ closeRove_within v l
  have carriages : w.carriages = (roveRecord v l).carriages :=
    closed ▸ closeWithClaims_within v (roveRecord v l) [l] .carriages (by decide)
  have left : v.LaneLeft w l :=
    (roveRecord_leavesLane tenancy (by omega)).close tenancy (by omega) (closed ▸ about.leaves v) carriages
  have answered := takeCommand_leaves (code := codeRoveLane) offers len dropped (roveLaneAct_taken feed closed) within
    (by decide) (by decide)
  have recordAt := roveRecord_lane (l := l) tenancy (by omega) l
  rw [if_pos rfl, laneAt, clock] at recordAt
  have rover : ((roveRecord v l).lane l).rover = some Rover.fresh := by rw [recordAt]; rfl
  refine ⟨_, rfl, fun d entry => ?_, fun x hx => ?_, fun j hj still => ?_, fun d => ?_, fun e first => ?_, fun barred => ?_⟩
  · rw [answered.entry]
    exact left.released d (by rwa [laneAt])
  · rw [State.carriage, answered.carriages]
    have shelved := left.carriages x (table ▸ hx)
    rwa [laneAt] at shelved
  · rw [answered.lane, ← laneAt]
    exact left.lanes j hj (by rwa [laneAt])
  · rw [answered.entry, ← entryAt]
    exact left.entries d
  · have taken := about.record_takes rover ((firstClaim e).2 first) v
    rw [← closed, recordAt, entryAt, clock, survey] at taken
    have visited := closeWithClaims_entry about.tenancy about.feed (about.takes ((firstClaim e).2 first)) v
    rw [← closed] at visited
    refine ⟨?_, ?_, ?_⟩
    · rw [answered.entry]
      exact visited.1
    · rw [answered.lane, taken]
      rfl
    · rw [answered.queue, taken]
      rfl
  · have paused := about.record_pauses rover (fun e may => barred e ((freeFor e).1 may)) v
    rw [← closed, recordAt] at paused
    refine ⟨?_, ?_⟩
    · rw [answered.lane, paused]
      rfl
    · rw [answered.queue, paused]
      show _ ++ [replyCell s c .done (bytesOf 1 l ++ optField 1 none ++ optField 1 none)] = _
      rw [optField_absent, List.append_assoc]
      rfl

/-- Settles O28: the lane is left as the lane commands leave it, and its record takes the HALT. -/
theorem releaseLaneIdlesTheLane : Obligations.ReleaseLaneIdlesTheLane := by
  intro s args c rest offers len settled ordered lawful l n feed
  obtain ⟨v, dropped⟩ : ∃ v, v = dropHead s rest := ⟨_, rfl⟩
  have tenancy : v.Tenancy [] none :=
    dropped ▸ ((tenancy_iff s).2 ⟨ordered, lawful⟩).keep (r := false) (Keeps.of_eq rfl rfl rfl rfl) (mgmt_calm s _).leads
  have entryAt : ∀ d, v.entry d = s.entry d := fun d => dropped ▸ rfl
  have laneAt : ∀ j, v.lane j = s.lane j := fun j => dropped ▸ rfl
  have table : v.carriages = s.carriages := dropped ▸ rfl
  have answered := takeCommand_leaves (code := codeReleaseLane) offers len dropped (releaseLaneAct_taken feed)
    (closeRelease_within v l) (by decide) (by decide)
  obtain ⟨idle, left, unvisited⟩ := closeRelease_leaves (l := l) tenancy (by omega) rfl
  refine ⟨_, rfl, ?_, fun d entry => ?_, fun d visits => ?_, fun x hx => ?_, fun j hj still => ?_, fun d => ?_, ?_⟩
  · rw [answered.lane, idle, Lane.released_halted_eq, laneAt]
  · rw [answered.entry]
    exact left.released d (by rwa [laneAt])
  · rw [answered.entry]
    exact unvisited d (by rwa [laneAt])
  · rw [State.carriage, answered.carriages]
    have shelved := left.carriages x (table ▸ hx)
    rwa [laneAt] at shelved
  · rw [answered.lane, ← laneAt]
    exact left.lanes j hj (by rwa [laneAt])
  · rw [answered.entry, ← entryAt]
    exact left.entries d
  · rw [answered.queue, laneAt]

end
section
namespace Sys2Proof.Machine

open Sys2Proof Host

/-! ## What the end of a visit leaves (R79 to R81) -/

section

variable {s u t : State} {l e : Nat} {rv : Rover}

/-- A plan entry as the visit to it is over: abandoned, or ended with an outcome (R80). -/
def PlanEntry.visitOver (p : PlanEntry) (o : Option SurveyOutcome) (now : Clock) (margin : Option Nat)
    (services : Nat) : PlanEntry :=
  match o with
  | none => { p with visitingLane := none }
  | some o => ({ p with visitingLane := none } : PlanEntry).visited o now margin services

theorem PlanEntry.visitOver_eq (p : PlanEntry) (o : Option SurveyOutcome) (now : Clock) (margin : Option Nat)
    (services : Nat) : ({ p.visitOver o now margin services with visitingLane := none } : PlanEntry) =
      p.visitOver o now margin services := by
  cases o <;> rfl

theorem endVisit_entry (h : s.Tenancy [] none) (visits : (s.lane l).visiting = some e) (o : Option SurveyOutcome)
    (d : Nat) : (endVisit s l o).entry d =
      if d = e then (s.entry e).visitOver o s.clock (s.lane l).windowMargin
        (((s.lane l).rover.map (·.dwellServiceCount)).getD 0)
      else s.entry d := by
  obtain ⟨-, -, below, -, -⟩ := h.visitor visits
  have left := visitLeft_entry h.shaped (by omega : e < 64) l o
  have shaped := (visitLeft_tenancy h visits o).shaped
  simp only [endVisit, visits, endVisitTo_eq]
  cases o with
  | none => exact left d
  | some o =>
    rw [shaped.entry_modEntry (by omega), left, left, if_pos rfl]
    split
    · rfl
    · rfl

theorem endVisit_lane (h : s.Tenancy [] none) (visits : (s.lane l).visiting = some e) (o : Option SurveyOutcome)
    (j : Nat) : (endVisit s l o).lane j = if j = l then (s.lane l).visitEnded o else s.lane j := by
  have hl := (h.visitor visits).1
  have left := visitLeft_lane h.shaped (by omega : l < 17) e o j
  simp only [endVisit, visits, endVisitTo_eq]
  cases o <;> exact left

/-- A lane that visits an entry parks on none. -/
theorem State.Tenancy.bare_of_visiting (h : s.Tenancy [] none) (visits : (s.lane l).visiting = some e) :
    (s.lane l).entry = none := by
  have feed := (h.visitor visits).1
  exact (h.bare_or_still (l := l) (by omega)).resolve_right (by rw [visits]; nofun)

/-! ### The carriages of the entry (R79, R80) -/

/-- A carriage with the survey figure of the dwell that ends (R79). -/
def State.figured (s : State) (l : Nat) (x : Carriage) : Carriage :=
  { x with
    surveyFigure := some (windowScore (s.inputsOf x ((s.lane l).windowMargin.getD 0))), surveyTime := some s.clock }

theorem surveyCarriage_map (s : State) (l c : Nat) : (surveyCarriage s l c).carriages =
    s.carriages.map fun x => (x.1, if x.1 = c then s.figured l x.2 else x.2) := by
  unfold surveyCarriage
  split
  · rename_i gone
    refine (List.map_congr_left fun x hx => ?_).trans (List.map_id _) |>.symm
    rw [if_neg (tableGet_eq_none.1 gone x hx), id]
  · exact tableModify_eq_map s.carriages c (s.figured l)

/-- The figures of a SURVEYED dwell, each given from the counts that the dwell gathered. -/
theorem surveyFigures_carriages (ordered : s.CatalogueOrdered) (l e : Nat) : (surveyFigures s l e).carriages =
    s.carriages.map fun x => (x.1, if x.2.entry = e && x.2.state = .survey then s.figured l x.2 else x.2) := by
  refine foldlWhere_map_own (I := fun u => u.bindings = s.bindings ∧ u.lanes = s.lanes ∧ u.clock = s.clock)
    (F := s.figured l) (fun u c hu => (surveyCarriage_leads (r := false) (B := anyBind) u l c).ordered hu)
    (fun u c _ alike => ?_) (fun u c alike => ?_) ordered ⟨rfl, rfl, rfl⟩ _
  · obtain ⟨bindings, lanes, clock⟩ := alike
    rw [surveyCarriage_map]
    simp only [State.figured, inputsOf_of_bindings bindings, State.lane, lanes, clock]
  · obtain ⟨bindings, lanes, clock⟩ := alike
    have within := surveyCarriage_within u l c
    exact ⟨(within .bindings (by decide)).trans bindings, (within .lanes (by decide)).trans lanes,
      (within .clock (by decide)).trans clock⟩

/-- A visit's end with any other outcome does with the carriages what its abandonment does. -/
theorem endVisit_carriages (h : s.Tenancy [] none) (visits : (s.lane l).visiting = some e) {o : Option SurveyOutcome}
    (other : o ≠ some .surveyed) :
    (endVisit s l o).carriages = s.carriages.map fun x => (x.1, x.2.leftBy (s.lane l)) := by
  have bare := h.bare_of_visiting visits
  have abandoned := abandonVisit_carriages h l
  simp only [abandonVisit, endVisit, visits, endVisitTo_eq] at abandoned ⊢
  have same : (visitLeft s l e o).carriages = (visitLeft s l e none).carriages := by
    simp only [visitLeft, if_neg other]
    rfl
  have left : (visitLeft s l e o).carriages = s.carriages.map fun x => (x.1, x.2.leftBy (s.lane l)) := by
    rw [same, abandoned]
    simp [Carriage.leftBy, bare, visits]
  cases o <;> exact left

theorem shelvedFrom_figured (x : Carriage) (surveyed : x.state = .survey) (s : State) (l : Nat) :
    (s.figured l x).shelvedFrom =
      { x.shelvedFrom with
        surveyFigure := some (windowScore (s.inputsOf x ((s.lane l).windowMargin.getD 0)))
        surveyTime := some s.clock } := by
  have scored : (s.figured l x).state = .survey := surveyed
  rw [Carriage.shelvedFrom_eq, Carriage.shelvedFrom_eq, scored, surveyed]
  rfl

/-- A carriage after a SURVEYED dwell of lane `l` on entry `e` (R79, R80). -/
def State.afterDwell (s : State) (l e : Nat) (x : Carriage) : Carriage :=
  if x.entry = e ∧ x.state = .survey then
    { x.shelvedFrom with
      surveyFigure := some (windowScore (s.inputsOf x ((s.lane l).windowMargin.getD 0)))
      surveyTime := some s.clock }
  else x.leftBy (s.lane l)

/-- A SURVEYED dwell leaves each carriage of the entry that it measured with its figure, and shelves them all. -/
theorem endVisit_surveyed_carriages (h : s.Tenancy [] none) (visits : (s.lane l).visiting = some e) :
    (endVisit s l (some .surveyed)).carriages = s.carriages.map fun x => (x.1, s.afterDwell l e x.2) := by
  have keeps := surveyFigures_keeps s l e
  have figures := h.keep (r := false) keeps (surveyFigures_leads s l e)
  have bare := h.bare_of_visiting visits
  have still := (keeps.lanes l).visiting.trans visits
  have abandoned := abandonVisit_carriages figures l
  simp only [abandonVisit, endVisit, still, endVisitTo_eq] at abandoned
  have same : (endVisit s l (some .surveyed)).carriages = (visitLeft (surveyFigures s l e) l e none).carriages := by
    simp only [endVisit, visits, endVisitTo_eq]
    rfl
  rw [same, abandoned, surveyFigures_carriages h.ordered, List.map_map]
  refine List.map_congr_left fun x _ => ?_
  simp only [Function.comp_apply, Bool.and_eq_true, decide_eq_true_eq, Option.some.injEq, State.afterDwell]
  by_cases measured : x.2.entry = e ∧ x.2.state = .survey
  · have entry : e = (s.figured l x.2).entry := measured.1.symm
    rw [if_pos measured, if_pos measured, if_pos entry, shelvedFrom_figured _ measured.2]
  · rw [if_neg measured, if_neg measured]
    simp [Carriage.leftBy, bare, visits]

/-! ### The lane claims next (R69, R80) -/

theorem Rover.ended_visits (r : Rover) (o : Option SurveyOutcome) : (r.ended o).visits = r.visits := by
  unfold Rover.ended
  cases o with
  | none => rfl
  | some o => cases o <;> rfl

/-- An act gives lane record `n` the record `m` before the lane's visit ends: the visit, the order that waits and the tag
counter are still as they were. -/
structure Lane.HoldsVisit (n m : Lane) : Prop where
  keeps : n.Keeps m
  rover : m.rover = n.rover
  order : m.pendingOrder = n.pendingOrder
  counter : m.tagCounter = n.tagCounter

/-- What an event leaves that ends the visit of lane `l` to entry `e` when the lane's record has become `m`. -/
structure State.VisitOver (s t : State) (l e : Nat) (o : Option SurveyOutcome) (m : Lane) : Prop where
  entry : ({ t.entry e with visitingLane := none } : PlanEntry) =
    (s.entry e).visitOver o s.clock m.windowMargin ((m.rover.map (·.dwellServiceCount)).getD 0)
  entries : ∀ d, d ≠ e → ({ t.entry d with visitingLane := none } : PlanEntry) = { s.entry d with visitingLane := none }
  lanes : ∀ j, j ≠ l → (s.lane j).mode ≠ .roving → t.lane j = s.lane j
  record : ∃ u : State, t.lane l = u.claimRecord (m.visitEnded o)
  claims : s.ClaimsNext t l

/-- The state of an act in which lane `l` has let the entry of its visit go. -/
theorem endVisit_aboutToClaim {f : Lane → Lane} (h : s.Tenancy [] none) (visits : (s.lane l).visiting = some e)
    (keeps : (s.lane l).Keeps (f (s.lane l))) (o : Option SurveyOutcome) :
    s.AboutToClaim (endVisit (s.modLane l f) l o) l := by
  obtain ⟨feed, -, -, lane, parked⟩ := h.visitor visits
  have alike : Keeps s (s.modLane l f) := Keeps.modLane keeps
  have tenancy := h.keep (r := false) alike (Calm.modLane s l f).leads
  have still := (alike.lanes l).visiting.trans visits
  have bare := h.bare_of_visiting visits
  refine .of_within (endVisit_tenancy tenancy still o) feed
    (((modLane_within s l f).mono (qs := endParts) (by decide)).trans (endVisit_within _ l o)) (by decide) (by decide)
    (by decide) fun d hd => ?_
  rw [endVisit_entry tenancy still]
  split
  · subst_vars
    have freed : (s.entry d).freedOf l = { s.entry d with visitingLane := none } := by
      simp [PlanEntry.freedOf, lane, parked]
    rw [freed]
    cases o with
    | none => exact .refl _
    | some o => exact ⟨rfl, rfl, rfl, rfl⟩
  · rename_i other
    have unparked : (s.entry d).parkedLane ≠ some l := fun held => by
      rw [(h.parks_of_lane hd held).2] at bare
      cases bare
    have unvisited : (s.entry d).visitingLane ≠ some l := fun held =>
      other (Option.some.inj ((h.visits_of_lane hd held).2.symm.trans visits))
    have freed : (s.entry d).freedOf l = s.entry d := by simp [PlanEntry.freedOf, unparked, unvisited]
    rw [freed]
    exact .refl _

/-- An entry that a visiting lane may claim is parked on by no lane. -/
theorem freeFor_of_visiting (h : s.Tenancy [] none) (visits : (s.lane l).visiting = some e) (d : Nat) :
    s.FreeFor l d ↔ d < 63 ∧ (s.entry d).surveyEnable = true ∧ (s.entry d).tuningWord ≠ none ∧
      (s.entry d).parkedLane = none ∧ ((s.entry d).visitingLane = none ∨ (s.entry d).visitingLane = some l) := by
  have bare := h.bare_of_visiting visits
  rw [State.FreeFor]
  refine and_congr_right fun below => ?_
  have unparked : (s.entry d).parkedLane ≠ some l := fun held => by
    rw [(h.parks_of_lane (by omega) held).2] at bare
    cases bare
  simp only [unparked, or_false]

/-- The claim that closes the event. -/
theorem claimsNext_of_visit {f : Lane → Lane} (h : s.Tenancy [] none) (rover : (s.lane l).rover = some rv)
    (claimed : rv.claimedEntry = some e) (holds : (s.lane l).HoldsVisit (f (s.lane l))) (o : Option SurveyOutcome) :
    s.ClaimsNext (closeWithClaims s (endVisit (s.modLane l f) l o) [l]) l := by
  obtain ⟨keeps, same, order, counter⟩ := holds
  have visits : (s.lane l).visiting = some e := by simp [Lane.visiting, rover, claimed]
  have feed := (h.visitor visits).1
  have about := endVisit_aboutToClaim h visits keeps o
  have tenancy := h.keep (r := false) (Keeps.modLane keeps) (Calm.modLane s l f).leads
  have recordAt : (endVisit (s.modLane l f) l o).lane l = (f (s.lane l)).visitEnded o := by
    have laneAt : (s.modLane l f).lane l = f (s.lane l) :=
      (h.shaped.lane_modLane (by omega) f l).trans (if_pos rfl)
    have still : ((s.modLane l f).lane l).visiting = some e := by rw [laneAt, keeps.visiting, visits]
    rw [endVisit_lane tenancy still, if_pos rfl, laneAt]
  have ended : ((endVisit (s.modLane l f) l o).lane l).rover = some (rv.ended o) := by
    rw [recordAt, Lane.visitEnded, same, rover]
    rfl
  have freeFor := freeFor_of_visiting h visits
  have visitsOf : ∀ rv', (s.lane l).rover = some rv' → (rv.ended o).visits = rv'.visits := fun rv' hr => by
    rw [Rover.ended_visits, Option.some.inj (rover.symm.trans hr)]
  constructor
  · intro d chosen
    have first : s.FirstClaim (s.FreeFor l) d := by
      rw [funext fun d => propext (freeFor d)]
      exact chosen
    have taken := about.record_takes ended first s
    have entry := closeWithClaims_entry about.tenancy feed (about.takes first) s
    rw [recordAt] at taken
    rw [taken]
    refine ⟨entry.1, entry.2, ?_, ?_, ?_, rfl, _, rfl, rfl, rfl, ?_, rfl, fun rv' hr => ?_⟩
    · exact congrArg some (by rw [← counter]; rfl)
    · exact congrArg tagAfter counter
    · exact congrArg some counter
    · exact congrArg some counter
    · rw [← visitsOf rv' hr]
  · intro barred
    have paused := about.record_pauses ended (fun d may => barred d ((freeFor d).1 may)) s
    rw [recordAt] at paused
    rw [paused]
    exact ⟨order, counter, rfl, rfl, _, rfl, rfl, rfl, rfl, rfl, visitsOf⟩

/-- The notice that a step settles touches none of it. -/
theorem State.VisitOver.settled {o : Option SurveyOutcome} {m : Lane} (h : s.VisitOver t l e o m) :
    s.VisitOver (settleNotice s t) l e o m :=
  ⟨h.entry, h.entries, h.lanes, h.record, h.claims⟩

/-- An event whose act ends the visit of lane `l` closes with that lane's claim. -/
theorem closeEvent_visit (s u : State) (l : Nat) :
    closeEvent s (u, [l]) = settleNotice s (closeWithClaims s u [l]) := by
  rw [closeEvent, if_neg (List.cons_ne_nil l [])]

/-- An event whose act changes the lane's record to `f` of it and then ends its visit. -/
theorem visitOver_of_event {f : Lane → Lane} (h : s.Tenancy [] none) (rover : (s.lane l).rover = some rv)
    (claimed : rv.claimedEntry = some e) (holds : (s.lane l).HoldsVisit (f (s.lane l))) (o : Option SurveyOutcome) :
    s.VisitOver (closeEvent s (endVisit (s.modLane l f) l o, [l])) l e o (f (s.lane l)) := by
  have keeps := holds.keeps
  have visits : (s.lane l).visiting = some e := by simp [Lane.visiting, rover, claimed]
  have feed := (h.visitor visits).1
  have about := endVisit_aboutToClaim h visits keeps o
  have tenancy := h.keep (r := false) (Keeps.modLane keeps) (Calm.modLane s l f).leads
  have laneAt := h.shaped.lane_modLane (by omega : l < 17) f
  have own := laneAt l
  rw [if_pos rfl] at own
  have still : ((s.modLane l f).lane l).visiting = some e := by rw [own, keeps.visiting, visits]
  have entryAt := endVisit_entry tenancy still o
  have laneAfter := endVisit_lane tenancy still o
  rw [own] at entryAt laneAfter
  have left := about.leaves s
  rw [closeEvent_visit]
  refine State.VisitOver.settled ⟨(left.entries e).trans ?_, fun d hd => (left.entries d).trans ?_, fun j hj mode => ?_, ?_,
    claimsNext_of_visit h rover claimed holds o⟩
  · rw [entryAt, if_pos rfl]
    exact PlanEntry.visitOver_eq ..
  · rw [entryAt, if_neg hd]
    rfl
  · have unchanged : (endVisit (s.modLane l f) l o).lane j = s.lane j := by
      rw [laneAfter, if_neg hj, laneAt, if_neg hj]
    exact (left.lanes j (by rwa [unchanged])).trans unchanged
  · have record := closeWithClaims_lane about.tenancy feed s
    rw [laneAfter, if_pos rfl] at record
    exact ⟨_, record⟩

/-- The carriages when the event has closed. -/
theorem closeVisit_carriages (s u : State) (l : Nat) : (closeEvent s (u, [l])).carriages = u.carriages := by
  rw [closeEvent_visit]
  exact (settleNotice_within s _ .carriages (by decide)).trans (closeWithClaims_within s u [l] .carriages (by decide))

/-- Carriages of an event that ends the visit with no figures (R80). -/
theorem visit_carriages {f : Lane → Lane} (h : s.Tenancy [] none) (visits : (s.lane l).visiting = some e)
    (keeps : (s.lane l).Keeps (f (s.lane l))) {o : Option SurveyOutcome} (other : o ≠ some .surveyed) :
    ∀ x ∈ s.carriages, (closeEvent s (endVisit (s.modLane l f) l o, [l])).carriage x.1 =
      some (x.2.leftBy (s.lane l)) := by
  have tenancy := h.keep (r := false) (Keeps.modLane keeps) (Calm.modLane s l f).leads
  have own : (s.modLane l f).lane l = f (s.lane l) := by
    have := (h.visitor visits).1
    rw [h.shaped.lane_modLane (by omega), if_pos rfl]
  have left := endVisit_carriages tenancy (by rw [own, keeps.visiting, visits]) other
  have record : ∀ x : Carriage, x.leftBy (f (s.lane l)) = x.leftBy (s.lane l) := fun x => by
    simp only [Carriage.leftBy, keeps.entry, keeps.visiting]
  simp only [own, record] at left
  exact fun x hx => carriage_of_map (f := fun x => x.leftBy (s.lane l)) h.ordered
    ((closeVisit_carriages s _ l).trans left) hx

namespace State.VisitOver

variable {o : Option SurveyOutcome} {m : Lane}

/-- What an outcome writes of the entry (R80). -/
theorem outcome {o : SurveyOutcome} (h : s.VisitOver t l e (some o) m) :
    (t.entry e).surveyOutcome = o ∧ (t.entry e).surveyTime = some s.clock ∧
      (t.entry e).surveyMargin = (if o = .noLock then none else m.windowMargin) ∧
      (t.entry e).serviceCount = if o = .surveyed then (m.rover.map (·.dwellServiceCount)).getD 0 else 0 :=
  ⟨congrArg (·.surveyOutcome) h.entry, congrArg (·.surveyTime) h.entry, congrArg (·.surveyMargin) h.entry,
    congrArg (·.serviceCount) h.entry⟩

/-- An abandonment writes nothing of the entry's survey fields. -/
theorem abandoned (h : s.VisitOver t l e none m) :
    (t.entry e).surveyOutcome = (s.entry e).surveyOutcome ∧ (t.entry e).surveyTime = (s.entry e).surveyTime ∧
      (t.entry e).surveyMargin = (s.entry e).surveyMargin ∧ (t.entry e).serviceCount = (s.entry e).serviceCount :=
  ⟨congrArg (·.surveyOutcome) h.entry, congrArg (·.surveyTime) h.entry, congrArg (·.surveyMargin) h.entry,
    congrArg (·.serviceCount) h.entry⟩

/-- The rover record counts the visit's end (R66, R80). -/
theorem counted (h : s.VisitOver t l e o m) (rover : m.rover = some rv) :
    ∃ q, (t.lane l).rover = some q ∧ (rv.ended o).SameCounts q := by
  obtain ⟨u, record⟩ := h.record
  rw [record]
  exact claimRecord_rover (by rw [Lane.visitEnded, rover]; rfl) u

/-- The assembler is idle and waits for no first directory (R52, R80). -/
theorem asm (h : s.VisitOver t l e o m) : (t.lane l).asm = m.asm.cleared false := by
  obtain ⟨u, record⟩ := h.record
  rw [record]
  exact claimRecord_keeps (fun n => n.asm) (fun _ _ _ _ _ _ => rfl) u _

theorem flags (h : s.VisitOver t l e o m) :
    (t.lane l).laneFlag = m.laneFlag ∧ (t.lane l).flagCauses = m.flagCauses := by
  obtain ⟨u, record⟩ := h.record
  rw [record]
  exact ⟨claimRecord_keeps (fun n => n.laneFlag) (fun _ _ _ _ _ _ => rfl) u _,
    claimRecord_keeps (fun n => n.flagCauses) (fun _ _ _ _ _ _ => rfl) u _⟩

end State.VisitOver

end

end Sys2Proof.Machine
end
section
namespace Sys2Proof.Machine

open Sys2Proof Host

/-! ## The timers of a visit (R72 to R75) -/

section

variable {s t : State} {l e : Nat} {rv : Rover}

theorem laneExists (hl : l ≤ 16) : ¬ Config.houseLane < l := by simpa [Config.houseLane] using hl

theorem exec_visitLockTimeout (hl : l ≤ 16) (s : State) : exec (.visitLockTimeout l) s =
    .next (event s (s.visitDue l .tuning) fun s => (endVisit s l (some .noLock), [l])) := if_neg (laneExists hl)

theorem exec_settleExpiry (hl : l ≤ 16) (s : State) : exec (.settleExpiry l) s =
    .next (quietEvent s (s.visitDue l .settling) fun s => enterDwelling s l) := if_neg (laneExists hl)

theorem exec_dwellEnd (hl : l ≤ 16) (s : State) : exec (.dwellEnd l) s =
    .next (event s (s.visitDue l .dwelling) fun s => (dwellExpired s l, [l])) := if_neg (laneExists hl)

/-- When a visit's timer expires. -/
theorem visitDue_iff (rover : (s.lane l).rover = some rv) (v : VisitState) : s.visitDue l v = true ↔
    rv.visitState = v ∧ ∃ r, rv.visitTimer = some r ∧ r.span ≤ (s.clock - r.start).toNat := by
  simp only [State.visitDue, Lane.visitState, rover, Option.map_some, Option.bind_some, Option.some.injEq,
    Bool.and_eq_true, decide_eq_true_eq, timerDue_iff]

theorem Lane.losesLock_iff {n : Lane} (rover : n.rover = some rv) :
    n.losesLock = true ↔ rv.visitState = .settling ∨ rv.visitState = .dwelling := by
  simp only [Lane.losesLock, Lane.visitState, rover, Option.map_some, Option.some.injEq, Bool.or_eq_true,
    decide_eq_true_eq]

theorem Rover.ended_noLock (r : Rover) : (r.ended (some .noLock)).noLock = min (r.noLock + 1) 4294967295 := rfl

theorem Rover.ended_noDirectory (r : Rover) :
    (r.ended (some .noDirectory)).noDirectory = min (r.noDirectory + 1) 4294967295 := rfl

theorem Rover.ended_surveyed (r : Rover) : (r.ended (some .surveyed)).surveyed = min (r.surveyed + 1) 4294967295 := rfl

theorem Rover.ended_abandoned (r : Rover) : (r.ended none).abandoned = min (r.abandoned + 1) 4294967295 := rfl

theorem dwellExpired_eq (rover : (s.lane l).rover = some rv) :
    dwellExpired s l = endVisit s l (some rv.dwellOutcome) := by
  rw [dwellExpired, rover]
  rfl

theorem Lane.visiting_of_rover {n : Lane} (rover : n.rover = some rv) (claimed : rv.claimedEntry = some e) :
    n.visiting = some e := by rw [Lane.visiting, rover, Option.bind_some, claimed]

theorem State.modLane_id (s : State) (l : Nat) : s.modLane l id = s := by simp [State.modLane]

/-- An event whose act ends a visit and does nothing else. -/
theorem visitOver_of_end (h : s.Tenancy [] none) (rover : (s.lane l).rover = some rv)
    (claimed : rv.claimedEntry = some e) (o : Option SurveyOutcome) :
    s.VisitOver (closeEvent s (endVisit s l o, [l])) l e o (s.lane l) := by
  have ended := visitOver_of_event (f := id) h rover claimed ⟨.refl _, rfl, rfl, rfl⟩ o
  rwa [State.modLane_id] at ended

/-- The carriages after an end that gives no figures. -/
theorem visitEnd_carriages (h : s.Tenancy [] none) (visits : (s.lane l).visiting = some e) {o : Option SurveyOutcome}
    (other : o ≠ some .surveyed) :
    ∀ x ∈ s.carriages, (closeEvent s (endVisit s l o, [l])).carriage x.1 = some (x.2.leftBy (s.lane l)) := by
  have shelved := visit_carriages (f := id) h visits (.refl _) other
  rwa [State.modLane_id] at shelved

/-! ### The visit states that a lane enters (R72, R74) -/

/-- A lane's record in ROVE-SETTLING. -/
def Lane.settlingAt (n : Lane) (timer : Option Timer) : Lane :=
  { n with rover := n.rover.map fun r => { r with visitState := .settling, visitTimer := timer } }

/-- A lane's record in ROVE-DWELLING. -/
def Lane.dwellingAt (n : Lane) (timer : Option Timer) : Lane :=
  { n with
    windowMargin := none, asm := n.asm.cleared true
    rover := n.rover.map fun r =>
      { r with visitState := .dwelling, visitTimer := timer, directoryTaken := false, dwellServiceCount := 0 } }

theorem Lane.settlingAt_eq {n : Lane} (rover : n.rover = some rv) (timer : Option Timer) : n.settlingAt timer =
    { n with rover := some { rv with visitState := .settling, visitTimer := timer } } := by
  rw [Lane.settlingAt, rover]
  rfl

theorem Lane.dwellingAt_eq {n : Lane} (rover : n.rover = some rv) (timer : Option Timer) : n.dwellingAt timer =
    { n with
      windowMargin := none, asm := n.asm.cleared true
      rover := some
        { rv with visitState := .dwelling, visitTimer := timer, directoryTaken := false, dwellServiceCount := 0 } } := by
  rw [Lane.dwellingAt, rover]
  rfl

theorem enterSettling_eq (s : State) (l : Nat) : enterSettling s l =
    s.modLane l (·.settlingAt (some { start := s.clock, span := 1000 * s.survey.settleTime })) := by
  rw [← startTimer_eq]
  rfl

theorem enterDwelling_eq (s : State) (l : Nat) : enterDwelling s l =
    s.modLane l (·.dwellingAt (some { start := s.clock, span := 1000 * s.survey.dwellTime })) := by
  rw [enterDwelling, State.modRover, State.modLane_modLane, startTimer_eq]
  rfl

end

end Sys2Proof.Machine

open Sys2Proof Sys2Proof.Machine Host

/-- Settles O56: each expiry that ends a visit closes with the lane's claim, and the settle time's enters the dwell. -/
theorem visitTimersEndVisits : Obligations.VisitTimersEndVisits := by
  intro s l e rv awake settled ordered lawful feed mode rover claimed n due ends
  have tenancy : s.Tenancy [] none := (tenancy_iff s).2 ⟨ordered, lawful⟩
  have visits : (s.lane l).visiting = some e := Lane.visiting_of_rover rover claimed
  have endsWith : ∀ (i : Instr) (t : State) (o : SurveyOutcome) (m : Lane) (carriage : Carriage → Carriage)
      (counts : Rover → Prop), exec i s = .next t → s.VisitOver t l e (some o) m → m.rover = some rv →
      (∀ x ∈ s.carriages, t.carriage x.1 = some (carriage x.2)) → (∀ q, (rv.ended o).SameCounts q → counts q) →
      ends i o (if o = .noLock then none else m.windowMargin) (if o = .surveyed then rv.dwellServiceCount else 0)
        carriage counts := by
    intro i t o m carriage counts runs ended kept carriages counted
    obtain ⟨outcome, time, margin, services⟩ := ended.outcome
    obtain ⟨q, there, same⟩ := ended.counted kept
    rw [kept] at services
    exact ⟨t, runs, outcome, time, margin, services, carriages, ended.lanes, ended.entries, by rw [ended.asm]; rfl,
      ended.claims, q, there, counted q same⟩
  have ended := visitOver_of_end tenancy rover claimed
  have shelved : ∀ o ≠ some .surveyed, ∀ x ∈ s.carriages,
      (closeEvent s (endVisit s l o, [l])).carriage x.1 = some (x.2.leftBy n) := fun _ =>
    visitEnd_carriages tenancy visits
  have dwelt : ∀ o, rv.visitState = .dwelling → due rv.visitTimer → rv.dwellOutcome = o →
      exec (.dwellEnd l) s = .next (closeEvent s (endVisit s l (some o), [l])) := fun o dwelling run outcome => by
    rw [exec_dwellEnd (by omega), event_on _ ((visitDue_iff rover .dwelling).2 ⟨dwelling, run⟩) awake,
      dwellExpired_eq rover, outcome]
  have lockless : ∀ q, (rv.ended (some .noLock)).SameCounts q → q.noLock = min (rv.noLock + 1) 4294967295 :=
    fun q same => same.noLock.trans rv.ended_noLock
  refine ⟨fun tuning run => ?_, fun measuring run => ?_, fun settling run => ?_, fun dwelling run untaken => ?_,
    fun dwelling run taken => ?_, fun early i hi => ?_⟩
  · have runs : exec (.visitLockTimeout l) s = .next (closeEvent s (endVisit s l (some .noLock), [l])) := by
      rw [exec_visitLockTimeout (by omega), event_on _ ((visitDue_iff rover .tuning).2 ⟨tuning, run⟩) awake]
    exact endsWith _ _ .noLock n (·.leftBy n) _ runs (ended _) rover (shelved _ (by nofun)) lockless
  · have runs : exec (.silenceExpiry l) s =
        .next (closeEvent s (endVisit (stopSilence s l) l (some .noLock), [l])) := by
      rw [exec_silenceExpiry (by omega), event_on _ ((silenceDue_iff s l).2 run) awake,
        silenceExpired_loses mode ((Lane.losesLock_iff rover).2 measuring)]
    have holds : n.HoldsVisit { n with silenceTimer := none } := ⟨.of_eq rfl rfl rfl rfl rfl, rfl, rfl, rfl⟩
    exact endsWith _ _ .noLock { n with silenceTimer := none } (·.leftBy n) _ runs
      (visitOver_of_event (f := fun n => { n with silenceTimer := none }) tenancy rover claimed holds _) rover
      (visit_carriages (f := fun n => { n with silenceTimer := none }) tenancy visits holds.keeps (by nofun)) lockless
  · rw [exec_settleExpiry (by omega), quietEvent_on _ ((visitDue_iff rover .settling).2 ⟨settling, run⟩) awake,
      enterDwelling_eq, modLane_eq_set, Lane.dwellingAt_eq rover]
    rfl
  · have outcome : rv.dwellOutcome = .noDirectory := by simp [Rover.dwellOutcome, untaken]
    exact endsWith _ _ .noDirectory n (·.leftBy n) _ (dwelt _ dwelling run outcome) (ended _) rover
      (shelved _ (by nofun)) fun q same => same.noDirectory.trans (rv.ended_noDirectory)
  · have outcome : rv.dwellOutcome = .surveyed := by simp [Rover.dwellOutcome, taken]
    have figures := (closeVisit_carriages s _ l).trans (endVisit_surveyed_carriages tenancy visits)
    exact endsWith _ _ .surveyed n (s.afterDwell l e) _ (dwelt _ dwelling run outcome) (ended _) rover
      (fun x => carriage_of_map ordered figures) fun q same => same.surveyed.trans rv.ended_surveyed
  · have still : ∀ v, s.visitDue l v = false := fun v =>
      Bool.eq_false_iff.2 fun on => early ((visitDue_iff rover v).1 on).2
    simp only [List.mem_cons, List.not_mem_nil, or_false] at hi
    rcases hi with rfl | rfl | rfl
    · rw [exec_visitLockTimeout (by omega), event_off _ (.inl (still _))]
    · rw [exec_settleExpiry (by omega), quietEvent_off _ (.inl (still _))]
    · rw [exec_dwellEnd (by omega), event_off _ (.inl (still _))]

end
section
namespace Sys2Proof.Machine

open Sys2Proof Host

/-! ## Status cells on a roving lane (R34, R35, R72 to R76) -/

section

variable {s : State} {l e : Nat} {n : Lane} {rv : Rover} {r : StatusReport} {bs : List Byte}

/-- A lane's record after a cell's arrival and the steps of R34 that every unmarked status cell takes. -/
def Lane.statusArrived (n : Lane) (now : Clock) (r : StatusReport) : Lane := n.receiving.statusTaken now r

/-- A lane's record after a current status cell. -/
def Lane.marginArrived (n : Lane) (now : Clock) (r : StatusReport) : Lane :=
  { n.statusArrived now r with
    acknowledged := true, latestMargin := some r.margin, windowMargin := some r.margin }

/-- A lane's record after a status cell that tells a front-end restart, the visit not yet abandoned (R35). -/
def Lane.restartArrived (n : Lane) (now : Clock) (r : StatusReport) : Lane :=
  { n.statusArrived now r with
    counters := LaneCounters.zero, laneFlag := true, flagCauses := { n.flagCauses with restart := true } }

/-- A roving lane's record after a stale status cell, late when its tag is above 0 (R76). -/
def Lane.staleArrived (n : Lane) (now : Clock) (r : StatusReport) : Lane :=
  { n.statusArrived now r with
    counters := { (n.statusArrived now r).counters with stale := min (n.counters.stale + 1) 4294967295 }
    rover := if 0 < r.tag then n.rover.map fun q => { q with late := min (q.late + 1) 4294967295 } else n.rover }

theorem Lane.staleArrived_eq (rover : n.rover = some rv) (now : Clock) (r : StatusReport) : n.staleArrived now r =
    { n.statusArrived now r with
      counters := { (n.statusArrived now r).counters with stale := min (n.counters.stale + 1) 4294967295 }
      rover := some { rv with late := if 0 < r.tag then min (rv.late + 1) 4294967295 else rv.late } } := by
  rw [Lane.staleArrived, rover]
  split
  · rfl
  · rfl

/-- A current status cell finds the lane waiting for its tag. -/
theorem Lane.marginArrived_holdsVisit {tag : Nat} (tagged : n.currentTag = some tag) (now : Clock) (r : StatusReport) :
    n.HoldsVisit (n.marginArrived now r) := by
  have busy : ¬ n.Quiet := fun quiet => by
    rw [quiet.1] at tagged
    cases tagged
  unfold Lane.marginArrived Lane.statusArrived Lane.statusTaken Lane.statusSeen Lane.receiving
  exact ⟨⟨rfl, rfl, rfl, fun _ _ quiet => absurd quiet busy⟩, rfl, rfl, rfl⟩

theorem Lane.restartArrived_holdsVisit (n : Lane) (now : Clock) (r : StatusReport) :
    n.HoldsVisit (n.restartArrived now r) := by
  unfold Lane.restartArrived Lane.statusArrived Lane.statusTaken Lane.statusSeen Lane.receiving
  exact ⟨.of_eq rfl rfl rfl rfl rfl, rfl, rfl, rfl⟩

/-- A paused lane waits for no tag, so every status cell is stale there (R71). -/
theorem Lane.statusKind_of_paused (lawful : n.ModeLawful) (rover : n.rover = some rv)
    (paused : rv.visitState = .paused) (tag : Nat) : n.statusKind tag = .stale := by
  obtain ⟨-, -, -, -, quietWhen⟩ := lawful
  obtain ⟨untagged, unknown⟩ := (quietWhen rv rover).2 paused
  refine Lane.statusKind_stale (fun known => ?_) (by rw [untagged]; nofun)
  rw [unknown] at known
  cases known.2

/-- A status cell's arrival on a roving feed lane, in its dwell or not (R28, R29). -/
theorem arriveCell_rovingStatus (sound : headerPasses bs = true) (feed : l < 16) (flow : (readCell bs).flow = 4094)
    (roving : (s.lane l).mode = .roving) :
    arriveCell s l bs = if (readCell bs).e = true then (errorStatus (received s l) l, [])
      else rovingStatus (received s l) l (readStatus (readCell bs).payload) := by
  have mode : ((received s l).lane l).mode = .roving := (received_lane (fun n => n.mode) fun _ => rfl).trans roving
  have taken : checkedCell (received s l) l (readCell bs) = statusCell (received s l) l (readCell bs) := by
    by_cases dwelling : ((received s l).lane l).visitState = some .dwelling
    · rw [checkedCell_dispatches (.inr ⟨mode, dwelling⟩), dispatchCell_status flow feed]
    · rw [checkedCell, mode]
      exact (if_neg dwelling).trans (if_pos flow)
  rw [arriveCell_sound sound, taken, statusCell, if_pos mode]

/-! ### What each kind of cell does, as one change of the lane's record -/

theorem errorStatus_received (s : State) (l : Nat) :
    errorStatus (received s l) l = s.modLane l fun n => n.receiving.statusSeen s.clock := by
  rw [errorStatus_eq, received, State.modLane_modLane]
  rfl

theorem countStatus_received (s : State) (l : Nat) (r : StatusReport) :
    countStatus (received s l) l r = s.modLane l (·.statusArrived s.clock r) := by
  rw [countStatus_eq, received, State.modLane_modLane]
  rfl

theorem takeMargin_received (s : State) (l : Nat) (r : StatusReport) :
    takeMargin (countStatus (received s l) l r) l r = s.modLane l (·.marginArrived s.clock r) := by
  rw [countStatus_received, takeMargin, State.modLane_modLane]
  rfl

theorem restartSeen_received (s : State) (l : Nat) (r : StatusReport) :
    restartSeen (countStatus (received s l) l r) l = s.modLane l (·.restartArrived s.clock r) := by
  rw [countStatus_received, restartSeen, State.modLane_modLane]
  rfl

theorem countLate_received (s : State) (l : Nat) (r : StatusReport) :
    countLate (countStale (countStatus (received s l) l r) l) l r.tag = s.modLane l (·.staleArrived s.clock r) := by
  rw [countStatus_received, countStale, State.modCounters, State.modLane_modLane, countLate]
  split
  · rw [State.modRover, State.modLane_modLane]
    simp only [Lane.staleArrived, if_pos ‹0 < r.tag›]
    rfl
  · simp only [Lane.staleArrived, if_neg ‹¬ 0 < r.tag›]
    rfl

/-! ### The cases of a status cell -/

theorem received_statusKind (s : State) (l tag : Nat) :
    ((received s l).lane l).statusKind tag = (s.lane l).statusKind tag :=
  received_lane (fun n => n.statusKind tag) fun _ => rfl

theorem received_visitState (s : State) (l : Nat) : ((received s l).lane l).visitState = (s.lane l).visitState :=
  received_lane (fun n => n.visitState) fun _ => rfl

theorem received_losesLock (s : State) (l : Nat) : ((received s l).lane l).losesLock = (s.lane l).losesLock :=
  received_lane (fun n => n.losesLock) fun _ => rfl

theorem rovingStatus_restart (kind : (s.lane l).statusKind r.tag = .frontEndRestart) :
    rovingStatus (received s l) l r = (endVisit (s.modLane l (·.restartArrived s.clock r)) l none, [l]) := by
  rw [rovingStatus, received_statusKind, kind, ← restartSeen_received]
  rfl

theorem rovingStatus_stale (kind : (s.lane l).statusKind r.tag = .stale) :
    rovingStatus (received s l) l r = (s.modLane l (·.staleArrived s.clock r), []) := by
  rw [rovingStatus, received_statusKind, kind, ← countLate_received]

theorem rovingStatus_current (kind : (s.lane l).statusKind r.tag = .current) : rovingStatus (received s l) l r =
    let u := s.modLane l (·.marginArrived s.clock r)
    if r.lock = 2 then if (s.lane l).visitState = some .tuning then (roveLock u l, []) else (u, [])
    else if (s.lane l).losesLock = true then (endVisit u l (some .noLock), [l]) else (u, []) := by
  rw [rovingStatus, received_statusKind, kind, received_visitState, received_losesLock, takeMargin_received]

theorem rovingStatus_lost (kind : (s.lane l).statusKind r.tag = .current) (missing : r.lock ≠ 2)
    (loses : (s.lane l).losesLock = true) : rovingStatus (received s l) l r =
      (endVisit (s.modLane l (·.marginArrived s.clock r)) l (some .noLock), [l]) := by
  rw [rovingStatus_current kind]
  exact (if_neg missing).trans (if_pos loses)

theorem rovingStatus_locks (kind : (s.lane l).statusKind r.tag = .current) (locked : r.lock = 2)
    (tuning : (s.lane l).visitState = some .tuning) : rovingStatus (received s l) l r =
      (roveLock (s.modLane l (·.marginArrived s.clock r)) l, []) := by
  rw [rovingStatus_current kind]
  exact (if_pos locked).trans (if_pos tuning)

theorem rovingStatus_steady (kind : (s.lane l).statusKind r.tag = .current)
    (tuned : r.lock = 2 → (s.lane l).visitState ≠ some .tuning) (still : r.lock ≠ 2 → ¬ (s.lane l).losesLock = true) :
    rovingStatus (received s l) l r = (s.modLane l (·.marginArrived s.clock r), []) := by
  rw [rovingStatus_current kind]
  by_cases locked : r.lock = 2
  · exact (if_pos locked).trans (if_neg (tuned locked))
  · exact (if_neg locked).trans (if_neg (still locked))

theorem roveLock_settles (s : State) (l : Nat) (f : Lane → Lane) (settles : 0 < s.survey.settleTime) :
    roveLock (s.modLane l f) l =
      s.modLane l fun n => (f n).settlingAt (some { start := s.clock, span := 1000 * s.survey.settleTime }) := by
  have settles' : 0 < (s.modLane l f).survey.settleTime := settles
  rw [roveLock, if_pos settles', enterSettling_eq, State.modLane_modLane]
  rfl

theorem roveLock_dwells (s : State) (l : Nat) (f : Lane → Lane) (instant : s.survey.settleTime = 0) :
    roveLock (s.modLane l f) l =
      s.modLane l fun n => (f n).dwellingAt (some { start := s.clock, span := 1000 * s.survey.dwellTime }) := by
  have passed : ¬ 0 < (s.modLane l f).survey.settleTime := by
    have same : (s.modLane l f).survey.settleTime = 0 := instant
    omega
  rw [roveLock, if_neg passed, enterDwelling_eq, State.modLane_modLane]
  rfl

/-- A cell whose arrival changes the lane's record alone. -/
theorem cellArrival_becomes {f : Lane → Lane} (hl : l ≤ 16) (size : bs.length = 160) (awake : s.resetHeld = false)
    (settled : s.Settled) (arrives : arriveCell s l bs = (s.modLane l f, [])) :
    exec (.cellArrival l bs) s = .next (settledEvent s { s with lanes := s.lanes.set l (f (s.lane l)) }) := by
  rw [exec_cellArrival hl size awake, arrives, modLane_eq_set, closeEvent_settled]
  · exact settled
  · rfl

end

end Sys2Proof.Machine

open Sys2Proof Sys2Proof.Machine Host

/-- Settles O48: each cell changes the lane's record by one function, and the cells that end a visit close with the
lane's claim. -/
theorem visitsFollowStatusCells : Obligations.VisitsFollowStatusCells := by
  intro s l rv bs awake settled shaped ordered lawful feed size sound flow roving rover n r base m p stale restart current
    measuring becomes
  have tenancy : s.Tenancy [] none := (tenancy_iff s).2 ⟨ordered, lawful⟩
  have arrives := arriveCell_rovingStatus sound feed flow roving
  have unmarkedArrives : (readCell bs).e = false → arriveCell s l bs = rovingStatus (received s l) l r :=
    fun unmarked => arrives.trans (if_neg (by rw [unmarked]; nofun))
  have becomesBy : ∀ (f : Lane → Lane) (n' : Lane), arriveCell s l bs = (s.modLane l f, []) → f n = n' → becomes n' :=
    fun f n' arrived same => same ▸ cellArrival_becomes (by omega) size awake settled arrived
  have staleBy : (readCell bs).e = false → n.statusKind r.tag = .stale → becomes stale := fun unmarked kind =>
    becomesBy _ _ ((unmarkedArrives unmarked).trans (rovingStatus_stale kind)) (Lane.staleArrived_eq rover _ r)
  refine ⟨fun marked => ?_, fun unmarked paused => ?_, fun unmarked e claimed => ?_⟩
  · exact becomesBy _ _ (arrives.trans ((if_pos marked).trans (congrArg (·, []) (errorStatus_received s l)))) rfl
  · exact staleBy unmarked (Lane.statusKind_of_paused (lawful.2.1 l (by omega)) rover paused _)
  have arrives := unmarkedArrives unmarked
  have visits : n.visiting = some e := Lane.visiting_of_rover rover claimed
  have visitState : ∀ v, n.visitState = some v ↔ rv.visitState = v := fun v => by
    rw [Lane.visitState, rover, Option.map_some, Option.some.injEq]
  have kindOf : current → n.statusKind r.tag = .current := fun now => Lane.statusKind_current now.1 now.2
  have locks : current → r.lock = 2 → rv.visitState = .tuning →
      arriveCell s l bs = (roveLock (s.modLane l (·.marginArrived s.clock r)) l, []) := fun now locked tuning =>
    arrives.trans (rovingStatus_locks (kindOf now) locked ((visitState _).2 tuning))
  refine ⟨fun now locked tuning settles => ?_, fun now locked tuning atOnce => ?_, fun now tuned still => ?_,
    fun now missing loses => ?_, fun restarts => ?_, fun plain other => staleBy unmarked (Lane.statusKind_stale plain other)⟩
  · refine becomesBy _ _ ((locks now locked tuning).trans (congrArg (·, []) (roveLock_settles s l _ settles))) ?_
    exact Lane.settlingAt_eq (n := p) rover _
  · refine becomesBy _ _ ((locks now locked tuning).trans (congrArg (·, []) (roveLock_dwells s l _ atOnce))) ?_
    exact Lane.dwellingAt_eq (n := p) rover _
  · refine becomesBy _ _ (arrives.trans (rovingStatus_steady (kindOf now) (fun locked => ?_) fun missing => ?_)) rfl
    · exact fun tuning => tuned locked ((visitState _).1 tuning)
    · exact fun loses => still missing ((Lane.losesLock_iff rover).1 loses)
  · have holds := Lane.marginArrived_holdsVisit now.2 s.clock r
    have lost := rovingStatus_lost (kindOf now) missing ((Lane.losesLock_iff rover).2 loses)
    have ended := visitOver_of_event (f := (·.marginArrived s.clock r)) tenancy rover claimed holds (some .noLock)
    obtain ⟨outcome, time, margin, services⟩ := ended.outcome
    obtain ⟨q, there, same⟩ := ended.counted (holds.rover.trans rover)
    refine ⟨_, (exec_cellArrival (by omega) size awake).trans (by rw [arrives, lost]), outcome, time, margin, services,
      visit_carriages tenancy visits holds.keeps (by nofun), ended.claims, q, there, same.noLock.trans rv.ended_noLock⟩
  · have holds := n.restartArrived_holdsVisit s.clock r
    have ends := rovingStatus_restart (Lane.statusKind_restart restarts)
    have ended := visitOver_of_event (f := (·.restartArrived s.clock r)) tenancy rover claimed holds none
    obtain ⟨outcome, time, margin, services⟩ := ended.abandoned
    obtain ⟨flag, causes⟩ := ended.flags
    obtain ⟨q, there, same⟩ := ended.counted (holds.rover.trans rover)
    refine ⟨_, (exec_cellArrival (by omega) size awake).trans (by rw [arrives, ends]), outcome, time, margin, services,
      visit_carriages tenancy visits holds.keeps (by nofun), flag, causes, ended.claims, q, there,
      same.abandoned.trans rv.ended_abandoned⟩

end
